-- ==== Sys2Proof/Word.lean ====
section
/-!
DEFINITION. The plain data that commands carry: bytes and words of host memory and of the register window,
directions, reels and dancers, and how a host-memory read or a self-test test ended. A value is a bit vector only
where the spec treats it as bits (a register word, a byte of a record, a camera pixel); a count, a film position or
a level is a natural number or an integer.
-/

namespace Sys2Proof

/-- A byte of host memory or of an accessory link message. -/
abbrev Byte := BitVec 8

/-- A register of the window (R1). -/
abbrev Word32 := BitVec 32

/-- A camera pixel comes through the port at 2 bytes (R137). -/
abbrev Pixel := BitVec 16

/-- The direction of one metering count, or of film travel (00_scope, Film distance). -/
inductive Dir where
  | forward
  | reverse
  deriving DecidableEq, Repr

/-- The two reels, their tachometers and their dancers (R57, R60, R63). -/
inductive Side where
  | supply
  | takeUp
  deriving DecidableEq, Repr

/-- The two reads of a setup (R7). -/
inductive SetupPart where
  | block
  | extension
  deriving DecidableEq, Repr

/-- How a host-memory read ends (R6): with its data, or as a read error. -/
inductive ReadEnd where
  | data (bytes : List Byte)
  | error
  deriving DecidableEq, Repr

/-- A host-memory read in flight, named by what it reads (R6, HOST_READ_TIMEOUT). -/
inductive ReadTag where
  | setup (part : SetupPart)
  | slot (n : Nat)
  | profile
  | selectionMap
  | importRecord
  | reservation
  deriving DecidableEq, Repr

/-- What a self-test test found (R203): a memory test's result; the five converter readings of test 04h; the end of
a link test (05h to 07h), whose result the link has reported; the Film Present check of test 08h. -/
inductive TestEnd where
  | memory (ok : Bool)
  | references (image blip edge supply takeUp : Nat)
  | link
  | film
  deriving DecidableEq, Repr

end Sys2Proof
end

