-- ==== Sys2Proof/Syntax.lean ====
section
/-!
DEFINITION. The commands of the 760: one constructor per row of spec/opcode_table.json, in the table's order. The
table gives its rows no fields; the operands are what the row's rule needs from outside the part (a written word, the
data of a read completion, a sensor level, what happened on a wire).
-/

namespace Sys2Proof

/-- The operations and events of the 760. -/
inductive Instr where
  /-- R2: a write of `value` to WA_BASE_HI (`high`) or WA_BASE_LO. -/
  | waBaseWrite (high : Bool) (value : Word32)
  /-- R3: a write of the word `w` to CONTROL, named for its ENABLE field. -/
  | enable (w : Word32)
  /-- R205: a write of the word `w` to CONTROL with SOFT_RESET set. -/
  | softReset (w : Word32)
  /-- R19: a write of the word `w` to CONTROL with HOLD_CLEAR set. -/
  | holdClear (w : Word32)
  /-- R207: a write of the word `w` to CONTROL with WAKE set. -/
  | wake (w : Word32)
  /-- R14: a write of `bits` to POST. -/
  | post (bits : Word32)
  /-- R4: a read of STATUS. -/
  | statusRead
  /-- R200: a write of any value to FAULT_TOP. -/
  | faultTopPop (w : Word32)
  /-- R1: a write that has no effect: to STATUS, FAULT_AUX or offset 1Ch, or one that is not a whole aligned word. -/
  | registerWriteIgnored (offset : Nat) (whole : Bool) (w : Word32)
  /-- R202: power-on (`powerOn`) or RESETn held low. -/
  | fullReset (powerOn : Bool)
  /-- R202: power-on and RESETn have both ended. -/
  | startUp
  /-- R203: the running self-test test ends. -/
  | selftestTestDone (e : TestEnd)
  /-- R7: a read of the setup ends. -/
  | setupReadDone (part : SetupPart) (r : ReadEnd)
  /-- R6: 50 ms have passed since the request of the named read. -/
  | hostReadTimeout (tag : ReadTag)
  /-- R13: the sweep timer expires. -/
  | sweepTimerExpiry
  /-- R12: a read of slot `n` by a sweep or a POST write ends. -/
  | slotLook (n : Nat) (r : ReadEnd)
  /-- R43: the profile record read ends. -/
  | profileReadDone (r : ReadEnd)
  /-- R150: the Request Manager makes a choice. -/
  | passChoice
  /-- R36: the Selection Map read ends. -/
  | selectionMapReadDone (r : ReadEnd)
  /-- R144: the arbiter grants the memory port. -/
  | memoryPortGrant
  /-- R20: the Return Delay timer expires. -/
  | returnDelayExpiry
  /-- R50: one metering count, with the levels of the mark sensor's three lanes at it. -/
  | meteringCount (dir : Dir) (image blip edge : Nat)
  /-- R60: a tachometer pulse of one reel. -/
  | tachometerPulse (reel : Side)
  /-- R53: the 1 ms profile timer expires. -/
  | profileTimerExpiry
  /-- R56: a SETTLE has lasted 500 ms. -/
  | settleTimeout
  /-- R57: a 1 ms regulator period, with the two dancer codes. -/
  | tensionRegulatorPeriod (supply takeUp : Nat)
  /-- R57: both dancers have been in band for 20 ms. -/
  | tensionEstablished
  /-- R58: the out-of-band count of a dancer reaches 20 ms. -/
  | outOfBandExpiry (dancer : Side)
  /-- R60: the stall count of a reel reaches 200 ms. -/
  | reelStall (reel : Side)
  /-- R59: the Film Present input takes a level. -/
  | filmPresentChange (present : Bool)
  /-- R61: EXT_STOP is asserted. -/
  | extStopAssert
  /-- R49: EXT_STOP is released. -/
  | extStopRelease
  /-- R66: 10 s since THREAD without tension. -/
  | threadFeedTimeout
  /-- R66: 600,000 counts without a leading edge. -/
  | firstFrameSearchLimit
  /-- R68: the reverse travel of an unthread passes its limit. -/
  | unthreadTravelLimit
  /-- R70: the 500 ms wake count expires. -/
  | wakeTimeout
  /-- R71: the recovery's tension test has lasted 500 ms. -/
  | recoveryTensionTimeout
  /-- R69: the 100 ms relax ramp ends. -/
  | relaxRampEnd
  /-- R38: the Index Porter, free, starts its next transfer. -/
  | indexTransferStart
  /-- R111: an import read ends. -/
  | importReadDone (r : ReadEnd)
  /-- R174: an EXCHANGE write ends on the link: acknowledged to its last byte, or byte `refused` answered NAK. -/
  | exchange (refused : Option Nat)
  /-- R174: 100 ms after an EXCHANGE completed or a BUSY answer was taken. -/
  | changerPollTimer
  /-- R196: a STATUS read ends with its bytes. -/
  | status (bytes : List Byte)
  /-- R174: 30 s without READY. -/
  | exchangeTimeout
  /-- R169: the start-up SURVEY read ends with its bytes. -/
  | survey (bytes : List Byte)
  /-- R181: a message written to the part as a link target ends, with the bytes it carried. -/
  | bayEvent (bytes : List Byte)
  /-- R115: 0.5 ms of focus stepping. -/
  | focusStepTick
  /-- R116: the 5 ms focus settle count completes. -/
  | focusSettleDone
  /-- R134: the reservation read ends. -/
  | reservationReadDone (r : ReadEnd)
  /-- R135: 1 ms after a read that did not reserve. -/
  | reservationRereadTimer
  /-- R135: the Image Wait count reaches its limit. -/
  | imageWaitExpiry
  /-- R139: a camera line arrives. -/
  | cameraLine (pixels : List Pixel)
  /-- R137: 100 ms with no line. -/
  | cameraTimeout
  /-- R140: a flyby hold total reaches 2 ms. -/
  | flybyHoldLimit
  /-- R145: a LAMP SET write ends on the link. -/
  | lampSet (refused : Option Nat)
  /-- R145: a LAMP OFF write ends on the link. -/
  | lampOff (refused : Option Nat)
  /-- R146: a LAMP STATUS read ends with its bytes. -/
  | lampStatus (bytes : List Byte)
  /-- R146: 20 ms after a not-ready answer. -/
  | lampPollTimer
  /-- R146: 5 s after the first poll. -/
  | lampTimeout
  /-- R146: the 2 s fixed warm-up ends. -/
  | fixedWarmUpEnd
  /-- R187: the bus has been free for 50 µs. -/
  | busFree
  /-- R188: the 5 ms retry wait ends. -/
  | retryWaitEnd
  /-- R191: a clock stretch reaches 25 ms; `moved` is none in ADDRESS, or the data bytes moved before it. -/
  | clockStretchLimit (moved : Option Nat)
  /-- R192: a wire has been low for 35 ms; SCL's level then, and both wires' levels after the recovery. -/
  | lowLineLimit (sclHigh sclAfter sdaAfter : Bool)
  /-- R206: the idle count reaches Idle Time. -/
  | idleTimeExpiry
  /-- R207: the dormant count reaches Dormant Time. -/
  | dormantTimeExpiry
  /-- R188: the target answers the head's address byte with NAK. -/
  | addressNotAcknowledged
  /-- R190: the link loses arbitration, in ADDRESS (`none`) or in WRITE after `moved` data bytes. -/
  | lostArbitration (moved : Option Nat)
  /-- R194: the address byte of another controller's transfer. -/
  | watchedAddressByte (address : Nat) (write : Bool)
  /-- R190: the stop condition of another controller's transfer. -/
  | foreignStopCondition
  deriving DecidableEq, Repr

end Sys2Proof
end

