-- ==== Sys2Proof/Decode.lean ====
section
/-!
DEFINITION. The 760 is a block: spec/opcode_table.json gives its rows no bits, so no word spells a command.
-/

namespace Sys2Proof

/-- The command a word spells by the table's bits. The table gives no row any bits, so no word spells a command. -/
def decodeTableWord (_nbits _w : Nat) : Option Instr := none

end Sys2Proof
end

