-- ==== Sys2Proof/Config.lean ====
section
/-!
DEFINITION. The values the spec leaves open. Each is an opaque constant: no proof can see what it is, and a claim
that mentions one holds whatever it is. A constant of type `Nat → _` is applied to the counter `Core.free`, which
advances at each use, so that every use is a fresh value.
-/

namespace Sys2Proof.Config

/-- Free value: the speed (in 1/1000 mm/s) at which the position loop of SETTLE moves the film. The spec bounds it by
Creep Speed (R56) and gives no law. See notes/assumptions/10.md. -/
opaque settleSpeed : Nat → Nat

/-- Free value: the auxiliary value of a THREAD_FAIL fault, which R66, R68 and R201 do not set.
See notes/assumptions/11.md. -/
opaque threadFailAux : Nat → Nat

/-- Free value: whether a TENSION_LOW of R70 or R71 that finds both dancers out of band names the supply dancer.
See notes/assumptions/12.md. -/
opaque lowNamesSupply : Nat → Bool

/-- Free value: the torque (in thousandths of full torque) that follows the speed reference, for the reel (`true` the
supply reel) and the signed reference in 1/1000 mm/s. R57 adds the correction to it and gives no law for it.
See notes/assumptions/13.md. -/
opaque followTorque : Bool → Int → Int

/-- Free value: the torque (in 1/64 thousandths) that is left of a drive's torque at a regulator period of the relax
ramp, for the reel (`true` the supply reel). R69 ramps the torque to zero over 100 ms and gives no law.
See notes/assumptions/47.md. -/
opaque relaxTorque : Bool → Nat → Nat

end Sys2Proof.Config
end

