-- ==== Sys2Proof/Machine/State.lean ====
section
/-!
DEFINITION. The state of the 760, block by block as 00_scope's block diagram names them, as plain data; the reasons a
step can stop; and the state after a full reset. Positions are integers in metering counts, speeds are in 1/1000 mm/s
where the ramp of R53 needs the thousandths and in mm/s elsewhere. A running count of time is held as the millisecond
of the model's clock at which it started (`Count`); its expiry is a command.
-/

namespace Sys2Proof.Machine

/-- A count or timer: `none` while stopped, `some t` while it runs since millisecond `t` of the model's clock. -/
abbrev Count := Option Nat

/-! ## System Port, interrupts, faults, Status Writer: the front -/

/-- R5's source block codes. -/
inductive Source where
  | selfTest | systemPort | requestManager | transport | indexUnit | focusUnit | captureUnit | profileStore
  | rollManager | link | faultQueue
  deriving DecidableEq, Repr

/-- R201's fault names. -/
inductive FaultName where
  | setupBad | configMismatch | selftest | memoryRead
  | tensionLow | tensionHigh | filmBreak | reelStall | extStop | threadFail | noFrames | stopMiss
  | indexTruncated | importRejected | indexFull
  | fifoOverflow | cameraTimeout | lampTimeout | changerFault
  | linkNak | linkDataNak | linkArb | linkStretch | linkStuck | faultsDiscarded
  deriving DecidableEq, Repr

/-- A fault entry (R199): code, source, 24 bits of info and a 28-bit auxiliary value. -/
structure FaultEntry where
  name : FaultName
  source : Source
  info : BitVec 24
  aux : BitVec 28
  deriving DecidableEq, Repr

/-- The triggers of a Status Snapshot (R22), as the bits of its Triggers field. -/
structure Triggers where
  setup : Bool := false
  mode : Bool := false
  mountDone : Bool := false
  unmountDone : Bool := false
  passEnd : Bool := false
  fault : Bool := false
  mapEmptied : Bool := false
  deriving DecidableEq, Repr

/-- The Status Writer's write mark (R22): idle; or writing, with the writes still to be issued (offset in the record
and bytes), the signal flag of the write, and the follow-up held for it. -/
inductive SnapMark where
  | idle
  | writing (left : List (Nat × List Byte)) (signal : Bool) (followUp : Option (Triggers × Bool))
  deriving DecidableEq, Repr

/-- The register window with its latches, the interrupt causes, the Fault Queue and the Status Writer. -/
structure Front where
  waBaseLo : Word32
  waBaseHi : Word32
  enable : Bool
  setupBad : Bool
  setupReason : Nat
  causeReturn : Bool
  causeFault : Bool
  causeSnapshot : Bool
  hold : Bool
  faults : List FaultEntry
  overflow : Bool
  discards : Nat
  snapStamp : Nat
  snapMark : SnapMark
  /-- The word the last register read of the window answered. -/
  busReply : Word32
  /-- How many MSI messages the part has sent. -/
  msiSent : Nat
  deriving DecidableEq, Repr

/-! ## Pins and device modes -/

/-- The inputs the part samples and the pulses it makes (00_scope, External connections). -/
structure Pins where
  extStop : Bool
  filmPresent : Bool
  /-- The dancer codes of the latest regulator period. -/
  dancerSupply : Nat
  dancerTakeUp : Nat
  strapBays : Nat
  strapAddress : Nat
  /-- MSI enabled in the endpoint's configuration (R19). -/
  msiEnabled : Bool
  /-- The torque demanded of each reel's drive in the latest regulator period, in 1/64 thousandths of full torque. -/
  torqueSupply : Int
  torqueTakeUp : Int
  /-- How many STROBE pulses have been fired. -/
  strobes : Nat
  /-- How many focus steps have been issued. -/
  focusSteps : Nat
  /-- How many recovery clock pulses the accessory link has sent on SCL (R192). -/
  linkPulses : Nat
  deriving DecidableEq, Repr

/-- The replies of R51. -/
inductive Reply where
  | arrived | stopMiss | filmEnd | stopped | threaded | threadFail | noFrames | unthreaded | relaxed | awake
  | refused | tensionLow | tensionHigh | filmBreak | reelStall | extStop
  deriving DecidableEq, Repr

/-- The device mode (R202 to R207); `held` is the part held in a full reset, when the endpoint does not answer. -/
inductive Mode where
  | held | startUp | failed | configWait | run | standby | dormant
  deriving DecidableEq, Repr

inductive ResetCause where
  | power | pin | soft
  deriving DecidableEq, Repr

structure Modes where
  mode : Mode
  progress : Nat
  resetCause : ResetCause
  /-- Power-on was part of the full reset in force (R202). -/
  powerOn : Bool
  /-- The result of the running link test, once the link has reported it (R203). -/
  linkResult : Option Bool
  idle : Count
  dormant : Count
  /-- The last reply of the Transport Controller to the device-mode logic (R51). -/
  reply : Option Reply
  deriving DecidableEq, Repr

/-! ## Setup, profiles, requests -/

/-- The Setup Block's fields in use (R9). -/
structure Setup where
  ringBase : Nat
  slotAlloc : Nat
  slotCount : Nat
  sweepInterval : Nat
  returnCount : Nat
  returnDelay : Nat
  idleTime : Nat
  dormantTime : Nat
  swapAge : Nat
  ageLimit : Nat
  linkSpeed : Nat
  linkAddress : Nat
  expected : Nat
  deriving DecidableEq, Repr

/-- An entry of the Reel Type Table (R64), lengths in µm but for Nominal Length in counts. -/
structure ReelType where
  hub : Nat
  flange : Nat
  thickness : Nat
  nominal : Nat
  deriving DecidableEq, Repr

/-- A checked and clamped profile record (R41). -/
structure Profile where
  id : Nat
  reelType : Nat
  depth : Nat
  confirmCount : Nat
  gateOffset : Nat
  accel : Nat
  shuttleSpeed : Nat
  scanSpeed : Nat
  indexSpeed : Nat
  creepSpeed : Nat
  approach : Nat
  stopTolerance : Nat
  strobeLatency : Nat
  endMargin : Nat
  reverseMargin : Nat
  driftWindow : Nat
  tensionSetpoint : Nat
  tensionBand : Nat
  kp : Nat
  ki : Nat
  nominalPitch : Nat
  minPitch : Nat
  minLength : Nat
  maxLength : Nat
  edgeThreshold : Nat
  blipLead : Nat
  smallMax : Nat
  mediumMax : Nat
  spliceMin : Nat
  spliceMax : Nat
  focusMin : Nat
  focusMax : Nat
  defaultStep : Nat
  probeStep : Nat
  bandLength : Nat
  softRatio : Nat
  scoreShift : Nat
  lampIntensity : Nat
  width : Nat
  height : Nat
  windowX : Nat
  windowY : Nat
  windowWidth : Nat
  windowHeight : Nat
  imageWait : Nat
  deriving DecidableEq, Repr

inductive SetName where
  | a | b
  deriving DecidableEq, Repr

/-- A SET PROFILE being read and checked (R41). -/
structure Load where
  slot : Nat
  stamp : Nat
  address : Nat
  deriving DecidableEq, Repr

/-- The Profile Store (R40). The staging buffer is the data of the read that ends the load. -/
structure Store where
  setA : Option Profile
  setB : Option Profile
  active : Option SetName
  pending : Option SetName
  load : Option Load
  deriving DecidableEq, Repr

/-- A target in one of its three forms, or none (R26). -/
inductive Target where
  | none
  | frame (n : Nat)
  | blip (batch document page : Nat)
  | position (x : Int)
  deriving DecidableEq, Repr

/-- The kinds of request (02_requests). -/
inductive Kind where
  | mount | unmount | find | scan | index | probe | exportIndex | setProfile | cancel
  deriving DecidableEq, Repr

/-- The part's copy of a taken and validated request. -/
structure Request where
  kind : Kind
  notify : Bool
  flyby : Bool
  retry : Nat
  probeOnSoft : Bool
  roll : Nat
  target : Target
  /-- The End Target of a SCAN whose Extent Form is 1. -/
  endTarget : Option Target
  count : Nat
  argA : Nat
  argB : Nat
  deriving DecidableEq, Repr

/-- What holds a HELD slot (R12). -/
inductive HeldBy where
  | pendingSet | activePass | immediate
  deriving DecidableEq, Repr

/-- An entry of the slot-held table (R12). -/
inductive SlotEntry where
  | lookable
  | held (stamp : Nat) (by' : HeldBy)
  deriving DecidableEq, Repr

/-- An entry of the Pending Set (R148), with the time of its taking and the COUNT clamp of R30. `returned` marks a
request whose Return has been decided and not yet issued. -/
structure PendReq where
  slot : Nat
  stamp : Nat
  req : Request
  passOver : Nat
  active : Bool
  takenAt : Nat
  clamps : Nat
  returned : Bool
  deriving DecidableEq, Repr

/-- The outcomes of R47. -/
inductive Res where
  | done | partly | cancelled | badRequest | rollAbsent | notFound | filmEnd | indexFull | noRoom | profileBusy
  | transportFault | linkFault | changerFault | indexMismatch
  deriving DecidableEq, Repr

/-- A decided Return (R18, R31). `sampled` holds Final Position and Elapsed once the Result Writer has sampled them. -/
structure Return where
  slot : Nat
  stamp : Nat
  outcome : Res
  detail : Nat
  clamps : Nat
  captured : Nat
  missed : Nat
  indexed : Nat
  firstImage : Nat
  lastImage : Nat
  notify : Bool
  takenAt : Nat
  /-- The request was the Active Pass, which this Return ends. -/
  endsPass : Bool
  sampled : Option (Int × Nat)
  /-- How many of the Return's writes have been issued. -/
  issued : Nat
  deriving DecidableEq, Repr

/-- What the Result Writer has to write, oldest first: a Taken Stamp (R16) or a Return (R18). -/
inductive ResultItem where
  | taken (slot stamp : Nat)
  | result (r : Return)
  deriving DecidableEq, Repr

/-! ## Passes -/

inductive PassState where
  | mounting | unmounting | seeking | extending | capturing | probing | retrying | ending
  deriving DecidableEq, Repr

inductive FrameState where
  | waiting | fired | delivered | missed | skipped
  deriving DecidableEq, Repr

/-- A record of the Capture Plan (R161): the frame's code and state, and whether it is on the Retry List. -/
structure PlanFrame where
  code : Nat
  st : FrameState
  deriving DecidableEq, Repr

/-- What the pass is waiting for. -/
inductive Activity where
  /-- the Selection Map read (R36) -/
  | mapRead
  /-- a RUN reverse to the frontier, before an extending run for plan frame `k` (R80, R157) -/
  | backToFrontier (k : Nat)
  /-- an extending run for plan frame `k`, or for the start while it is unresolved (R157) -/
  | extending (k : Nat)
  /-- a POSITION order for plan frame `k` (R158), or for a PROBE's frame -/
  | positioning (k : Nat)
  /-- at rest at plan frame `k`, in stop mode (R158) -/
  | atFrame (k : Nat)
  /-- a probe of the Focus Unit (R125, R163) -/
  | probing (k : Nat)
  /-- the run-up of a flyby walk that begins at plan frame `k` (R159) -/
  | runUp (k : Nat)
  /-- a flyby walk; the frame being taken or awaited is plan frame `k` (R159) -/
  | walking (k : Nat)
  /-- a flyby walk whose frames have been taken and not all reported; the pass goes on from plan frame `k` (R159, R161) -/
  | walkTail (k : Nat)
  /-- the STOP that ends the forward walk (R157, R159) -/
  | walkStop
  /-- the forward walk is over and images of it are still filling (R162) -/
  | walkWait
  /-- the Retry List is used up for this round and images are still filling (R162) -/
  | retryWait
  /-- a sequence of the Roll Manager -/
  | rolls
  /-- nothing: the pass is in ENDING, or waits for its cancel to finish -/
  | idle
  deriving DecidableEq, Repr

/-- Why a pass is ending (R166). -/
inductive EndCause where
  | cancelled (detail : Nat)
  | noRoom
  | walkDone
  | fixed (outcome : Res) (detail : Nat)
  deriving DecidableEq, Repr

/-- The kinds of pass: of a request, or automatic (R154, R155). -/
inductive PassKind where
  | request (k : Kind)
  | autoRecovery
  | swapUnmount
  | swapMount
  deriving DecidableEq, Repr

/-- The Active Pass record (R149). -/
structure Pass where
  kind : PassKind
  slot : Nat
  stamp : Nat
  req : Request
  takenAt : Nat
  clamps : Nat
  st : PassState
  act : Activity
  start : Option Nat
  /-- The Capture Plan, from the start frame on; a plan with an End Target grows frame by frame. -/
  plan : List PlanFrame
  /-- The codes of a Selection Map, once read. -/
  codes : Option (List Nat)
  /-- The number of frames in the range, once known. -/
  size : Option Nat
  retryList : List Nat
  round : Nat
  /-- The last plan frame attempted in the present round. -/
  roundAt : Option Nat
  /-- RETRYING has begun. -/
  retrying : Bool
  /-- A frame of the range has been captured: its strobe has fired (R164). -/
  captured : Bool
  /-- The frame walked to has been given to the Capture Unit (R159). -/
  given : Bool
  indexed : Nat
  firstImage : Nat
  lastImage : Nat
  /-- The capture at the frame at rest is a recapture (R125). -/
  recapture : Bool
  /-- The strobe for the frame at rest has fired. -/
  strobed : Bool
  /-- The target T of the POSITION order last issued. -/
  target : Int
  cancel : Option Nat
  ending : Option EndCause
  waitStop : Bool
  waitProbe : Bool
  /-- Some frame lies beyond the film's end, or beyond a frozen frontier. -/
  beyondEnd : Bool
  beyondFull : Bool
  /-- The Return has been decided. -/
  decided : Bool
  deriving DecidableEq, Repr

/-- A roll swap in progress (R155): its roll, and whether the automatic mount is not to be made (R182). -/
structure Swap where
  roll : Nat
  noMount : Bool
  deriving DecidableEq, Repr

/-- An EXPORT in service (R38). -/
structure Export where
  slot : Nat
  stamp : Nat
  roll : Nat
  address : Nat
  length : Nat
  notify : Bool
  takenAt : Nat
  deriving DecidableEq, Repr

/-- An immediate request's header, kept until its Return (R31). -/
structure Served where
  slot : Nat
  stamp : Nat
  notify : Bool
  takenAt : Nat
  deriving DecidableEq, Repr

/-- The Request Manager. -/
structure ReqMgr where
  slots : List SlotEntry
  pendingSet : List PendReq
  pass : Option Pass
  swap : Option Swap
  exports : List Export
  loading : Option Served
  notifyCount : Nat
  returnDelay : Count
  deriving DecidableEq, Repr

/-! ## Memory port -/

/-- The six requesters, in the circle of R144. -/
inductive Requester where
  | imageWriter | boardReader | resultWriter | indexPorter | statusWriter | reservationReader
  deriving DecidableEq, Repr

/-- A transaction the port has put on the link (R6). -/
inductive Transaction where
  | read (by' : Requester) (address length : Nat)
  | write (by' : Requester) (address : Nat) (bytes : List Byte)
  deriving DecidableEq, Repr

/-- A read of the Board Reader. -/
inductive BoardRead where
  | setup (part : SetupPart)
  | slot (n : Nat) (bySweep : Bool)
  | profile (address : Nat)
  | selectionMap (address length : Nat)
  deriving DecidableEq, Repr

/-- A setup read in progress: the latched base and the data read so far (R7). -/
structure SetupRead where
  base : Nat
  block : Option (List Byte)
  extension : Option (List Byte)
  deriving DecidableEq, Repr

structure Port where
  /-- The setup read in progress, with the base it latched (R2, R7). -/
  setupRead : Option SetupRead
  /-- The base of the Work Area in use (R11). -/
  workArea : Option Nat
  setup : Setup
  sweepTimer : Count
  boardQueue : List BoardRead
  boardFlight : List BoardRead
  /-- The slot reads of the sweep in progress that have ended before a lower slot's, in slot order (R13). -/
  sweepEnded : List (Nat × ReadEnd)
  /-- The slot reads in flight that are no looks: issued while the slot was HELD, or in flight as a look at the slot took
  it (R13, R15, R16). -/
  dropped : List (Nat × Bool)
  results : List ResultItem
  /-- The requester granted last (R144). -/
  last : Requester
  escalated : Bool
  issued : Option Transaction
  deriving DecidableEq, Repr

/-! ## Transport Controller -/

inductive TState where
  | unthreaded | threading | unreferenced | hold | move | unthreading | relaxed | fault
  deriving DecidableEq, Repr

/-- A positional order (R51). The speed of a RUN is in mm/s. -/
inductive MoveOrder where
  | position (t : Int)
  | run (dir : Dir) (speed : Nat) (stopAt : Option Int) (extending : Bool)
  deriving DecidableEq, Repr

inductive Leg where
  | stageForward | stageReverse | creep | runForward | runReverse
  deriving DecidableEq, Repr

/-- What a braking leads to once the reference has reached its goal (R52, R54, R56, R72). -/
inductive BrakeGoal where
  | toCreep
  | reverseEnd
  | runEnd
  | creepEnd
  | stop
  | filmEnd
  | replan (o : MoveOrder)
  | softReset
  deriving DecidableEq, Repr

inductive Phase where
  | accel | cruise | creep | settle
  | brake (goal : BrakeGoal)
  deriving DecidableEq, Repr

/-- The move plan (R74). -/
structure Plan where
  order : MoveOrder
  staging : Int
  leg : Leg
  endPoint : Option Int
  retried : Bool
  deriving DecidableEq, Repr

/-- The steps of a threading (R66); `noFrames` is the braking after the search's limit. -/
inductive ThreadStep where
  | feed | seek | stop | noFrames
  deriving DecidableEq, Repr

/-- A radius window (R63). -/
structure Window where
  pulses : Nat
  counts : Nat
  dir : Option Dir
  deriving DecidableEq, Repr

/-- A reel: its radius (R63), the film length on it since its last measurement (R65), its window and stall count. -/
structure Reel where
  radius : Option Nat
  length : Int
  window : Option Window
  stall : Count
  deriving DecidableEq, Repr

/-- A dancer's side of its band (R58). -/
inductive Band where
  | low | inside | high
  deriving DecidableEq, Repr

/-- A dancer's regulator (R57, R58): running sum, correction in 1/64 thousandths of full torque, whether the correction
is clamped, and the out-of-band count with its side. -/
structure Dancer where
  sum : Int
  correction : Int
  clamped : Bool
  out : Option (Bool × Nat)
  deriving DecidableEq, Repr

structure Transport where
  p : Int
  st : TState
  /-- HOLD is TENSIONING (R48). -/
  tensioning : Bool
  /-- The 100 ms relax ramp (R69). -/
  relaxRamp : Count
  /-- A wake is wanted as soon as the relax ramp ends. -/
  wakePending : Bool
  /-- The device-mode logic waits for the reply to its WAKE (R51, R70). -/
  wakeWaits : Bool
  plan : Option Plan
  phase : Phase
  vRef : Nat
  dir : Dir
  /-- A positional order or an unthread that waits for a wake (R51). -/
  waiting : Option MoveOrder
  waitingUnthread : Bool
  /-- The Roll Manager waits for the reply to THREAD, UNTHREAD or RECOVER. -/
  rollWaits : Bool
  /-- A STOP of the Active Pass waits for rest. -/
  stopWaits : Bool
  threadStep : ThreadStep
  /-- P where tension was established in threading (R66). -/
  markP : Int
  /-- The reverse travel in counts, net of forward counts, since the last UNTHREAD or RECOVER was taken (R68). -/
  travel : Int
  /-- L_tu has fallen below 400,000 counts in this unthread (R68). -/
  unthreadSlow : Bool
  /-- An unthread has seen Film Present clear and brakes (R68). -/
  unthreadEnding : Bool
  /-- A soft reset brakes a THREADING or UNTHREADING (R72). -/
  resetBraking : Bool
  /-- The tension test of a recovery (R71). -/
  tensionTest : Bool
  wakeCount : Count
  testCount : Count
  feedCount : Count
  settleCount : Count
  established : Bool
  /-- Both dancers are in band since (R57). -/
  inBand : Count
  supplyDancer : Dancer
  takeUpDancer : Dancer
  supply : Reel
  takeUp : Reel
  geometry : Option ReelType
  /-- Entries 9 to 15 of the Reel Type Table; none is an unused entry. -/
  reelTypes : List (Option ReelType)
  deriving DecidableEq, Repr

/-! ## Index Unit and Index Porter -/

inductive Origin where
  | detected | predicted | imported
  deriving DecidableEq, Repr

inductive BlipClass where
  | none | small | medium | large
  deriving DecidableEq, Repr

/-- A record of the Frame Index (R93). Frame Number is its place in the list, from 1. -/
structure Entry where
  lead : Int
  length : Nat
  origin : Origin
  blip : BlipClass
  batch : Nat
  document : Nat
  page : Nat
  spliceBefore : Bool
  short : Bool
  long : Bool
  gapBefore : Bool
  soft : Bool
  captured : Bool
  saturated : Bool
  captureCount : Nat
  score : Option Nat
  deriving DecidableEq, Repr

inductive DetState where
  | resync | gap | frame
  deriving DecidableEq, Repr

/-- The edge detector (R89): its state and its run (first coordinate, samples). -/
structure Detector where
  st : DetState
  run : Option (Int × Nat)
  deriving DecidableEq, Repr

/-- A pulse of a lane (R99, R101): its start and its length in counts. -/
structure Pulse where
  start : Int
  length : Nat
  deriving DecidableEq, Repr

/-- The pending pulse (R99), with its class once decided. -/
structure HeldPulse where
  start : Int
  length : Nat
  cls : Option BlipClass
  deriving DecidableEq, Repr

/-- A frame opened in EXTEND or LOST (R95), or a merged frame (R96). `trail` is set when its trailing edge is
confirmed and it waits for its blip. -/
structure OpenFrame where
  lead : Int
  merged : Bool
  gapBefore : Bool
  blip : Option HeldPulse
  trail : Option Int
  deriving DecidableEq, Repr

/-- A forward motion (R87, R92, R103, R104). -/
structure Motion where
  start : Int
  /-- The motion has passed the frontier continuously. -/
  extending : Bool
  /-- The motion is ahead, or indexing is off for its rest. -/
  ahead : Bool
  /-- The last edge matched or ignored. -/
  lastEdge : Option Int
  matched : List Nat
  /-- How many entries have had their missing-entry test. -/
  tested : Nat
  /-- The coordinate at which the detector last left RESYNC. -/
  leftResync : Option Int
  /-- The prediction deadline in force has been acted on (R98). -/
  deadlineDone : Bool
  deriving DecidableEq, Repr

inductive UnitState where
  | off | verify | extend | lost
  deriving DecidableEq, Repr

inductive ImportStatus where
  | none | unconfirmed | confirmed
  deriving DecidableEq, Repr

/-- An import read, checked and staged (R111). -/
structure Staged where
  entries : List Entry
  frontier : Int
  pitch : Nat
  deriving DecidableEq, Repr

structure IndexUnit where
  entries : List Entry
  frontier : Int
  drift : Int
  pitch : Option Int
  gap : Int
  refImage : Option Int
  refBlip : Option Int
  refEdge : Option Int
  detector : Detector
  unit : UnitState
  motion : Option Motion
  /-- The next kept sample begins a forward motion: MOVE was entered, or a rest or a reverse count came since (R87). -/
  begins : Bool
  openFrame : Option OpenFrame
  /-- A frame whose trailing edge is confirmed and whose blip is undecided. -/
  waitingFrame : Option OpenFrame
  blipPulse : Option Pulse
  pendingPulse : Option HeldPulse
  edgePulse : Option Pulse
  importCount : Nat
  importStatus : ImportStatus
  predictedRun : Nat
  lost : Bool
  full : Bool
  splicePending : Bool
  wake : Bool
  /-- The next Detected entry appended after a Detected one updates p and g (R97). -/
  pitchFollows : Bool
  exportStamp : Nat
  staged : Option Staged
  /-- The search for frame 1 (R91). -/
  searching : Bool
  deriving DecidableEq, Repr

/-- A transfer of the Index Porter (R38): an EXPORT, the save of an unmount, or the import of a mount. -/
inductive Transfer where
  | exportFor (slot stamp : Nat)
  | save (bay address roll : Nat)
  | load (address roll slot stamp : Nat)
  deriving DecidableEq, Repr

/-- The Index Porter's write in progress (R24): the header fixed at its start and the number of writes issued. -/
structure ExportJob where
  transfer : Transfer
  address : Nat
  stamp : Nat
  roll : Nat
  count : Nat
  frontier : Int
  drift : Int
  profileId : Nat
  pitch : Nat
  issued : Nat
  deriving DecidableEq, Repr

/-- The Index Porter's read in progress (R111): the header once read, and whether the next read has been issued. -/
structure ImportJob where
  address : Nat
  roll : Nat
  slot : Nat
  stamp : Nat
  header : Option (List Byte)
  inFlight : Bool
  deriving DecidableEq, Repr

inductive PorterJob where
  | idle
  | writing (j : ExportJob)
  | reading (j : ImportJob)
  deriving DecidableEq, Repr

structure Porter where
  waiting : List Transfer
  job : PorterJob
  deriving DecidableEq, Repr

/-! ## Focus Unit -/

inductive Purpose where
  | place | park
  deriving DecidableEq, Repr

inductive FocusState where
  | parked
  | moving (purpose : Purpose)
  | settled
  | probing
  deriving DecidableEq, Repr

/-- The placement record (R121). -/
structure Placement where
  frame : Nat
  band : Nat
  step : Nat
  source : Option Nat
  deriving DecidableEq, Repr

/-- A present entry of the Focus Map (R119). -/
structure BandEntry where
  best : Nat
  reference : Nat
  probes : Nat
  deriving DecidableEq, Repr

inductive ProbePhase where
  | moving | waiting | reading
  deriving DecidableEq, Repr

/-- The probe record (R126). -/
structure Probe where
  frame : Nat
  target : Int
  band : Nat
  delta : Nat
  centre : Int
  shift : Nat
  scores : List Nat
  phase : ProbePhase
  cancelled : Bool
  deriving DecidableEq, Repr

/-- A PLACE or PARK held during a probe (R116). -/
inductive HeldOrder where
  | place (frame : Nat) (target : Int)
  | park
  deriving DecidableEq, Repr

structure Focus where
  counter : Nat
  commanded : Nat
  st : FocusState
  settle : Count
  /-- Steps of the homing run still to be issued (R117). -/
  homing : Nat
  placement : Option Placement
  map : List (Option BandEntry)
  probe : Option Probe
  held : List HeldOrder
  deriving DecidableEq, Repr

/-! ## Capture Unit -/

/-- A strobed ring slot of the filling list (R138, R141). -/
structure Image where
  ringSlot : Nat
  address : Nat
  alloc : Nat
  roll : Nat
  frame : Nat
  lead : Int
  pStrobe : Int
  step : Nat
  width : Nat
  height : Nat
  depth : Nat
  unsettled : Bool
  fullDepth : Bool
  stopMode : Bool
  recapture : Bool
  damaged : Bool
  slot : Nat
  stamp : Nat
  /-- The source band of the placement under which the strobe fired (R124). -/
  source : Option Nat
  /-- The lines that entered the Line FIFO. -/
  entered : Nat
  /-- The readout has ended: no further line will enter. -/
  ended : Bool
  score : Option Nat
  /-- The Focus Unit's judgement of a focus-valid capture. -/
  soft : Option Bool
  imageStamp : Nat
  /-- How many of the image's writes have been issued: the tail zero, the header, the rows' chunks, the closing
  fields and the tail. -/
  headDone : Nat
  rowsDone : Nat
  chunksDone : Nat
  closed : Bool
  deriving DecidableEq, Repr

inductive CameraState where
  | idle | readout | discarding
  deriving DecidableEq, Repr

/-- The exposure being read out (R137). -/
structure Readout where
  preview : Bool
  stopMode : Bool
  width : Nat
  height : Nat
  depth : Nat
  lines : Nat
  /-- The hold total of the image (R140): the ms of CAM_HOLD that have ended, and the start of the one in force. -/
  holdTotal : Nat
  holdSince : Count
  deriving DecidableEq, Repr

/-- The current score (R123), with the window it began with. -/
structure Score where
  sum : Nat
  x : Nat
  y : Nat
  width : Nat
  height : Nat
  shift : Nat
  deriving DecidableEq, Repr

/-- The strobe compare when ARMED (R83, R84). -/
structure Armed where
  frame : Nat
  fullDepth : Bool
  target : Int
  compare : Int
  deriving DecidableEq, Repr

/-- A stop-mode capture in progress (R82, R135, R158). -/
structure StopCapture where
  frame : Nat
  target : Int
  fullDepth : Bool
  recapture : Bool
  arrived : Bool
  deriving DecidableEq, Repr

/-- The current frame of a flyby walk (R136). -/
structure FlybyFrame where
  frame : Nat
  fullDepth : Bool
  deriving DecidableEq, Repr

/-- The reservation read (R134): wanted, issued, or issued with a result that will not be used (R135). -/
inductive Reservation where
  | none | queued | flight | dead
  deriving DecidableEq, Repr

inductive LampState where
  | off | warming | ready
  deriving DecidableEq, Repr

structure Lamp where
  /-- Lamp control is PRESENT. -/
  present : Bool
  st : LampState
  /-- Polling has begun in the present warm-up record (R146). -/
  polling : Bool
  pollTimer : Count
  pollLimit : Count
  /-- The warm-up record's number, by which a stale answer is known. -/
  serial : Nat
  fixed : Count
  lastSent : Nat
  deriving DecidableEq, Repr

structure Capture where
  cursor : Nat
  inHand : Option Nat
  filling : List Image
  counter : Nat
  armed : Option Armed
  camera : CameraState
  readout : Option Readout
  /-- The lines in the Line FIFO, oldest first. -/
  fifo : List (List Byte)
  camHold : Bool
  score : Option Score
  reservation : Reservation
  imageWait : Count
  reread : Count
  stop : Option StopCapture
  flyby : Option FlybyFrame
  lamp : Lamp
  deriving DecidableEq, Repr

/-! ## Roll Manager -/

inductive BayState where
  | empty | loaded | bound | mounted | failed
  deriving DecidableEq, Repr

/-- A bay record (R168). -/
structure Bay where
  st : BayState
  roll : Option Nat
  selection : Nat
  saveAddress : Option Nat
  saved : Option (Nat × Int)
  deriving DecidableEq, Repr

inductive SeqStep where
  | save | clear | back | fetch | thread | load | install
  deriving DecidableEq, Repr

/-- An exchange with the changer (R174). -/
structure Exchange where
  serial : Nat
  bay : Nat
  /-- The poll count, from the EXCHANGE's completion. -/
  poll : Count
  /-- The 100 ms before the next STATUS read. -/
  timer : Count
  deriving DecidableEq, Repr

/-- The sequence record (R171, R179). -/
structure Seq where
  mount : Bool
  bay : Nat
  step : SeqStep
  cancel : Bool
  /-- A Bay Event has emptied the target bay (R182). -/
  emptied : Bool
  /-- The release of the MOUNTED bay waits for an EXPORT that is WRITING (R39). -/
  releaseWaits : Bool
  exchange : Option Exchange
  /-- The import source, if the sequence has one (R176). -/
  source : Option Nat
  /-- The installed record is also the save (R177). -/
  sourceIsSave : Bool
  rejected : Bool
  deriving DecidableEq, Repr

structure RollMgr where
  bays : List Bay
  bayCount : Nat
  /-- The changer mode is CHANGER. -/
  changer : Bool
  /-- The self-test's changer check has ended (R169). -/
  checked : Bool
  cassette : Option Nat
  seq : Option Seq
  serial : Nat
  deriving DecidableEq, Repr

/-! ## Accessory Link Controller -/

inductive LinkRequester where
  | rollManager | captureUnit | startUp
  deriving DecidableEq, Repr

/-- The messages the part sends (10_accessory_link), with the serial of the exchange or poll record they belong to. -/
inductive LinkMsg where
  | exchange (bay serial : Nat)
  | status (serial : Nat)
  | survey
  | lampSet (intensity : Nat)
  | lampOff
  | lampStatus (serial : Nat)
  deriving DecidableEq, Repr

structure LinkItem where
  msg : LinkMsg
  by' : LinkRequester
  deriving DecidableEq, Repr

inductive LinkDetail where
  | nak | dataNak | arb | stretch | stuck | down
  deriving DecidableEq, Repr

inductive LinkState where
  | idle | waitFree | address | write | read | stop | retryWait | listen | target | down
  deriving DecidableEq, Repr

structure Link where
  queue : List LinkItem
  /-- The submissions that wait at their requesters for a place in the queue, earliest first (R185). -/
  waiting : List LinkItem
  st : LinkState
  /-- The link speed is 400 kHz. -/
  fast : Bool
  address : Nat
  retries : Nat
  losses : Nat
  moved : Nat
  retryWait : Count
  /-- The bus-free count and the low-line count, as the moment they last started. -/
  freeCount : Count
  lowCount : Count
  /-- A LISTEN after a loss in ADDRESS still reads the winner's address (R190). -/
  listenAddress : Bool
  /-- The head has failed and leaves the queue at the stop condition. -/
  failed : Option LinkDetail
  buffer : List Byte
  tooLong : Bool
  /-- A soft reset has met the message being taken: it is discarded at its stop (R198). -/
  dropMessage : Bool
  /-- The self-test's link check has ended: the target side is open (R194, R198). -/
  opened : Bool
  deriving DecidableEq, Repr

/-! ## Reports between blocks -/

/-- The reports that blocks send each other inside one step. They are taken in the order they are made. -/
inductive Signal where
  /-- a reply of the Transport Controller to the Active Pass -/
  | passReply (r : Reply)
  /-- a safety event, told to the Active Pass (R62) -/
  | safety (r : Reply)
  /-- a reply of the Transport Controller to the Roll Manager's sequence -/
  | rollReply (r : Reply)
  /-- a reply of the Transport Controller to the device-mode logic -/
  | modeReply (r : Reply)
  /-- R108: append, merge, match, truncation and Full -/
  | appended (n : Nat)
  | merged (n : Nat)
  | matched (n : Nat)
  | truncated (first : Nat)
  | indexFull
  /-- the Capture Unit's reports on a frame: NO_ROOM, the stop-mode strobe, the strobe's failed check (R82) -/
  | noRoom
  | strobed (frame : Nat)
  | offTarget
  | flybyFired (frame : Nat)
  | flybyMissed (frame : Nat)
  | imageDone (frame stamp : Nat) (damaged soft recapture : Bool)
  /-- the Focus Unit's reply to a probe (R129, R130): STORED, ABORTED, ABANDONED -/
  | probeStored
  | probeAborted
  | probeAbandoned
  /-- the Focus Unit or the lamp has become ready: the strobe conditions are looked at again -/
  | tryStrobe
  /-- the Roll Manager's sequence has ended with a result (R171, R178) -/
  | rollDone (outcome : Res) (detail indexed : Nat)
  /-- the Index Porter has ended a save, or an import (R173, R176) -/
  | saved
  | imported (rejected : Bool)
  /-- an EXPORT that was WRITING has ended (R39) -/
  | exportEnded
  /-- held requests that name a roll are returned (R178, R182, R183) -/
  | returnHeld (roll : Nat) (positionalOnly : Bool) (outcome : Res) (detail : Nat)
  /-- a link transaction has ended: its message and its bytes or its failure -/
  | linkResult (item : LinkItem) (bytes : List Byte) (detail : Option LinkDetail)
  deriving DecidableEq, Repr

/-- What the core sends to the front inside one step. -/
inductive Out where
  | fault (f : FaultEntry)
  | returnCause
  | snapshot (t : Triggers) (signal : Bool)
  | setupRefused (reason : Nat)
  deriving DecidableEq, Repr

/-- Every block but the front. -/
structure Core where
  pins : Pins
  modes : Modes
  port : Port
  rm : ReqMgr
  store : Store
  tr : Transport
  ix : IndexUnit
  porter : Porter
  focus : Focus
  cap : Capture
  roll : RollMgr
  link : Link
  sig : List Signal
  out : List Out
  /-- The model's clock, in ms. -/
  now : Nat
  /-- The model's counter of free values. -/
  free : Nat
  deriving DecidableEq, Repr

/-- The state of the 760, and the queue of the commands that wait for it. -/
structure State where
  pending : List Instr
  front : Front
  core : Core
  deriving DecidableEq, Repr

/-- No command of the 760 ends in a fault: what goes wrong on the hardware is an entry of its Fault Queue, an outcome
of a Return or a device mode, and those are states. The one constructor is kept so that the type is not empty; nothing
raises it (safe). -/
inductive Fault where
  /-- Raised by nothing. Safe. -/
  | unused
  deriving DecidableEq, Repr

/-- Why the model would not run a command. -/
inductive Refusal where
  /-- A command whose arm has no meaning yet (exec's refused arms; none is left). Safe. -/
  | notModelled (mnemonic : String)
  deriving DecidableEq, Repr

/-! ## The state after a full reset -/

/-- R2, R4, R19, R199, R23: the front after a full reset. -/
def Front.reset : Front where
  waBaseLo := 0
  waBaseHi := 0
  enable := false
  setupBad := false
  setupReason := 0
  causeReturn := false
  causeFault := false
  causeSnapshot := false
  hold := false
  faults := []
  overflow := false
  discards := 0
  snapStamp := 0
  snapMark := .idle
  busReply := 0
  msiSent := 0

/-- The pins at power-on: a station with nothing asserted, no film and an eight-bay strap
(notes/assumptions/3.md). -/
def Pins.reset : Pins where
  extStop := false
  filmPresent := false
  dancerSupply := 0
  dancerTakeUp := 0
  strapBays := 7
  strapAddress := 0
  msiEnabled := true
  torqueSupply := 0
  torqueTakeUp := 0
  strobes := 0
  focusSteps := 0
  linkPulses := 0

/-- R202: START-UP, test 01h. -/
def Modes.reset : Modes where
  mode := .startUp
  progress := 1
  resetCause := .power
  powerOn := false
  linkResult := none
  idle := none
  dormant := none
  reply := none

/-- No setup is in use before the first acceptance; the fields hold zeros until then (notes/assumptions/4.md). -/
def Setup.reset : Setup where
  ringBase := 0
  slotAlloc := 0
  slotCount := 0
  sweepInterval := 0
  returnCount := 0
  returnDelay := 0
  idleTime := 0
  dormantTime := 0
  swapAge := 0
  ageLimit := 0
  linkSpeed := 0
  linkAddress := 0
  expected := 0

/-- R144, R7: nothing latched, nothing in flight, the Image Writer next. -/
def Port.reset : Port where
  setupRead := none
  workArea := none
  setup := Setup.reset
  sweepTimer := none
  boardQueue := []
  boardFlight := []
  sweepEnded := []
  dropped := []
  results := []
  last := .reservationReader
  escalated := false
  issued := none

/-- R12, R148, R149, R20: 32 LOOKABLE slots, nothing held. -/
def ReqMgr.reset : ReqMgr where
  slots := List.replicate 32 .lookable
  pendingSet := []
  pass := none
  swap := none
  exports := []
  loading := none
  notifyCount := 0
  returnDelay := none

/-- R40: both sets empty. -/
def Store.reset : Store where
  setA := none
  setB := none
  active := none
  pending := none
  load := none

def Reel.reset : Reel where
  radius := none
  length := 0
  window := none
  stall := none

def Dancer.reset : Dancer where
  sum := 0
  correction := 0
  clamped := false
  out := none

/-- R73: the transport after a full reset. -/
def Transport.reset : Transport where
  p := 0
  st := .unthreaded
  tensioning := false
  relaxRamp := none
  wakePending := false
  wakeWaits := false
  plan := none
  phase := .accel
  vRef := 0
  dir := .forward
  waiting := none
  waitingUnthread := false
  rollWaits := false
  stopWaits := false
  threadStep := .feed
  markP := 0
  travel := 0
  unthreadSlow := false
  unthreadEnding := false
  resetBraking := false
  tensionTest := false
  wakeCount := none
  testCount := none
  feedCount := none
  settleCount := none
  established := false
  inBand := none
  supplyDancer := Dancer.reset
  takeUpDancer := Dancer.reset
  supply := Reel.reset
  takeUp := Reel.reset
  geometry := none
  reelTypes := List.replicate 7 none

/-- R114: the Index Unit after a full reset. -/
def IndexUnit.reset : IndexUnit where
  entries := []
  frontier := 0
  drift := 0
  pitch := none
  gap := 0
  refImage := none
  refBlip := none
  refEdge := none
  detector := { st := .resync, run := none }
  unit := .off
  motion := none
  begins := false
  openFrame := none
  waitingFrame := none
  blipPulse := none
  pendingPulse := none
  edgePulse := none
  importCount := 0
  importStatus := .none
  predictedRun := 0
  lost := false
  full := false
  splicePending := false
  wake := false
  pitchFollows := true
  exportStamp := 1
  staged := none
  searching := false

def Porter.reset : Porter where
  waiting := []
  job := .idle

/-- R117, R133: the homing run of 4096 steps begins with START-UP. -/
def Focus.reset : Focus where
  counter := 0
  commanded := 0
  st := .moving .park
  settle := none
  homing := 4096
  placement := none
  map := List.replicate 128 none
  probe := none
  held := []

/-- R147: the lamp after a full reset; lamp control is decided by the self-test. -/
def Lamp.reset : Lamp where
  present := false
  st := .off
  polling := false
  pollTimer := none
  pollLimit := none
  serial := 0
  fixed := none
  lastSent := 0

/-- R147: the Capture Unit after a full reset. -/
def Capture.reset : Capture where
  cursor := 0
  inHand := none
  filling := []
  counter := 1
  armed := none
  camera := .idle
  readout := none
  fifo := []
  camHold := false
  score := none
  reservation := .none
  imageWait := none
  reread := none
  stop := none
  flyby := none
  lamp := Lamp.reset

/-- R168: an EMPTY bay with every optional field absent. -/
def Bay.reset : Bay where
  st := .empty
  roll := none
  selection := 0
  saveAddress := none
  saved := none

/-- R169: every record EMPTY until the changer check. -/
def RollMgr.reset : RollMgr where
  bays := List.replicate 8 Bay.reset
  bayCount := 0
  changer := false
  checked := false
  cassette := none
  seq := none
  serial := 0

/-- R198, R195: the link after a full reset, at the strap address 40h plus the strap pins. -/
def Link.reset (strap : Nat) : Link where
  queue := []
  waiting := []
  st := .idle
  fast := false
  address := 0x40 + strap
  retries := 0
  losses := 0
  moved := 0
  retryWait := none
  freeCount := none
  lowCount := none
  listenAddress := false
  failed := none
  buffer := []
  tooLong := false
  dropMessage := false
  opened := false

/-- The core after a full reset, with the pins, the clock and the free-value counter it is given. -/
def Core.reset (pins : Pins) (now free : Nat) : Core where
  pins := pins
  modes := Modes.reset
  port := Port.reset
  rm := ReqMgr.reset
  store := Store.reset
  tr := Transport.reset
  ix := IndexUnit.reset
  porter := Porter.reset
  focus := Focus.reset
  cap := Capture.reset
  roll := RollMgr.reset
  link := Link.reset pins.strapAddress
  sig := []
  out := []
  now := now
  free := free

/-- The machine right after reset: power-on has ended, START-UP has begun (R202). -/
def State.reset : State where
  pending := []
  front := Front.reset
  core := Core.reset Pins.reset 0 0

end Sys2Proof.Machine
end

