-- ==== Sys2Proof/Machine/Ops.lean ====
section
/-!
DEFINITION. The operations the blocks share: replacing a block of the core, the integer arithmetic of 00_scope's
conventions, little-endian records of host memory, raising faults and snapshot triggers, the values of the active
profile, and the reports between blocks.
-/

namespace Sys2Proof.Machine

/-! ## Replacing a block -/

/-- The core with its block `pins` replaced. -/
def Core.setPins (c : Core) (x : Pins) : Core := { c with pins := x }

/-- The core with its block `modes` replaced. -/
def Core.setModes (c : Core) (x : Modes) : Core := { c with modes := x }

/-- The core with its block `port` replaced. -/
def Core.setPort (c : Core) (x : Port) : Core := { c with port := x }

/-- The core with its block `rm` replaced. -/
def Core.setRm (c : Core) (x : ReqMgr) : Core := { c with rm := x }

/-- The core with its block `store` replaced. -/
def Core.setStore (c : Core) (x : Store) : Core := { c with store := x }

/-- The core with its block `tr` replaced. -/
def Core.setTr (c : Core) (x : Transport) : Core := { c with tr := x }

/-- The core with its block `ix` replaced. -/
def Core.setIx (c : Core) (x : IndexUnit) : Core := { c with ix := x }

/-- The core with its block `porter` replaced. -/
def Core.setPorter (c : Core) (x : Porter) : Core := { c with porter := x }

/-- The core with its block `focus` replaced. -/
def Core.setFocus (c : Core) (x : Focus) : Core := { c with focus := x }

/-- The core with its block `cap` replaced. -/
def Core.setCap (c : Core) (x : Capture) : Core := { c with cap := x }

/-- The core with its block `roll` replaced. -/
def Core.setRoll (c : Core) (x : RollMgr) : Core := { c with roll := x }

/-- The core with its block `link` replaced. -/
def Core.setLink (c : Core) (x : Link) : Core := { c with link := x }

/-- A report is made: it waits behind the reports made before it. -/
def Core.emit (c : Core) (x : Signal) : Core := { c with sig := c.sig ++ [x] }

/-- Something is sent to the front. -/
def Core.send (c : Core) (x : Out) : Core := { c with out := c.out ++ [x] }

/-- A free value has been used: the next one is fresh. -/
def Core.nextFree (c : Core) : Core := { c with free := c.free + 1 }

/-- A count that starts now. -/
def Core.tick (c : Core) : Count := some c.now

/-! ## Integer arithmetic (00_scope, Arithmetic) -/

/-- "Clamped to [a, b]". -/
def clampInt (a b x : Int) : Int := if x < a then a else if b < x then b else x

/-- "Clamped to [a, b]" on counts. -/
def clampNat (a b x : Nat) : Nat := if x < a then a else if b < x then b else x

/-- ceil(n / d). -/
def ceilDiv (n d : Nat) : Nat := (n + d - 1) / d

/-- round(n / d) of a non-negative quotient; an exact half rounds up, away from zero. -/
def roundDiv (n d : Nat) : Nat := (2 * n + d) / (2 * d)

/-- trunc(n / d). -/
def truncDiv (n d : Int) : Int := Int.tdiv n d

/-- One bit of the integer square root after another, from bit `k - 1` down. -/
def isqrtFrom : Nat → Nat → Nat → Nat
  | 0, _, r => r
  | k + 1, n, r => if (r + 2 ^ k) * (r + 2 ^ k) ≤ n then isqrtFrom k n (r + 2 ^ k) else isqrtFrom k n r

/-- sqrt(n), the floor of the exact root, for n below 2^80. -/
def isqrt (n : Nat) : Nat := isqrtFrom 40 n 0

/-- A counter that runs 1 .. `top` and then back to 1. -/
def nextStamp (top n : Nat) : Nat := if top ≤ n then 1 else n + 1

/-! ## Records of host memory (01_the_work_area, Record layouts: little-endian) -/

/-- The byte at an offset; a read returns as many bytes as it asked for, and an offset past them reads as 0. -/
def byteAt (bs : List Byte) (off : Nat) : Nat := (bs.getD off 0).toNat

/-- The little-endian field of `n` bytes at `off`. -/
def fieldAt (bs : List Byte) (off : Nat) : Nat → Nat
  | 0 => 0
  | n + 1 => byteAt bs off + 256 * fieldAt bs (off + 1) n

/-- A field read as two's complement of `n` bytes. -/
def signedAt (bs : List Byte) (off n : Nat) : Int :=
  let v := fieldAt bs off n
  if v < 2 ^ (8 * n - 1) then (v : Int) else (v : Int) - 2 ^ (8 * n)

/-- The `n` bytes of a value, little-endian. -/
def bytesOf : Nat → Nat → List Byte
  | 0, _ => []
  | n + 1, v => BitVec.ofNat 8 v :: bytesOf n (v / 256)

/-- The `n` bytes of a signed value, in two's complement. -/
def signedBytes (n : Nat) (v : Int) : List Byte := bytesOf n (v % (2 ^ (8 * n) : Nat)).toNat

/-- Work Area offsets are added to the base modulo 2^64 (R2). -/
def addr (base off : Nat) : Nat := (base + off) % 2 ^ 64

/-! ## Lists by position -/

/-- `l` with the element at position `n` replaced by `x`. -/
def setAt {α : Type} : List α → Nat → α → List α
  | [], _, _ => []
  | _ :: l, 0, x => x :: l
  | y :: l, n + 1, x => y :: setAt l n x

/-- `l` with `f` applied at position `n`. -/
def modAt {α : Type} (l : List α) (n : Nat) (f : α → α) : List α :=
  match l[n]? with
  | some x => setAt l n (f x)
  | none => l

/-- The first element that meets `p` is removed. -/
def removeFirst {α : Type} (p : α → Bool) : List α → List α
  | [] => []
  | x :: l => if p x then l else x :: removeFirst p l

/-- A number joins a list in ascending order without duplicates. -/
def insertAsc (n : Nat) : List Nat → List Nat
  | [] => [n]
  | m :: l => if n < m then n :: m :: l else if n = m then m :: l else m :: insertAsc n l

/-! ## Faults and snapshot triggers -/

/-- A film position as an auxiliary value: 28-bit two's complement (R5). -/
def auxPosition (p : Int) : BitVec 28 := BitVec.ofInt 28 p

/-- A slot and stamp as an auxiliary value: the slot in bits 20..16, the stamp in bits 15..0 (R5). -/
def auxSlot (slot stamp : Nat) : BitVec 28 := BitVec.ofNat 28 (slot % 32 * 65536 + stamp % 65536)

/-- A fault is raised (R199): it reaches the Fault Queue as one event. -/
def Core.fault (c : Core) (name : FaultName) (source : Source) (info : Nat) (aux : BitVec 28) : Core :=
  c.send (.fault { name := name, source := source, info := BitVec.ofNat 24 info, aux := aux })

/-- A Status Snapshot trigger arises (R22). -/
def Core.trigger (c : Core) (t : Triggers) (signal : Bool) : Core := c.send (.snapshot t signal)

/-- The Active Pass's request slot and taken stamp as an auxiliary value; 0 when there is none or it is automatic. -/
def Core.auxPass (c : Core) : BitVec 28 :=
  match c.rm.pass with
  | some q => (match q.kind with | .request _ => auxSlot q.slot q.stamp | _ => 0)
  | none => 0

/-! ## The active profile -/

/-- The values read where no profile is active: before the first setup acceptance no block uses them. -/
def Profile.zero : Profile where
  id := 0
  reelType := 0
  depth := 1
  confirmCount := 2
  gateOffset := 0
  accel := 500
  shuttleSpeed := 0
  scanSpeed := 0
  indexSpeed := 0
  creepSpeed := 0
  approach := 0
  stopTolerance := 0
  strobeLatency := 0
  endMargin := 0
  reverseMargin := 0
  driftWindow := 0
  tensionSetpoint := 0
  tensionBand := 0
  kp := 0
  ki := 0
  nominalPitch := 0
  minPitch := 0
  minLength := 0
  maxLength := 0
  edgeThreshold := 0
  blipLead := 0
  smallMax := 0
  mediumMax := 0
  spliceMin := 0
  spliceMax := 0
  focusMin := 0
  focusMax := 0
  defaultStep := 0
  probeStep := 0
  bandLength := 1
  softRatio := 0
  scoreShift := 0
  lampIntensity := 0
  width := 64
  height := 64
  windowX := 0
  windowY := 0
  windowWidth := 3
  windowHeight := 2
  imageWait := 0

/-- The profile held by a set. -/
def Store.get (s : Store) : SetName → Option Profile
  | .a => s.setA
  | .b => s.setB

/-- The other set. -/
def SetName.other : SetName → SetName
  | .a => .b
  | .b => .a

/-- The active set's profile (R42). -/
def Store.profile (s : Store) : Option Profile := s.active.bind s.get

/-- The active set's values, read by the blocks whenever they use them (R42). -/
def Core.prof (c : Core) : Profile := c.store.profile.getD Profile.zero

/-! ## Reading the core -/

/-- The MOUNTED bay, 1..8 (R151). -/
def mountedFrom : Nat → List Bay → Option Nat
  | _, [] => none
  | n, b :: l => if b.st = .mounted then some n else mountedFrom (n + 1) l

/-- The MOUNTED bay, 1..8, or none. -/
def RollMgr.mounted (r : RollMgr) : Option Nat := mountedFrom 1 r.bays

/-- The record of bay `b`, 1..8. -/
def RollMgr.bay (r : RollMgr) (b : Nat) : Bay := if b = 0 then Bay.reset else r.bays.getD (b - 1) Bay.reset

/-- The catalogue with the record of bay `b` replaced. -/
def RollMgr.setBay (r : RollMgr) (b : Nat) (x : Bay) : RollMgr :=
  if b = 0 then r else { r with bays := setAt r.bays (b - 1) x }

/-- The bay a Roll ID is bound to: the first BOUND or MOUNTED bay that holds it (R168). -/
def boundFrom (roll : Nat) : Nat → List Bay → Option Nat
  | _, [] => none
  | n, b :: l =>
    if (b.st = .bound ∨ b.st = .mounted) ∧ b.roll = some roll then some n else boundFrom roll (n + 1) l

/-- The bay a Roll ID is bound to, or none. -/
def RollMgr.boundBay (r : RollMgr) (roll : Nat) : Option Nat := boundFrom roll 1 r.bays

/-- The Roll ID of the mounted roll; 0 when none (R151). -/
def Core.mountedRoll (c : Core) : Nat :=
  match c.roll.mounted with
  | some b => (c.roll.bay b).roll.getD 0
  | none => 0

/-- HOLD (STEADY), outside a relax ramp (R48, R69). -/
def Transport.steady (t : Transport) : Bool := t.st = .hold && !t.tensioning && t.relaxRamp.isNone

/-- The film is moving forward under a speed reference. -/
def Transport.forwardMotion (t : Transport) : Bool := t.st = .move && t.dir = .forward && 0 < t.vRef

/-- Whether the tension regulator runs (R48). -/
def Transport.regulating (t : Transport) : Bool :=
  match t.st with
  | .threading | .hold | .move | .unthreading => true
  | .unreferenced => t.tensionTest
  | _ => false

/-- Whether the reel drives are on (R48). -/
def Transport.drives (t : Transport) : Bool := t.regulating

/-- The brake demand (R48, R49). -/
def Transport.brakeDemand (t : Transport) : Bool :=
  match t.st with
  | .unthreaded | .fault => true
  | .unreferenced => !t.tensionTest
  | _ => false

/-- The brake output: the OR of EXT_STOP and the brake demand; on while the part is held in reset (R49, R202). -/
def Core.brake (c : Core) : Bool := c.pins.extStop || c.tr.brakeDemand || c.modes.mode = .held

/-- Whether the profile timer runs (R53). -/
def Transport.timerRuns (t : Transport) : Bool :=
  match t.st with
  | .move | .threading | .unthreading => true
  | _ => false

/-- The geometry's Nominal Length; 0 while no geometry is in use. -/
def Transport.nominal (t : Transport) : Int := ((t.geometry.map (·.nominal)).getD 0 : Nat)

/-- The remaining film on the supply reel (R65). -/
def Transport.lRem (t : Transport) : Int :=
  match t.supply.radius with
  | some _ => t.supply.length
  | none => max 0 (t.nominal - t.p)

/-- The remaining film on the take-up reel, absent while its radius is absent (R65). -/
def Transport.lTu (t : Transport) : Option Int := t.takeUp.radius.map fun _ => t.takeUp.length

/-- The speed reference rounded down to whole mm/s (R53, R78). -/
def Transport.speed (t : Transport) : Nat := t.vRef / 1000

/-- B(v) = ceil(100 × v² / a) (R78). -/
def brakeDistance (a v : Nat) : Nat := ceilDiv (100 * v * v) a

/-- The entry of a frame number, 1..N (R93). -/
def IndexUnit.entry (x : IndexUnit) (n : Nat) : Option Entry := if n = 0 then none else x.entries[n - 1]?

/-- The number of entries, N. -/
def IndexUnit.count (x : IndexUnit) : Nat := x.entries.length

/-- The trailing edge of an entry (R93). -/
def Entry.trail (e : Entry) : Int := e.lead + e.length

/-- The target of an entry, T = x + floor(ℓ / 2) + G + D (R75). -/
def Core.targetOf (c : Core) (e : Entry) : Int :=
  e.lead + (e.length / 2 : Nat) + (c.prof.gateOffset : Int) + c.ix.drift

/-- The Capture Unit is IDLE: its filling list is empty and the strobe compare is IDLE (R143). -/
def Capture.idle (k : Capture) : Bool := k.filling.isEmpty && k.armed.isNone

/-- The used entries of the Reel Type Table: 1 to 8 fixed, 9 to 15 from the Work Area (R64). -/
def reelType (ext : List (Option ReelType)) (k : Nat) : Option ReelType :=
  match k with
  | 1 => some { hub := 16000, flange := 44000, thickness := 100, nominal := 6000000 }
  | 2 => some { hub := 16000, flange := 48000, thickness := 65, nominal := 12000000 }
  | 3 => some { hub := 16000, flange := 34000, thickness := 100, nominal := 3000000 }
  | 4 => some { hub := 25000, flange := 48000, thickness := 100, nominal := 6000000 }
  | 5 => some { hub := 20000, flange := 50000, thickness := 130, nominal := 6000000 }
  | 6 => some { hub := 20000, flange := 58000, thickness := 75, nominal := 12000000 }
  | 7 => some { hub := 20000, flange := 40000, thickness := 130, nominal := 3000000 }
  | 8 => some { hub := 30000, flange := 58000, thickness := 130, nominal := 6000000 }
  | k => if 9 ≤ k ∧ k ≤ 15 then (ext[k - 9]?).join else none

end Sys2Proof.Machine
end

