-- ==== Sys2Proof/Machine/Flags.lean ====
section
/-!
DEFINITION. The front of the part: the STATUS word, the interrupt causes and Hold, the Fault Queue, the register
window's reads, and the Status Writer with the record it samples (R1 to R5, R19, R21 to R23, R199 to R201).
-/

namespace Sys2Proof.Machine

/-! ## Codes -/

/-- STATUS.Mode (R4). The part held in a full reset does not answer; its code is that of START-UP. -/
def Mode.code : Mode → Nat
  | .held => 0
  | .startUp => 0
  | .failed => 1
  | .configWait => 2
  | .run => 3
  | .standby => 4
  | .dormant => 5

/-- STATUS.Reset Cause (R4). -/
def ResetCause.code : ResetCause → Nat
  | .power => 1
  | .pin => 2
  | .soft => 3

/-- R5's source block codes. -/
def Source.code : Source → Nat
  | .selfTest => 0
  | .systemPort => 1
  | .requestManager => 2
  | .transport => 3
  | .indexUnit => 4
  | .focusUnit => 5
  | .captureUnit => 6
  | .profileStore => 7
  | .rollManager => 8
  | .link => 9
  | .faultQueue => 10

/-- R201's fault codes. -/
def FaultName.code : FaultName → Nat
  | .setupBad => 0x01
  | .configMismatch => 0x02
  | .selftest => 0x03
  | .memoryRead => 0x04
  | .tensionLow => 0x08
  | .tensionHigh => 0x09
  | .filmBreak => 0x0A
  | .reelStall => 0x0B
  | .extStop => 0x0C
  | .threadFail => 0x0D
  | .noFrames => 0x0E
  | .stopMiss => 0x0F
  | .indexTruncated => 0x10
  | .importRejected => 0x11
  | .indexFull => 0x12
  | .fifoOverflow => 0x18
  | .cameraTimeout => 0x19
  | .lampTimeout => 0x1A
  | .changerFault => 0x20
  | .linkNak => 0x28
  | .linkDataNak => 0x29
  | .linkArb => 0x2A
  | .linkStretch => 0x2B
  | .linkStuck => 0x2C
  | .faultsDiscarded => 0x30

/-- The transport state's code in the Status Snapshot (01_the_work_area, Status Snapshot, 07h). -/
def TState.code : TState → Nat
  | .unthreaded => 0
  | .threading => 1
  | .unreferenced => 2
  | .hold => 3
  | .move => 4
  | .unthreading => 5
  | .relaxed => 6
  | .fault => 7

/-- The Triggers field of a snapshot, with the signal flag in bit 15. -/
def Triggers.field (t : Triggers) (signal : Bool) : Nat :=
  t.setup.toNat + 2 * t.mode.toNat + 4 * t.mountDone.toNat + 8 * t.unmountDone.toNat + 16 * t.passEnd.toNat
    + 32 * t.fault.toNat + 64 * t.mapEmptied.toNat + 32768 * signal.toNat

/-- Merged triggers are the union of theirs (R22). -/
def Triggers.union (a b : Triggers) : Triggers where
  setup := a.setup || b.setup
  mode := a.mode || b.mode
  mountDone := a.mountDone || b.mountDone
  unmountDone := a.unmountDone || b.unmountDone
  passEnd := a.passEnd || b.passEnd
  fault := a.fault || b.fault
  mapEmptied := a.mapEmptied || b.mapEmptied

/-! ## Reading the window -/

/-- The word a read of STATUS returns (R4). -/
def statusWord (f : Front) (m : Modes) : Word32 :=
  BitVec.ofNat 32 (m.progress % 256 + 256 * m.mode.code + 2048 * m.resetCause.code + 8192 * f.hold.toNat
    + 16384 * f.causeReturn.toNat + 32768 * f.causeFault.toNat + 65536 * f.causeSnapshot.toNat
    + 131072 * (f.faults.length % 32) + 4194304 * f.overflow.toNat + 8388608 * f.setupBad.toNat
    + 16777216 * (f.setupReason % 16))

/-- FAULT_TOP of an entry: code in bits 31..24, info in bits 23..0 (R5). -/
def FaultEntry.top (e : FaultEntry) : Word32 := BitVec.ofNat 32 (e.name.code * 16777216 + e.info.toNat)

/-- FAULT_AUX of an entry: source in bits 31..28, auxiliary value in bits 27..0 (R5). -/
def FaultEntry.second (e : FaultEntry) : Word32 := BitVec.ofNat 32 (e.source.code * 268435456 + e.aux.toNat)

/-- What a read of the window answers, for a whole aligned word at `offset` or any other access (R1, R2, R4, R5).
Reads of CONTROL, POST and offset 1Ch, and accesses that are not whole aligned words, return 0. -/
def readWindow (f : Front) (m : Modes) (offset : Nat) (whole : Bool) : Word32 :=
  if whole then
    match offset with
    | 0x00 => f.waBaseLo
    | 0x04 => f.waBaseHi
    | 0x10 => statusWord f m
    | 0x14 => (f.faults.head?.map (·.top)).getD 0
    | 0x18 => (f.faults.head?.map (·.second)).getD 0
    | _ => 0
  else 0

/-! ## Interrupts -/

/-- The modes in which the part sends interrupt messages (R19). -/
def Mode.sends : Mode → Bool
  | .configWait | .run | .standby | .dormant => true
  | _ => false

/-- The System Port sends the message and sets Hold, in the modes that send. When MSI is not enabled the message is
not sent and Hold is set all the same (R19). -/
def Front.message (c : Core) (f : Front) : Front :=
  if c.modes.mode.sends then
    { f with hold := true, msiSent := if c.pins.msiEnabled then f.msiSent + 1 else f.msiSent }
  else f

/-- A cause has been raised: the message is sent when Hold is clear (R19). -/
def Front.causeRaised (c : Core) (f : Front) : Front := if f.hold then f else f.message c

/-- RETURN is raised (R20). -/
def Front.raiseReturn (c : Core) (f : Front) : Front := ({ f with causeReturn := true }).causeRaised c

/-- FAULT is raised (R21). -/
def Front.raiseFaultCause (c : Core) (f : Front) : Front := ({ f with causeFault := true }).causeRaised c

/-- SNAPSHOT is raised (R21). -/
def Front.raiseSnapshot (c : Core) (f : Front) : Front := ({ f with causeSnapshot := true }).causeRaised c

/-- HOLD_CLEAR clears Hold, and the message is sent again when any cause is pending (R19). -/
def Front.holdClear (c : Core) (f : Front) : Front :=
  if c.modes.mode.sends then
    let g := { f with hold := false }
    if g.causeReturn || g.causeFault || g.causeSnapshot then g.message c else g
  else f

/-! ## Status Snapshot -/

/-- The Active Pass slot as the snapshot shows it: FFh when no pass runs or the pass is automatic (R149). -/
def Core.passSlot (c : Core) : Nat :=
  match c.rm.pass with
  | some q => (match q.kind with | .request _ => q.slot | _ => 0xFF)
  | none => 0xFF

/-- The writes of a snapshot, in R23's order: the head stamp, the fields, the tail stamp. -/
def snapshotWrites (f : Front) (c : Core) (stamp : Nat) (t : Triggers) (signal : Bool) : List (Nat × List Byte) :=
  [(0x00, bytesOf 4 stamp),
   (0x04, bytesOf 2 (t.field signal) ++ bytesOf 1 c.modes.mode.code ++ bytesOf 1 c.tr.st.code
      ++ signedBytes 4 c.tr.p ++ bytesOf 1 (c.roll.mounted.getD 0) ++ bytesOf 1 c.prof.id
      ++ bytesOf 1 c.modes.progress ++ bytesOf 1 (f.faults.length + 128 * f.overflow.toNat)
      ++ bytesOf 4 c.mountedRoll ++ signedBytes 4 c.ix.frontier ++ bytesOf 2 c.ix.count
      ++ signedBytes 2 c.ix.drift ++ bytesOf 1 c.rm.pendingSet.length ++ bytesOf 1 c.passSlot),
   (0x20, bytesOf 4 c.cap.counter),
   (0xFC, bytesOf 4 stamp)]

/-- A snapshot write begins: the stamp counter advances and every field is sampled (R23). -/
def Front.startSnapshot (c : Core) (t : Triggers) (signal : Bool) (f : Front) : Front :=
  let stamp := nextStamp 4294967295 f.snapStamp
  { f with snapStamp := stamp, snapMark := .writing (snapshotWrites f c stamp t signal) signal none }

/-- A trigger starts a write, or is merged into the follow-up of the write in progress; with no Work Area accepted it
is not kept (R22). -/
def Front.trigger (c : Core) (t : Triggers) (signal : Bool) (f : Front) : Front :=
  if c.port.workArea.isSome then
    match f.snapMark with
    | .idle => f.startSnapshot c t signal
    | .writing left s none => { f with snapMark := .writing left s (some (t, signal)) }
    | .writing left s (some (u, v)) => { f with snapMark := .writing left s (some (u.union t, v || signal)) }
  else f

/-- The Status Writer's next write has been issued. The last one completes the snapshot: a set signal flag raises
SNAPSHOT, and a held follow-up begins (R22, R23). -/
def Front.snapshotIssued (c : Core) (f : Front) : Front :=
  match f.snapMark with
  | .writing (_ :: x :: left) s u => { f with snapMark := .writing (x :: left) s u }
  | .writing _ s u =>
    let g := { f with snapMark := .idle }
    let g := if s then g.raiseSnapshot c else g
    match u with
    | some (t, v) => g.startSnapshot c t v
    | none => g
  | .idle => f

/-- The Status Writer's next write, if it has one. -/
def Front.snapshotWrite (f : Front) : Option (Nat × List Byte) :=
  match f.snapMark with
  | .writing (x :: _) _ _ => some x
  | _ => none

/-! ## Fault Queue -/

/-- A fault reaches the Fault Queue (R199): it joins, or is discarded and counted. -/
def Front.raiseFault (c : Core) (e : FaultEntry) (f : Front) : Front :=
  let g :=
    if f.faults.length < 16 ∧ f.overflow = false then
      ({ f with faults := f.faults ++ [e] }).raiseFaultCause c
    else { f with overflow := true, discards := min (f.discards + 1) 16777215 }
  g.trigger c { fault := true } false

/-- A write to FAULT_TOP (R200). -/
def Front.pop (c : Core) (f : Front) : Front :=
  let g := { f with faults := f.faults.tail }
  if g.faults.isEmpty then
    let h := { g with overflow := false }
    if f.overflow && decide (0 < f.discards) then
      { h.raiseFault c { name := .faultsDiscarded, source := .faultQueue, info := BitVec.ofNat 24 f.discards, aux := 0 }
        with discards := 0 }
    else h
  else g

/-! ## What the core sends -/

/-- One thing the core has sent takes effect. -/
def Front.take (c : Core) (f : Front) : Out → Front
  | .fault e => f.raiseFault c e
  | .returnCause => f.raiseReturn c
  | .snapshot t s => f.trigger c t s
  | .setupRefused r => { f with setupBad := true, setupReason := r, enable := false }

/-- Everything the core has sent takes effect, in order, on the state the step leaves. -/
def State.flush (s : State) : State :=
  { s with front := s.core.out.foldl (Front.take s.core) s.front, core := { s.core with out := [] } }

end Sys2Proof.Machine
end

