-- ==== Sys2Proof/Machine/Index.lean ====
section
/-!
DEFINITION. The Index Unit (R85 to R110, R112, R114): references, the edge detector, the unit states, appends, merges,
predictions, blips and splices, verification, drift, truncation and discard. One forward sample is taken whole, in
this order: the unit state is decided, the two lanes and the detector take the sample, the frontier follows when the
detector is settled, edges and decided pulses act, and last the prediction deadline or the missing-entry test.
-/

namespace Sys2Proof.Machine

/-! ## References and the detector -/

/-- A reference moves one sixteenth of the way to a level (R88). -/
def nudge (r : Int) (level : Nat) : Int := r + truncDiv ((level : Int) - r) 16

/-- A level differs from its reference by the Edge Threshold or more; an absent reference makes it gap-like or
unmarked (R88). -/
def differs (threshold : Nat) (ref : Option Int) (level : Nat) : Bool :=
  match ref with
  | some r => decide ((threshold : Int) ≤ |(level : Int) - r|)
  | none => false

/-- A lane reference after a sample (R88). -/
def laneRef (ref : Option Int) (marked : Bool) (level : Nat) : Option Int :=
  match ref with
  | some r => some (if marked then r else nudge r level)
  | none => some (level : Int)

/-- The gap reference after a sample: it moves at a gap-like sample taken in GAP with no run open (R88). -/
def gapRef (ref : Option Int) (d : Detector) (frameLike : Bool) (level : Nat) : Option Int :=
  match ref with
  | some r => some (if !frameLike && d.st = .gap && d.run.isNone then nudge r level else r)
  | none => some (level : Int)

/-- A run grows by a sample. -/
def growRun (run : Option (Int × Nat)) (x : Int) : Int × Nat :=
  match run with
  | some (f, n) => (f, n + 1)
  | none => (x, 1)

/-- One sample in the edge detector (R89): the detector after it, and the edge it confirms, leading (`true`) or
trailing, with its coordinate. -/
def Detector.step (d : Detector) (confirm : Nat) (x : Int) (frameLike : Bool) : Detector × Option (Bool × Int) :=
  match d.st, frameLike with
  | .resync, true => ({ st := .resync, run := none }, none)
  | .resync, false =>
    let r := growRun d.run x
    if confirm ≤ r.2 then ({ st := .gap, run := none }, none) else ({ st := .resync, run := some r }, none)
  | .gap, true =>
    let r := growRun d.run x
    if confirm ≤ r.2 then ({ st := .frame, run := none }, some (true, r.1)) else ({ st := .gap, run := some r }, none)
  | .gap, false => ({ st := .gap, run := none }, none)
  | .frame, false =>
    let r := growRun d.run x
    if confirm ≤ r.2 then ({ st := .gap, run := none }, some (false, r.1)) else ({ st := .frame, run := some r }, none)
  | .frame, true => ({ st := .frame, run := none }, none)

/-- The detector is settled: in GAP with no run open (R89). -/
def Detector.settled (d : Detector) : Bool := d.st = .gap && d.run.isNone

/-! ## Appending -/

/-- The last entry of the index. -/
def IndexUnit.last (x : IndexUnit) : Option Entry := x.entries.getLast?

/-- A component that would pass 65535 stays there, and says so (R100). -/
def bump (n : Nat) : Nat × Bool := if 65535 ≤ n then (65535, true) else (n + 1, false)

/-- The address of a new entry, from the last entry's and its own class (R100). -/
def nextAddress (last : Option Entry) (cls : BlipClass) : (Nat × Nat × Nat) × Bool :=
  let b := (last.map (·.batch)).getD 0
  let d := (last.map (·.document)).getD 0
  let p := (last.map (·.page)).getD 0
  match cls with
  | .large => (((bump b).1, 1, 1), (bump b).2)
  | .medium => ((b, (bump d).1, 1), (bump d).2)
  | _ => ((b, d, (bump p).1), (bump p).2)

/-- The class of a pulse by its length (R99). -/
def classify (p : Profile) (length : Nat) : BlipClass :=
  if length < p.smallMax then .small else if length < p.mediumMax then .medium else .large

/-- The number of Predicted entries at the end of a list read backwards (R106). -/
def predictedRunOf : List Entry → Nat
  | [] => 0
  | e :: l => if e.origin = .predicted then predictedRunOf l + 1 else 0

/-- An entry joins the index and is reported; the 16,384th sets Full (R95, R102, R108). -/
def Core.appendEntry (c : Core) (e : Entry) : Core :=
  let x := c.ix
  let n := x.count + 1
  let m := x.motion.map fun m => { m with deadlineDone := false }
  let c := (c.setIx { x with entries := x.entries ++ [e], motion := m, splicePending := false }).emit (.appended n)
  if 16384 ≤ n then
    let x := c.ix
    ((c.setIx { x with full := true, openFrame := none, waitingFrame := none }).fault .indexFull .indexUnit 16384
      (auxPosition x.frontier)).emit .indexFull
  else c

/-- A closed frame is appended as a Detected entry (R95, R97), of Length 1 at least (R93; notes/assumptions/83.md). An absent
pitch estimate stays absent (notes/assumptions/76.md). -/
def Core.appendDetected (c : Core) (f : OpenFrame) (trail : Int) (cls : BlipClass) : Core :=
  let x := c.ix
  let p := c.prof
  let length := max 1 (trail - f.lead).toNat
  let ((b, d, g), sat) := nextAddress x.last cls
  let e : Entry :=
    { lead := f.lead, length := length, origin := .detected, blip := cls, batch := b, document := d, page := g,
      spliceBefore := x.splicePending, short := decide (length < p.minLength), long := decide (p.maxLength < length),
      gapBefore := f.gapBefore, soft := false, captured := false, saturated := sat, captureCount := 0, score := none }
  let follow := (x.last.filter fun l => x.pitchFollows && l.origin = .detected)
  let pitch := match follow, x.pitch with
    | some l, some q => some (q + truncDiv (f.lead - l.lead - q) 8)
    | _, q => q
  let gap := match follow with
    | some l => f.lead - l.trail
    | none => x.gap
  (c.setIx { x with pitch := pitch, gap := gap, predictedRun := 0, pitchFollows := true }).appendEntry e

/-- The waiting frame is appended, with its blip classed by the length reached if it is still undecided (R95, R99): at the
end of a motion by R95, and by the model's choice too where the next frame's trailing edge makes the append
(notes/assumptions/102.md). -/
def Core.appendWaiting (c : Core) : Core :=
  match c.ix.waitingFrame with
  | some f =>
    let cls := match f.blip with
      | some h => h.cls.getD (classify c.prof h.length)
      | none => .none
    (c.setIx { c.ix with waitingFrame := none }).appendDetected f (f.trail.getD f.lead) cls
  | none => c

/-- The waiting frame is appended once its blip is decided (R95). -/
def Core.appendWaitingIfDecided (c : Core) : Core :=
  match c.ix.waitingFrame with
  | some f => if (f.blip.bind (·.cls)).isSome then c.appendWaiting else c
  | none => c

/-- A leading edge confirmed in EXTEND or LOST opens a frame, or is merged into the last entry (R95, R96, R98). A pulse
that started inside the merged frame is ignored; one that started before it stays pending, for the next frame
(notes/assumptions/52.md). A merged edge leaves LOST set (notes/assumptions/94.md). -/
def Core.extendLeading (c : Core) (o : Int) : Core :=
  let x := c.ix
  let p := c.prof
  let near := match x.last with
    | some l => decide (o < l.lead + (p.minPitch : Int))
    | none => false
  if near then
    c.setIx { x with
      openFrame := some { lead := o, merged := true, gapBefore := false, blip := none, trail := none }
      pendingPulse := x.pendingPulse.filter fun h => decide (h.start < o)
      wake := false }
  else
    let lead := max o x.frontier
    let blip := x.pendingPulse.filter fun h => decide (lead - (p.blipLead : Int) ≤ h.start)
    c.setIx { x with
      openFrame := some { lead := lead, merged := false, gapBefore := x.lost, blip := blip, trail := none }
      pendingPulse := none
      lost := false
      pitchFollows := x.pitchFollows && !x.lost
      wake := false }

/-- A merged frame's trailing edge widens the last entry (R96). -/
def mergeInto (p : Profile) (trail : Int) (e : Entry) : Entry :=
  let length := (trail - e.lead).toNat
  { e with length := length, short := decide (length < p.minLength), long := decide (p.maxLength < length) }

/-- A trailing edge confirmed in EXTEND or LOST closes the open frame (R95, R96): a merged one changes the last entry,
which is reported. A pulse that started past the trailing coordinate is not the frame's, and is pending (R99); a pulse
inside a merged frame is ignored, and leaves the pulse that was pending before (R96; notes/assumptions/52.md). -/
def Core.extendTrailing (c : Core) (o : Int) : Core :=
  match c.ix.openFrame with
  | none => c
  | some f =>
    let x := c.ix
    let past (h : HeldPulse) : Bool := decide (o < h.start)
    if f.merged then
      (c.setIx { x with
          openFrame := none, pendingPulse := (f.blip.filter past).or x.pendingPulse
          entries := modAt x.entries (x.count - 1) (mergeInto c.prof o) }).emit (.merged x.count)
    else
      let c := c.setIx { x with openFrame := none, pendingPulse := x.pendingPulse.filter past }
      let c := c.appendWaiting
      let f := { f with blip := f.blip.filter fun h => decide (h.start ≤ o) }
      if c.ix.full then c
      else
        match f.blip with
        | none => c.appendDetected f o .none
        | some h =>
          match h.cls with
          | some cls => c.appendDetected f o cls
          | none => c.setIx { c.ix with waitingFrame := some { f with trail := some o } }

/-- The prediction deadline in EXTEND (R98). With the pitch estimate absent there is none
(notes/assumptions/76.md). A Predicted entry is neither SHORT nor LONG (notes/assumptions/95.md), and a deadline acted on is
not acted on again in the motion before the next append (notes/assumptions/96.md). -/
def Core.predict (c : Core) (pos : Int) : Core :=
  let x := c.ix
  let p := c.prof
  match x.last, x.pitch, x.motion with
  | some l, some q, some m =>
    if !m.deadlineDone && decide (l.lead + q + 8 * (p.confirmCount : Int) ≤ pos) then
      let c := c.setIx { x with motion := some { m with deadlineDone := true } }
      if x.detector.st = .frame || x.detector.run.isSome || x.waitingFrame.isSome then c
      else if x.predictedRun < 3 then
        let ((b, d, g), sat) := nextAddress (some l) .none
        let e : Entry :=
          { lead := l.lead + q, length := max p.minLength (q - x.gap).toNat, origin := .predicted, blip := .none,
            batch := b, document := d, page := g, spliceBefore := x.splicePending, short := false, long := false,
            gapBefore := false, soft := false, captured := false, saturated := sat, captureCount := 0, score := none }
        (c.setIx { c.ix with predictedRun := x.predictedRun + 1 }).appendEntry e
      else c.setIx { c.ix with lost := true }
    else c
  | _, _, _ => c

/-! ## Blips and splices -/

/-- A held pulse follows the pulse in progress with its start (R99). -/
def followPulse (p : Profile) (q : Pulse) (ended : Bool) (h : HeldPulse) : HeldPulse :=
  if h.start = q.start ∧ h.cls = none then
    { h with
      length := q.length
      cls := if p.mediumMax ≤ q.length then some .large else if ended then some (classify p q.length) else none }
  else h

/-- The held pulses of the unit follow the pulse in progress. -/
def IndexUnit.followPulses (x : IndexUnit) (p : Profile) (q : Pulse) (ended : Bool) : IndexUnit :=
  let f := followPulse p q ended
  { x with
    pendingPulse := x.pendingPulse.map f
    openFrame := x.openFrame.map fun o => { o with blip := o.blip.map f }
    waitingFrame := x.waitingFrame.map fun o => { o with blip := o.blip.map f } }

/-- A pulse that starts in EXTEND or LOST is pending, and a frame whose trailing edge is not yet confirmed takes it
when it has none; the trailing coordinate decides which of the two stands (R99). While a merged frame is open, its latest
pulse is kept beside the one that is pending, which it replaces only if it proves to start past the trailing coordinate
(R96). -/
def IndexUnit.assignPulse (x : IndexUnit) (p : Profile) (start : Int) : IndexUnit :=
  let h : HeldPulse := { start := start, length := 0, cls := none }
  match x.openFrame with
  | some f =>
    if f.merged then { x with openFrame := some { f with blip := some h } }
    else if f.blip.isSome || decide (start < f.lead - (p.blipLead : Int)) then { x with pendingPulse := some h }
    else { x with pendingPulse := some h, openFrame := some { f with blip := some h } }
  | none => { x with pendingPulse := some h }

/-- A Blip Lane sample (R99). A pulse that starts in VERIFY never waits for a frame: the model's reading
(notes/assumptions/52.md). -/
def Core.blipSample (c : Core) (u : UnitState) (pos : Int) (marked : Bool) : Core :=
  let x := c.ix
  let p := c.prof
  match x.blipPulse, marked with
  | none, true =>
    let q : Pulse := { start := pos, length := 4 }
    let x := if u = .extend ∨ u = .lost then x.assignPulse p pos else x
    (c.setIx ({ x with blipPulse := some q }.followPulses p q false)).appendWaitingIfDecided
  | some q, true =>
    let q := { q with length := q.length + 4 }
    (c.setIx ({ x with blipPulse := some q }.followPulses p q false)).appendWaitingIfDecided
  | some q, false =>
    (c.setIx ({ x with blipPulse := none }.followPulses p q true)).appendWaitingIfDecided
  | none, false => c

/-- A splice is decided (R86, R101). A deadline that it moves after the old one was acted on is not acted on again
(notes/assumptions/96.md). -/
def Core.splice (c : Core) (u : UnitState) : Core :=
  let x := c.ix
  match u with
  | .verify => c.setIx { x with drift := 0 }
  | .extend | .lost =>
    c.setIx { x with drift := 0, pitch := some (c.prof.nominalPitch : Int), splicePending := true, pitchFollows := false }
  | .off => c

/-- An Edge Lane sample (R101). -/
def Core.edgeSample (c : Core) (u : UnitState) (pos : Int) (marked : Bool) : Core :=
  let x := c.ix
  match x.edgePulse, marked with
  | none, true => c.setIx { x with edgePulse := some { start := pos, length := 4 } }
  | some q, true => c.setIx { x with edgePulse := some { q with length := q.length + 4 } }
  | some q, false =>
    let c := c.setIx { x with edgePulse := none }
    if c.prof.spliceMin ≤ q.length ∧ q.length ≤ c.prof.spliceMax then c.splice u else c
  | none, false => c

/-! ## Truncation and discard -/

/-- The motion after a truncation: it goes on in EXTEND when it began at or below the new frontier, and is ahead
otherwise (R106). -/
def Motion.afterTruncation (m : Motion) (frontier : Int) : Motion :=
  if m.start ≤ frontier then { m with extending := true, deadlineDone := false } else { m with ahead := true }

/-- A mismatch at entry `j` truncates the index (R106). LOST cleared here does not stop the next update of the pitch
estimate and the last gap (notes/assumptions/60.md). -/
def Core.truncate (c : Core) (j : Nat) : Core :=
  let x := c.ix
  let kept := x.entries.take (j - 1)
  let removed := x.count - kept.length
  let frontier := (kept.getLast?.map (·.trail)).getD 0
  ((c.setIx { x with
      entries := kept
      frontier := frontier
      drift := if j ≤ 1 then 0 else x.drift
      predictedRun := predictedRunOf kept.reverse
      lost := false
      full := if 0 < removed then false else x.full
      splicePending := false
      motion := x.motion.map (·.afterTruncation frontier) }).fault .indexTruncated .indexUnit removed
    (auxPosition c.tr.p)).emit (.truncated j)

/-- A mismatch within an unconfirmed import discards it whole (R107). -/
def Core.discardImport (c : Core) : Core :=
  let x := c.ix
  ((c.setIx { x with
      entries := []
      frontier := 0
      drift := 0
      importCount := 0
      importStatus := .none
      lost := false
      full := false
      splicePending := false
      predictedRun := 0
      motion := x.motion.map fun m => { m with ahead := true } }).fault .importRejected .indexUnit 8
    (auxPosition c.tr.p)).emit (.truncated 1)

/-- A mismatch at entry `j` (R106, R107): whether the index is only truncated, with the unit's state. -/
def Core.mismatch (c : Core) (j : Nat) : Core :=
  if c.ix.importStatus = .unconfirmed ∧ j ≤ c.ix.importCount + 1 then c.discardImport else c.truncate j

/-- The Frame Index is emptied (R86, R110). -/
def IndexUnit.emptied (x : IndexUnit) : IndexUnit :=
  { x with
    entries := []
    frontier := 0
    drift := 0
    pitch := none
    gap := 0
    importCount := 0
    importStatus := .none
    predictedRun := 0
    lost := false
    full := false
    splicePending := false
    wake := false }

/-- The Roll Manager orders the Frame Index emptied; the emptying is reported as a truncation at entry 1 (R110). -/
def Core.emptyIndex (c : Core) : Core := (c.setIx c.ix.emptied).emit (.truncated 1)

/-! ## Verifying -/

/-- The entry nearest a coordinate, with its number; the earlier of two at equal distance (R103). -/
def nearestEntry (o : Int) : Nat → Option (Nat × Entry) → List Entry → Option (Nat × Entry)
  | _, best, [] => best
  | n, best, e :: l =>
    let better := match best with
      | some (_, b) => decide (|o - e.lead| < |o - b.lead|)
      | none => true
    nearestEntry o (n + 1) (if better then some (n, e) else best) l

/-- The first entry above a coordinate, with its number and the entry just before it (R103). -/
def firstAbove (o : Int) : Nat → Option Entry → List Entry → Option (Nat × Entry × Option Entry)
  | _, _, [] => none
  | n, below, e :: l => if o < e.lead then some (n, e, below) else firstAbove o (n + 1) (some e) l

/-- The Drift Estimate moves one eighth of the way toward the edge error, truncated (R85). -/
def driftToward (d e : Int) : Int := d + truncDiv (e - d) 8

/-- A matched edge acts on the index (R85, R103). -/
def IndexUnit.matchEntry (x : IndexUnit) (n : Nat) (e : Entry) (o : Int) : IndexUnit :=
  let confirm := e.origin = .imported ∧ n ≤ x.importCount ∧ x.importStatus = .unconfirmed
  { x with
    drift := if e.origin = .predicted then x.drift else driftToward x.drift (o - e.lead)
    importStatus := if confirm then .confirmed else x.importStatus
    motion := x.motion.map fun m => { m with matched := n :: m.matched, lastEdge := some o } }

/-- An edge is ignored. -/
def IndexUnit.ignoreEdge (x : IndexUnit) (o : Int) : IndexUnit :=
  { x with motion := x.motion.map fun m => { m with lastEdge := some o } }

/-- An unexpected edge is a mismatch: the index gives way, and the edge opens a frame where the motion goes on in
EXTEND, or is merged into the last entry left (R96, R103, R106; notes/assumptions/58.md). -/
def Core.unexpected (c : Core) (j : Nat) (o : Int) : Core :=
  let c := c.mismatch j
  match c.ix.motion with
  | some m => if m.ahead then c else c.extendLeading o
  | none => c

/-- A leading edge confirmed in VERIFY (R103, R105); a match is reported. A nearest entry within the window that was
matched before counts as no entry within it (notes/assumptions/50.md), but for the wake check, which ignores the edge
then (notes/assumptions/51.md). -/
def Core.verifyLeading (c : Core) (o : Int) : Core :=
  let wake := c.ix.wake
  let c := c.setIx { c.ix with wake := false }
  let x := c.ix
  let p := c.prof
  match x.motion with
  | none => c
  | some m =>
    let close := match m.lastEdge with
      | some l => decide (o - l < (p.minPitch : Int))
      | none => false
    if close then c.setIx (x.ignoreEdge o)
    else
      let near := (nearestEntry o 1 none x.entries).filter fun q =>
        decide (|o - q.2.lead| ≤ (p.driftWindow : Int)) && (wake || !m.matched.contains q.1)
      match near with
      | some (n, e) => if m.matched.contains n then c.setIx (x.ignoreEdge o) else (c.setIx (x.matchEntry n e o)).emit (.matched n)
      | none =>
        match firstAbove o 1 none x.entries with
        | none => c.setIx (x.ignoreEdge o)
        | some (j, e, below) =>
          let excused := (below.map fun b => decide (b.origin = .predicted)).getD false || decide (e.origin = .predicted)
            || e.gapBefore
          if excused && !wake then c.setIx (x.ignoreEdge o) else c.unexpected j o

/-- The missing-entry tests that are due at a sample: how many entries have been tested after it, and the first that
is missing (R104). An entry whose test falls due before the detector has left RESYNC in the motion counts as tested
(notes/assumptions/97.md). -/
def firstMissing (window confirm4 pos start : Int) (leftResync : Option Int) (wake : Bool) (matched : List Nat) :
    Nat → List Entry → Nat × Option Nat
  | n, [] => (n, none)
  | n, e :: l =>
    if e.lead + window + confirm4 ≤ pos then
      let seen := match leftResync with
        | some r => decide (r ≤ e.lead - window)
        | none => false
      if e.origin = .predicted || decide (e.lead - window < start) || !seen || wake || matched.contains (n + 1) then
        firstMissing window confirm4 pos start leftResync wake matched (n + 1) l
      else (n + 1, some (n + 1))
    else (n, none)

/-- The missing-entry test at a sample in VERIFY (R104). -/
def Core.missingTest (c : Core) (pos : Int) : Core :=
  let x := c.ix
  match x.motion with
  | none => c
  | some m =>
    let (n, miss) := firstMissing c.prof.driftWindow (4 * (c.prof.confirmCount : Int)) pos m.start m.leftResync x.wake
      m.matched m.tested (x.entries.drop m.tested)
    let c := c.setIx { x with motion := some { m with tested := n } }
    match miss with
    | some j => c.mismatch j
    | none => c

/-! ## The end of a motion -/

/-- A forward motion ends (R90, R95, R96, R99, R101): a frame that waits for its blip is appended, and runs, open
frames and pulses are dropped. -/
def Core.endMotion (c : Core) : Core :=
  match c.ix.motion with
  | none => c.setIx { c.ix with unit := .off }
  | some _ =>
    let c := c.appendWaiting
    c.setIx { c.ix with
      unit := .off
      motion := none
      openFrame := none
      waitingFrame := none
      detector := { c.ix.detector with run := none }
      blipPulse := none
      pendingPulse := none
      edgePulse := none }

/-! ## A sample -/

/-- A forward motion begins: the detector enters RESYNC (R87, R90). A deadline that an earlier motion acted on is acted on
again (notes/assumptions/61.md). -/
def Motion.begin (pos : Int) : Motion where
  start := pos
  extending := false
  ahead := false
  lastEdge := none
  matched := []
  tested := 0
  leftResync := none
  deadlineDone := false

/-- The motion in progress, or a new one that begins at this sample (R87, R90). -/
def IndexUnit.inMotion (x : IndexUnit) (pos : Int) : IndexUnit :=
  if x.begins then
    { x with motion := some (Motion.begin pos), begins := false, detector := { st := .resync, run := none },
             blipPulse := none, edgePulse := none, pendingPulse := none }
  else x

/-- The next kept sample begins a forward motion (R87). -/
def IndexUnit.mayBegin (x : IndexUnit) : IndexUnit := { x with begins := true }

/-- The unit state is decided at a kept forward sample (R92): at or below the frontier it is VERIFY, after a truncation
too (notes/assumptions/59.md). -/
def IndexUnit.decideUnit (x : IndexUnit) (pos : Int) : IndexUnit :=
  match x.motion with
  | none => { x with unit := .off }
  | some m =>
    if m.ahead then { x with unit := .off }
    else if pos ≤ x.frontier then { x with unit := .verify }
    else if x.full then { x with unit := .off }
    else if m.extending then { x with unit := if x.lost then .lost else .extend }
    else
      let throughGap := x.detector.st = .resync && (match x.detector.run with
        | some (f, _) => decide (f ≤ x.frontier)
        | none => false)
      if m.start ≤ x.frontier ∧ (x.detector.st ≠ .resync ∨ throughGap = true) then
        { x with
          unit := if x.lost then .lost else .extend
          detector := if throughGap then { st := .gap, run := none } else x.detector
          motion := some { m with
            extending := true
            leftResync := if throughGap then some pos else m.leftResync } }
      else { x with unit := .off, motion := some { m with ahead := true } }

/-- The detector and the references take a sample: the unit after it, and the edge confirmed. -/
def IndexUnit.sense (x : IndexUnit) (p : Profile) (pos : Int) (image blip edge : Nat) (frameLike markedBlip markedEdge : Bool) :
    IndexUnit × Option (Bool × Int) :=
  let (d, ev) := x.detector.step p.confirmCount pos frameLike
  let left := x.detector.st = .resync && d.st = .gap
  ({ x with
     refImage := gapRef x.refImage x.detector frameLike image
     refBlip := laneRef x.refBlip markedBlip blip
     refEdge := laneRef x.refEdge markedEdge edge
     detector := d
     motion := x.motion.map fun m => { m with leftResync := if left then some pos else m.leftResync } }, ev)

/-- F follows the samples of EXTEND and LOST while the detector is settled (R94). -/
def IndexUnit.raiseFrontier (x : IndexUnit) (u : UnitState) (pos : Int) : IndexUnit :=
  if (u = .extend ∨ u = .lost) ∧ x.detector.settled = true ∧ x.full = false then { x with frontier := max x.frontier pos }
  else x

/-- The edge a sample confirms acts by the unit state (R95, R103). -/
def Core.edgeActs (c : Core) (u : UnitState) (ev : Option (Bool × Int)) : Core :=
  match u, ev with
  | .verify, some (true, o) => c.verifyLeading o
  | .extend, some (true, o) => c.extendLeading o
  | .lost, some (true, o) => c.extendLeading o
  | .extend, some (false, o) => c.extendTrailing o
  | .lost, some (false, o) => c.extendTrailing o
  | _, _ => c

/-- The last act of a sample: the prediction deadline in EXTEND, the missing-entry test in VERIFY (R98, R104), which a
motion that has extended makes no more (notes/assumptions/77.md). -/
def Core.deadlines (c : Core) (u : UnitState) (pos : Int) : Core :=
  match u with
  | .extend => if c.ix.full || c.ix.lost then c else c.predict pos
  | .verify =>
    match c.ix.motion with
    | some m => if m.extending || m.ahead then c else c.missingTest pos
    | none => c
  | _ => c

/-- A kept forward sample in MOVE (R87 to R105). One that begins a motion ends the motion before it. The blip lane is taken
before the edge lane's pulse, and that before the image lane's edge (notes/assumptions/75.md). -/
def Core.moveSample (c : Core) (pos : Int) (image blip edge : Nat) : Core :=
  let p := c.prof
  let c := if c.ix.begins then c.endMotion else c
  let x := (c.ix.inMotion pos).decideUnit pos
  let u := x.unit
  let frameLike := differs p.edgeThreshold x.refImage image
  let markedBlip := differs p.edgeThreshold x.refBlip blip
  let markedEdge := differs p.edgeThreshold x.refEdge edge
  let c := (c.setIx x).blipSample u pos markedBlip
  let c := c.edgeSample u pos markedEdge
  let (x, ev) := c.ix.sense p pos image blip edge frameLike markedBlip markedEdge
  let c := c.setIx (x.raiseFrontier u pos)
  (c.edgeActs u ev).deadlines u pos

/-! ## The search for frame 1 -/

/-- The search for frame 1 begins, with the detector in RESYNC (R91). -/
def IndexUnit.beginSearch (x : IndexUnit) : IndexUnit :=
  { x with searching := true, detector := { st := .resync, run := none }, unit := .off }

/-- The search has found the first leading edge: the unit is left as R91 lists. -/
def IndexUnit.found (x : IndexUnit) (p : Profile) : IndexUnit :=
  { x.emptied with searching := false, pitch := some (p.nominalPitch : Int) }

/-- A forward sample of the search (R91): the first leading edge re-bases P (R66). -/
def Core.searchSample (c : Core) (pos : Int) (image blip edge : Nat) : Core :=
  let p := c.prof
  let x := c.ix
  let frameLike := differs p.edgeThreshold x.refImage image
  let (x, ev) := x.sense p pos image blip edge frameLike (differs p.edgeThreshold x.refBlip blip)
    (differs p.edgeThreshold x.refEdge edge)
  match ev with
  | some (true, e) =>
    (c.setIx (x.found p)).setTr { c.tr with p := c.tr.p - e, threadStep := .stop }
  | _ => c.setIx x

/-- A reverse count ends a motion of the search; the next begins with the detector in RESYNC (R87, R90). -/
def IndexUnit.searchReversed (x : IndexUnit) : IndexUnit :=
  if x.searching then { x with detector := { st := .resync, run := none } } else x

/-- THREADING begins: the references become absent (R88). -/
def IndexUnit.forgetReferences (x : IndexUnit) : IndexUnit :=
  { x with refImage := none, refBlip := none, refEdge := none }

/-! ## Import, captures and the wake -/

/-- A staged import is installed (R112). -/
def IndexUnit.install (x : IndexUnit) (p : Profile) (s : Staged) : IndexUnit :=
  let n := s.entries.length
  { x with
    entries := s.entries.map fun e => if e.origin = .detected then { e with origin := .imported } else e
    frontier := (s.entries.getLast?.map (·.trail)).getD 0
    importCount := n
    importStatus := if n = 0 then .none else .unconfirmed
    pitch := some (clampNat p.minPitch 200000 s.pitch : Nat)
    gap := 0
    predictedRun := predictedRunOf s.entries.reverse
    lost := false
    full := decide (16384 ≤ n)
    staged := none }

/-- The Capture Unit's report of a completed capture (R109). `judged` is the score with its softness, when the capture
was focus-valid. -/
def IndexUnit.captureReport (x : IndexUnit) (n : Nat) (lead : Int) (judged : Option (Nat × Bool)) : IndexUnit :=
  match x.entry n with
  | some e =>
    if e.lead = lead then
      let e := { e with captured := true, captureCount := min (e.captureCount + 1) 255 }
      let e := match judged with
        | some (s, soft) => { e with score := some s, soft := soft }
        | none => e
      { x with entries := setAt x.entries (n - 1) e }
    else x
  | none => x

/-- The notice of a wake (R70, R105). -/
def IndexUnit.noticeWake (x : IndexUnit) : IndexUnit := { x with wake := true }

/-- A soft reset (R114). -/
def IndexUnit.softReset (x : IndexUnit) : IndexUnit :=
  { x with
    detector := { x.detector with run := none }
    unit := .off
    motion := none
    openFrame := none
    waitingFrame := none
    blipPulse := none
    pendingPulse := none
    edgePulse := none
    staged := none
    searching := false
    begins := false }

end Sys2Proof.Machine
end

