-- ==== Sys2Proof/Machine/Operands.lean ====
section
/-!
DEFINITION. The records the part reads from and writes to host memory, byte by byte (01_the_work_area, Record layouts;
02_requests, Profile record): the Setup Block, the Reel Type extension, profile records with their checks and clamps,
the request slot, the Selection Map, the index records and the result half.
-/

namespace Sys2Proof.Machine

/-! ## Outcome and detail codes (R47) -/

/-- The outcome codes of the request slot layout. -/
def Res.code : Res → Nat
  | .done => 0x01
  | .partly => 0x02
  | .cancelled => 0x03
  | .badRequest => 0x04
  | .rollAbsent => 0x05
  | .notFound => 0x06
  | .filmEnd => 0x07
  | .indexFull => 0x08
  | .noRoom => 0x09
  | .profileBusy => 0x0A
  | .transportFault => 0x0B
  | .linkFault => 0x0C
  | .changerFault => 0x0D
  | .indexMismatch => 0x0E

namespace Det
/-! The detail codes of R47, by their names. -/
def none : Nat := 0x00
def unknownKind : Nat := 0x01
def badOptions : Nat := 0x02
def badTargetForm : Nat := 0x03
def badExtent : Nat := 0x04
def countZero : Nat := 0x05
def badTarget : Nat := 0x06
def endBeforeStart : Nat := 0x07
def badAddress : Nat := 0x08
def badArgument : Nat := 0x09
def badBay : Nat := 0x0A
def bayBound : Nat := 0x0B
def rollBound : Nat := 0x0C
def profileEmpty : Nat := 0x0D
def readError : Nat := 0x0E
def mapDepth : Nat := 0x0F
def profileStamp : Nat := 0x10
def profileId : Nat := 0x11
def profileReel : Nat := 0x12
def profileImage : Nat := 0x13
def profileOrder : Nat := 0x14
def notBound : Nat := 0x18
def noRollMounted : Nat := 0x19
def notMounted : Nat := 0x1A
def bayEmpty : Nat := 0x1B
def bayEmptied : Nat := 0x1C
def targetPending : Nat := 0x20
def targetActive : Nat := 0x21
def targetInService : Nat := 0x22
def notHeld : Nat := 0x23
def notCancellable : Nat := 0x24
def addressAbsent : Nat := 0x25
def whilePending : Nat := 0x28
def whileSeeking : Nat := 0x29
def whileExtending : Nat := 0x2A
def whileCapturing : Nat := 0x2B
def whileProbing : Nat := 0x2C
def whileRetrying : Nat := 0x2D
def whileWaiting : Nat := 0x2E
def whileExporting : Nat := 0x2F
def whileMounting : Nat := 0x30
def whileUnmounting : Nat := 0x31
def tensionLow : Nat := 0x38
def tensionHigh : Nat := 0x39
def filmBreak : Nat := 0x3A
def reelStall : Nat := 0x3B
def extStop : Nat := 0x3C
def threadFail : Nat := 0x3D
def noFrames : Nat := 0x3E
def stopMiss : Nat := 0x3F
def inFault : Nat := 0x40
def linkNak : Nat := 0x48
def linkDataNak : Nat := 0x49
def linkArb : Nat := 0x4A
def linkStretch : Nat := 0x4B
def linkStuck : Nat := 0x4C
def linkDown : Nat := 0x4D
def changerTimeout : Nat := 0x50
def changerReported : Nat := 0x51
def bayFailed : Nat := 0x52
def imageWait : Nat := 0x58
def bufferShort : Nat := 0x59
def importRejected : Nat := 0x60
def missed : Nat := 0x61
def truncated : Nat := 0x62
end Det

/-! ## Reel Type extension (R10) -/

/-- One entry of the extension at `off`; none when it is unused. -/
def reelEntry (bs : List Byte) (off : Nat) : Option ReelType :=
  let r : ReelType :=
    { hub := fieldAt bs off 4, flange := fieldAt bs (off + 4) 4, thickness := fieldAt bs (off + 8) 4,
      nominal := fieldAt bs (off + 12) 4 }
  if r.thickness = 0 ∨ r.flange ≤ r.hub then none else some r

/-- The seven entries, 9 to 15. -/
def reelExtension (bs : List Byte) : List (Option ReelType) :=
  [0, 1, 2, 3, 4, 5, 6].map fun k => reelEntry bs (16 * k)

/-! ## Profile record (R41) -/

/-- The fields of a profile record as they stand in its bytes. -/
def profileRaw (bs : List Byte) : Profile where
  id := byteAt bs 0x04
  reelType := byteAt bs 0x05
  depth := byteAt bs 0x06
  confirmCount := byteAt bs 0x07
  gateOffset := fieldAt bs 0x08 4
  accel := fieldAt bs 0x0C 2
  shuttleSpeed := fieldAt bs 0x0E 2
  scanSpeed := fieldAt bs 0x10 2
  indexSpeed := fieldAt bs 0x12 2
  creepSpeed := fieldAt bs 0x14 2
  approach := fieldAt bs 0x16 2
  stopTolerance := fieldAt bs 0x18 2
  strobeLatency := fieldAt bs 0x1A 2
  endMargin := fieldAt bs 0x1C 4
  reverseMargin := fieldAt bs 0x20 4
  driftWindow := fieldAt bs 0x24 2
  tensionSetpoint := fieldAt bs 0x26 2
  tensionBand := fieldAt bs 0x28 2
  kp := byteAt bs 0x2A
  ki := byteAt bs 0x2B
  nominalPitch := fieldAt bs 0x2C 4
  minPitch := fieldAt bs 0x30 4
  minLength := fieldAt bs 0x34 4
  maxLength := fieldAt bs 0x38 4
  edgeThreshold := fieldAt bs 0x3C 2
  blipLead := fieldAt bs 0x3E 2
  smallMax := fieldAt bs 0x40 2
  mediumMax := fieldAt bs 0x42 2
  spliceMin := fieldAt bs 0x44 2
  spliceMax := fieldAt bs 0x46 2
  focusMin := fieldAt bs 0x48 2
  focusMax := fieldAt bs 0x4A 2
  defaultStep := fieldAt bs 0x4C 2
  probeStep := byteAt bs 0x4E
  bandLength := fieldAt bs 0x50 4
  softRatio := byteAt bs 0x54
  scoreShift := byteAt bs 0x55
  lampIntensity := byteAt bs 0x56
  width := fieldAt bs 0x58 2
  height := fieldAt bs 0x5A 2
  windowX := fieldAt bs 0x5C 2
  windowY := fieldAt bs 0x5E 2
  windowWidth := fieldAt bs 0x60 2
  windowHeight := fieldAt bs 0x62 2
  imageWait := fieldAt bs 0x64 2

/-- The reel type of a profile names a used entry (R41, R64). -/
def reelOk (ext : List (Option ReelType)) (p : Profile) : Bool := (reelType ext p.reelType).isSome

/-- The image geometry of a profile fits a slot (R41). -/
def imageOk (alloc : Nat) (p : Profile) : Bool :=
  decide (64 ≤ p.width ∧ p.width ≤ 8192 ∧ p.width % 8 = 0 ∧ 64 ≤ p.height ∧ p.height ≤ 8192
    ∧ (p.depth = 1 ∨ p.depth = 2) ∧ 64 + p.width * p.height * p.depth + 4 ≤ alloc)

/-- A Focus Window cut to the image (R41). -/
def cutWindow (p : Profile) : Profile :=
  let x := min p.windowX (p.width - 3)
  let y := min p.windowY (p.height - 2)
  { p with
    windowX := x
    windowY := y
    windowWidth := max 3 (min p.windowWidth (p.width - x))
    windowHeight := max 2 (min p.windowHeight (p.height - y)) }

/-- A profile clamped field by field to the ranges of the record table (R41). Default Step is clamped to the Focus
Range only when Focus Min does not pass Focus Max. -/
def clampProfile (p : Profile) : Profile :=
  let lo := clampNat 0 4095 p.focusMin
  let hi := clampNat 0 4095 p.focusMax
  cutWindow { p with
    confirmCount := clampNat 2 64 p.confirmCount
    gateOffset := clampNat 4000 60000 p.gateOffset
    accel := clampNat 500 8000 p.accel
    shuttleSpeed := clampNat 50 6000 p.shuttleSpeed
    scanSpeed := clampNat 50 1500 p.scanSpeed
    indexSpeed := clampNat 50 1500 p.indexSpeed
    creepSpeed := clampNat 5 100 p.creepSpeed
    approach := clampNat 400 20000 p.approach
    stopTolerance := clampNat 5 200 p.stopTolerance
    strobeLatency := clampNat 0 500 p.strobeLatency
    endMargin := clampNat 20000 1000000 p.endMargin
    reverseMargin := clampNat 20000 400000 p.reverseMargin
    driftWindow := clampNat 50 4000 p.driftWindow
    tensionSetpoint := clampNat 256 3840 p.tensionSetpoint
    tensionBand := clampNat 16 1024 p.tensionBand
    kp := clampNat 1 255 p.kp
    ki := clampNat 0 255 p.ki
    nominalPitch := clampNat 1000 200000 p.nominalPitch
    minPitch := clampNat 400 200000 p.minPitch
    minLength := clampNat 400 200000 p.minLength
    maxLength := clampNat 400 200000 p.maxLength
    edgeThreshold := clampNat 8 1023 p.edgeThreshold
    blipLead := clampNat 0 20000 p.blipLead
    smallMax := clampNat 4 20000 p.smallMax
    mediumMax := clampNat 4 20000 p.mediumMax
    spliceMin := clampNat 40 40000 p.spliceMin
    spliceMax := clampNat 40 40000 p.spliceMax
    focusMin := lo
    focusMax := hi
    defaultStep := if lo ≤ hi then clampNat lo hi p.defaultStep else p.defaultStep
    probeStep := clampNat 4 128 p.probeStep
    bandLength := clampNat 2000 1000000 p.bandLength
    softRatio := clampNat 1 255 p.softRatio
    scoreShift := clampNat 0 31 p.scoreShift
    lampIntensity := clampNat 0 255 p.lampIntensity
    imageWait := clampNat 0 10000 p.imageWait }

/-- One clamp flag. -/
def flagBit (n : Nat) (changed : Bool) : Nat := if changed then 2 ^ n else 0

/-- The Clamp flags of a profile `p` clamped to `q`: bits 2 to 13 of R30. -/
def clampFlags (p q : Profile) : Nat :=
  flagBit 2 (p.gateOffset != q.gateOffset)
  + flagBit 3 (p.accel != q.accel || p.shuttleSpeed != q.shuttleSpeed || p.scanSpeed != q.scanSpeed
      || p.indexSpeed != q.indexSpeed || p.creepSpeed != q.creepSpeed)
  + flagBit 4 (p.approach != q.approach || p.stopTolerance != q.stopTolerance)
  + flagBit 5 (p.strobeLatency != q.strobeLatency)
  + flagBit 6 (p.endMargin != q.endMargin || p.reverseMargin != q.reverseMargin)
  + flagBit 7 (p.driftWindow != q.driftWindow)
  + flagBit 8 (p.tensionSetpoint != q.tensionSetpoint || p.tensionBand != q.tensionBand || p.kp != q.kp
      || p.ki != q.ki)
  + flagBit 9 (p.nominalPitch != q.nominalPitch || p.minPitch != q.minPitch || p.minLength != q.minLength
      || p.maxLength != q.maxLength)
  + flagBit 10 (p.edgeThreshold != q.edgeThreshold || p.confirmCount != q.confirmCount || p.blipLead != q.blipLead
      || p.smallMax != q.smallMax || p.mediumMax != q.mediumMax || p.spliceMin != q.spliceMin
      || p.spliceMax != q.spliceMax)
  + flagBit 11 (p.focusMin != q.focusMin || p.focusMax != q.focusMax || p.defaultStep != q.defaultStep
      || p.probeStep != q.probeStep || p.bandLength != q.bandLength || p.softRatio != q.softRatio
      || p.scoreShift != q.scoreShift)
  + flagBit 12 (p.windowX != q.windowX || p.windowY != q.windowY || p.windowWidth != q.windowWidth
      || p.windowHeight != q.windowHeight)
  + flagBit 13 (p.imageWait != q.imageWait)

/-- The order check, on the clamped values (R41). -/
def orderOk (p : Profile) : Bool :=
  decide (p.focusMin ≤ p.focusMax ∧ p.smallMax < p.mediumMax ∧ p.spliceMin ≤ p.spliceMax
    ∧ p.minLength ≤ p.maxLength ∧ p.minPitch ≤ p.nominalPitch)

/-- What the checks of a profile record find (R41). -/
inductive ProfileCheck where
  | refused (detail : Nat)
  | passed (p : Profile) (clamps : Nat)
  deriving DecidableEq, Repr

/-- The checks and clamps SET PROFILE applies to a profile record, against a Slot Allocation and the entries 9 to 15
of the Reel Type Table (R41). -/
def checkProfile (alloc : Nat) (ext : List (Option ReelType)) (bs : List Byte) : ProfileCheck :=
  let p := profileRaw bs
  if fieldAt bs 0x00 4 ≠ fieldAt bs 0xFC 4 then .refused Det.profileStamp
  else if p.id = 0 then .refused Det.profileId
  else if reelOk ext p = false then .refused Det.profileReel
  else if imageOk alloc p = false then .refused Det.profileImage
  else
    let q := clampProfile p
    if orderOk q = false then .refused Det.profileOrder else .passed q (clampFlags p q)

/-! ## Setup Block (R8, R9) -/

/-- The Setup Block's fields as R9 takes them. -/
def setupFields (bs : List Byte) : Setup where
  ringBase := fieldAt bs 0x008 8
  slotAlloc := fieldAt bs 0x010 4
  slotCount := fieldAt bs 0x014 2
  sweepInterval := min (fieldAt bs 0x016 2) 1000
  returnCount := clampNat 1 32 (byteAt bs 0x018)
  returnDelay := min (fieldAt bs 0x01A 2) 100
  idleTime := clampNat 1 3600 (fieldAt bs 0x01C 2)
  dormantTime := min (fieldAt bs 0x020 4) 86400
  swapAge := min (fieldAt bs 0x024 2) 600
  ageLimit := clampNat 1 15 (byteAt bs 0x019)
  linkSpeed := if byteAt bs 0x01E = 1 then 1 else 0
  linkAddress := min (byteAt bs 0x01F) 127
  expected := fieldAt bs 0x026 2

/-- The Initial Profile of a Setup Block. -/
def initialProfile (bs : List Byte) : List Byte := (bs.drop 0x100).take 256

/-- The Image Ring of a setup shares a byte with the Work Area at `base`, whose offsets wrap modulo 2^64 (R2, R8). -/
def ringOverlaps (base : Nat) (s : Setup) : Bool :=
  let stop := s.ringBase + s.slotCount * s.slotAlloc
  decide (s.ringBase < base + 12288 ∧ base < stop) || decide (s.ringBase + 2 ^ 64 < base + 12288)

/-- A kept Profile Set passes the PROFILE_REEL and PROFILE_IMAGE checks against a setup being checked (R8). -/
def keptOk (alloc : Nat) (ext : List (Option ReelType)) : Option Profile → Bool
  | none => true
  | some p => reelOk ext p && imageOk alloc p

/-- The Setup Reason of the first of R8's checks that fails on data read whole; none when all pass. -/
def setupReason (base : Nat) (store : Store) (block ext : List Byte) : Option Nat :=
  let s := setupFields block
  let reels := reelExtension ext
  if fieldAt block 0x000 4 ≠ fieldAt block 0x3FC 4 then some 1
  else if s.ringBase % 4096 ≠ 0 then some 3
  else if s.slotCount < 2 ∨ 256 < s.slotCount then some 4
  else if s.slotAlloc < 65536 ∨ 67108864 < s.slotAlloc ∨ s.slotAlloc % 4096 ≠ 0 then some 5
  else if 2 ^ 64 < s.ringBase + s.slotCount * s.slotAlloc then some 6
  else if ringOverlaps base s then some 2
  else
    match checkProfile s.slotAlloc reels (initialProfile block) with
    | .refused _ => some 7
    | .passed _ _ =>
      if keptOk s.slotAlloc reels store.setA && keptOk s.slotAlloc reels store.setB then none else some 7

/-! ## Request slot (R12, R25, R26) -/

/-- R12's classes of a slot. -/
inductive SlotClass where
  | torn | free | orphaned | posted
  deriving DecidableEq, Repr

/-- The class of a slot, from its four stamps as read (R12). -/
def slotClass (bs : List Byte) : SlotClass :=
  let head := fieldAt bs 0x00 2
  let tail := fieldAt bs 0x3E 2
  if head ≠ tail then .torn
  else if head = 0 then .free
  else if head = fieldAt bs 0x42 2 then .free
  else if head = fieldAt bs 0x40 2 then .orphaned
  else .posted

/-- The kind a code names (01_the_work_area, Request slot). -/
def kindOf : Nat → Option Kind
  | 0x01 => some .mount
  | 0x02 => some .unmount
  | 0x03 => some .find
  | 0x04 => some .scan
  | 0x05 => some .index
  | 0x06 => some .probe
  | 0x10 => some .exportIndex
  | 0x11 => some .setProfile
  | 0x12 => some .cancel
  | _ => none

/-- A target of a form, in its 8 bytes (R26). -/
def readTarget (form : Nat) (bs : List Byte) (off : Nat) : Target :=
  match form with
  | 1 => .frame (fieldAt bs off 4)
  | 2 => .blip (fieldAt bs off 2) (fieldAt bs (off + 2) 2) (fieldAt bs (off + 4) 2)
  | 3 => .position (signedAt bs off 4)
  | _ => .none

/-- The valid values of a target (R26). -/
def Target.valid : Target → Bool
  | .none => true
  | .frame n => decide (1 ≤ n ∧ n ≤ 16384)
  | .blip _ _ _ => true
  | .position x => decide (-400000 ≤ x ∧ x ≤ 16000000)

/-- An End Target lies before its Target (R26). -/
def Target.before : Target → Target → Bool
  | .frame m, .frame n => decide (m < n)
  | .position x, .position y => decide (x < y)
  | .blip b d p, .blip b' d' p' => decide (b < b' ∨ b = b' ∧ (d < d' ∨ d = d' ∧ p < p'))
  | _, _ => false

/-- Whether a Target Form is allowed for a kind (02_requests, the table of kinds). -/
def formAllowed (k : Kind) (form : Nat) : Bool :=
  match k with
  | .find | .scan | .probe => decide (1 ≤ form ∧ form ≤ 3)
  | .index => decide (form ≤ 3)
  | _ => decide (form = 0)

/-- An address is valid when it is a nonzero multiple of 64 and the bytes reached end at or below 2^64 (R29). -/
def addressOk (a len : Nat) : Bool := decide (a % 64 = 0 ∧ a ≠ 0 ∧ a + len ≤ 2 ^ 64)

/-- The length of a Selection Map (R36). -/
def mapLength (endForm : Bool) (count : Nat) : Nat := if endForm then 1024 else ceilDiv count 4

/-- The code of frame `i` in a Selection Map (R36). -/
def mapCode (bs : List Byte) (i : Nat) : Nat := byteAt bs (i / 4) / 4 ^ (i % 4) % 4

/-- The first `n` codes of a Selection Map. -/
def mapCodes (bs : List Byte) (n : Nat) : List Nat := (List.range n).map (mapCode bs)

/-! ## Result half (R18) -/

/-- The first write of a Return's result fields, bytes 44h to 4Dh. -/
def resultFields (r : Return) : List Byte :=
  bytesOf 1 r.outcome.code ++ bytesOf 1 r.detail ++ bytesOf 2 r.clamps ++ bytesOf 2 r.captured ++ bytesOf 2 r.missed
    ++ bytesOf 2 r.indexed

/-- The second write of a Return's result fields, bytes 50h to 5Fh. -/
def resultTail (r : Return) : List Byte :=
  let (p, e) := r.sampled.getD (0, 0)
  bytesOf 4 r.firstImage ++ bytesOf 4 r.lastImage ++ signedBytes 4 p ++ bytesOf 4 e

/-- The address of a byte of a slot of the Request Board (01_the_work_area, The Work Area and its setup). -/
def slotAddress (base slot off : Nat) : Nat := addr base (0x1000 + slot * 0x80 + off)

/-! ## Index records (R24, R111, R113) -/

def Origin.code : Origin → Nat
  | .detected => 0
  | .predicted => 1
  | .imported => 2

def BlipClass.code : BlipClass → Nat
  | .none => 0
  | .small => 1
  | .medium => 2
  | .large => 3

/-- The flags of an index entry as their bits. -/
def Entry.flags (e : Entry) : Nat :=
  e.spliceBefore.toNat + 2 * e.short.toNat + 4 * e.long.toNat + 8 * e.gapBefore.toNat + 16 * e.soft.toNat
    + 32 * e.captured.toNat + 64 * e.saturated.toNat + 128 * e.score.isSome.toNat

/-- The 24 bytes of entry `n`; an absent score is written as 0 (R113). -/
def Entry.bytes (n : Nat) (e : Entry) : List Byte :=
  bytesOf 2 n ++ bytesOf 1 e.origin.code ++ bytesOf 1 e.blip.code ++ signedBytes 4 e.lead ++ bytesOf 4 e.length
    ++ bytesOf 2 e.batch ++ bytesOf 2 e.document ++ bytesOf 2 e.page ++ bytesOf 1 e.flags
    ++ bytesOf 1 e.captureCount ++ bytesOf 4 (e.score.getD 0)

/-- The entry in 24 bytes of a record; none for an Origin above 2 or a Blip Class above 3 (R111). -/
def entryOf (bs : List Byte) (off : Nat) : Option Entry :=
  let origin : Option Origin := match byteAt bs (off + 2) with
    | 0 => some .detected
    | 1 => some .predicted
    | 2 => some .imported
    | _ => none
  let blip : Option BlipClass := match byteAt bs (off + 3) with
    | 0 => some .none
    | 1 => some .small
    | 2 => some .medium
    | 3 => some .large
    | _ => none
  let f := byteAt bs (off + 0x12)
  match origin, blip with
  | some o, some b =>
    some { lead := signedAt bs (off + 4) 4, length := fieldAt bs (off + 8) 4, origin := o, blip := b,
           batch := fieldAt bs (off + 0x0C) 2, document := fieldAt bs (off + 0x0E) 2, page := fieldAt bs (off + 0x10) 2,
           spliceBefore := f.testBit 0, short := f.testBit 1, long := f.testBit 2, gapBefore := f.testBit 3,
           soft := f.testBit 4, captured := f.testBit 5, saturated := f.testBit 6,
           captureCount := byteAt bs (off + 0x13),
           score := if f.testBit 7 then some (fieldAt bs (off + 0x14) 3) else none }
  | _, _ => none

/-- The Frame Number at each of `n` places is its own (R111, NUMBERING). -/
def numberedOk (bs : List Byte) : Nat → Nat → Bool
  | 0, _ => true
  | k + 1, i => fieldAt bs (24 * (i - 1)) 2 = i && numberedOk bs k (i + 1)

/-- The Leading Positions rise from at least 0 (R111, ORDER). -/
def orderedOk (bs : List Byte) : Nat → Nat → Int → Bool
  | 0, _, _ => true
  | k + 1, i, prev =>
    let x := signedAt bs (24 * (i - 1) + 4) 4
    decide (prev < x) && orderedOk bs k (i + 1) x

/-- The `n` entries of a record's body, if every one of them has valid fields (R111, FIELD). -/
def entriesOf (bs : List Byte) (n : Nat) : Option (List Entry) := (List.range n).mapM fun i => entryOf bs (24 * i)

/-- What the checks of an import's body find (R111): the reason of a rejection, or the entries. -/
inductive ImportCheck where
  | rejected (reason : Nat)
  | passed (entries : List Entry)
  deriving DecidableEq, Repr

/-- STAMP, NUMBERING, ORDER and FIELD on the `n` entries and the tail of a record (R111). -/
def checkImportBody (head : List Byte) (n : Nat) (bs : List Byte) : ImportCheck :=
  let stamp := fieldAt head 0x00 4
  if stamp = 0 ∨ stamp ≠ fieldAt bs (24 * n) 4 then .rejected 2
  else if numberedOk bs n 1 = false then .rejected 5
  else if orderedOk bs n 1 (-1) = false then .rejected 6
  else
    match entriesOf bs n with
    | none => .rejected 7
    | some es =>
      if es.any (fun e => e.length = 0) || decide (16000000 < ((es.getLast?.map (·.trail)).getD 0)) then .rejected 7
      else .passed es

/-- ROLL and COUNT on the header of a record (R111): the reason of a rejection. -/
def checkImportHead (roll : Nat) (head : List Byte) : Option Nat :=
  if fieldAt head 0x04 4 ≠ roll then some 3
  else if 16384 < fieldAt head 0x08 4 then some 4
  else none

end Sys2Proof.Machine
end

