-- ==== Sys2Proof/Machine/Results.lean ====
section
/-!
DEFINITION. Returns (R16, R18, R20, R31): their decision, the Result Writer's queue with its writes, and the RETURN
counters; and the return of held requests (R154, R155, R178, R182, R183).
-/

namespace Sys2Proof.Machine

/-- A Return with counts 0. -/
def Return.plain (slot stamp : Nat) (notify : Bool) (takenAt : Nat) (outcome : Res) (detail : Nat) : Return where
  slot := slot
  stamp := stamp
  outcome := outcome
  detail := detail
  clamps := 0
  captured := 0
  missed := 0
  indexed := 0
  firstImage := 0
  lastImage := 0
  notify := notify
  takenAt := takenAt
  endsPass := false
  sampled := none
  issued := 0

/-- A Return is decided: it waits for the Result Writer behind those decided before it, and its request is no longer
waiting to run (R18). -/
def Core.decideReturn (c : Core) (r : Return) : Core :=
  (c.setPort { c.port with results := c.port.results ++ [.result r] }).setRm { c.rm with
    pendingSet := c.rm.pendingSet.map fun q => if q.slot = r.slot ∧ q.stamp = r.stamp then { q with returned := true } else q }

/-- The kinds that move film to a place (R151). -/
def Kind.positional : Kind → Bool
  | .find | .scan | .index | .probe => true
  | _ => false

/-- The held requests that name a roll are returned, in taking order, with counts 0 and the clamps of their taking (R30).
The active request is not one of them. -/
def Core.returnHeld (c : Core) (roll : Nat) (positionalOnly : Bool) (outcome : Res) (detail : Nat) : Core :=
  c.rm.pendingSet.foldl
    (fun c q =>
      if !q.active && !q.returned && decide (q.req.roll = roll) && (!positionalOnly || q.req.kind.positional) then
        c.decideReturn { Return.plain q.slot q.stamp q.req.notify q.takenAt outcome detail with clamps := q.clamps }
      else c) c

/-- A Return with NOTIFY counts toward RETURN (R20). -/
def Core.notify (c : Core) : Core :=
  let n := c.rm.notifyCount + 1
  let armed := if c.rm.returnDelay.isNone ∧ c.port.setup.returnDelay ≠ 0 then c.tick else c.rm.returnDelay
  if c.port.setup.returnCount ≤ n then
    (c.setRm { c.rm with notifyCount := 0, returnDelay := none }).send .returnCause
  else c.setRm { c.rm with notifyCount := n, returnDelay := armed }

/-- The Return Delay timer expires (R20). -/
def Core.returnDelayOver (c : Core) : Core :=
  match c.rm.returnDelay with
  | some _ => (c.setRm { c.rm with notifyCount := 0, returnDelay := none }).send .returnCause
  | none => c

/-- The Result Writer's next write (R16, R18). It writes the Taken Stamps too, behind the Returns decided before them
(notes/assumptions/42.md). -/
def Core.resultWrite (c : Core) : Option (Nat × List Byte) :=
  let base := c.port.workArea.getD 0
  match c.port.results with
  | [] => none
  | .taken slot stamp :: _ => some (slotAddress base slot 0x40, bytesOf 2 stamp)
  | .result r :: _ =>
    match r.issued with
    | 0 => some (slotAddress base r.slot 0x44, resultFields r)
    | 1 => some (slotAddress base r.slot 0x50, resultTail r)
    | _ => some (slotAddress base r.slot 0x42, bytesOf 2 r.stamp)

/-- The result fields are sampled as the first of them is written (R31). -/
def Core.sampleResult (c : Core) (r : Return) : Return :=
  { r with sampled := some (c.tr.p, min (c.now - r.takenAt) 4294967295) }

/-- The sampling of the Return at the head of the queue, before its first write. -/
def Core.resultPrepare (c : Core) : Core :=
  match c.port.results with
  | .result r :: rest =>
    if r.issued = 0 then c.setPort { c.port with results := .result (c.sampleResult r) :: rest } else c
  | _ => c

/-- The Return Stamp write has been issued: the slot is LOOKABLE, the request leaves the Pending Set, and NOTIFY counts
(R18); a pass ends with it, and PASS_END follows (R166). -/
def Core.returned (c : Core) (r : Return) : Core :=
  let m := c.rm
  let done := fun (s st : Nat) => decide (s = r.slot ∧ st = r.stamp)
  let c := c.setRm { m with
    slots := setAt m.slots r.slot .lookable
    pendingSet := m.pendingSet.filter fun q => !done q.slot q.stamp
    loading := m.loading.filter fun q => !done q.slot q.stamp
    pass := if r.endsPass then none else m.pass }
  let c := c.setStore { c.store with load := c.store.load.filter fun q => !done q.slot q.stamp }
  let c := if r.endsPass then c.trigger { passEnd := true } false else c
  if r.notify then c.notify else c

/-- The Result Writer's next write has been issued. -/
def Core.resultIssued (c : Core) : Core :=
  match c.port.results with
  | [] => c
  | .taken _ _ :: rest => c.setPort { c.port with results := rest }
  | .result r :: rest =>
    if r.issued < 2 then c.setPort { c.port with results := .result { r with issued := r.issued + 1 } :: rest }
    else (c.setPort { c.port with results := rest }).returned r

end Sys2Proof.Machine
end

