-- ==== Sys2Proof/Machine/Porter.lean ====
section
/-!
DEFINITION. The Index Porter (R24, R38, R39, R111, R113, R173): exports, saves and imports, one at a time, with the
writes and reads each issues.
-/

namespace Sys2Proof.Machine

/-- A transfer reaches the Porter: it waits for its turn (R38). -/
def Core.askPorter (c : Core) (t : Transfer) : Core := c.setPorter { c.porter with waiting := c.porter.waiting ++ [t] }

/-- The EXPORT in service of a slot and stamp. -/
def ReqMgr.exportOf (m : ReqMgr) (slot stamp : Nat) : Option Export :=
  m.exports.find? fun e => e.slot = slot && e.stamp = stamp

/-- An EXPORT ends, with its Return: it is no longer in service. -/
def Core.endExport (c : Core) (e : Export) (outcome : Res) (detail indexed : Nat) : Core :=
  let c := c.setRm { c.rm with exports := c.rm.exports.filter fun f => !(f.slot = e.slot && f.stamp = e.stamp) }
  c.decideReturn { Return.plain e.slot e.stamp e.notify e.takenAt outcome detail with indexed := indexed }

/-- The header values of an export, fixed at its start (R24, R38). -/
def Core.exportJob (c : Core) (t : Transfer) (address roll : Nat) : ExportJob where
  transfer := t
  address := address
  stamp := c.ix.exportStamp
  roll := roll
  count := c.ix.count
  frontier := c.ix.frontier
  drift := c.ix.drift
  profileId := c.prof.id
  pitch := (c.ix.pitch.getD 0).toNat
  issued := 0

/-- The export counter advances, and the Porter begins to write (R24). -/
def Core.beginExport (c : Core) (t : Transfer) (address roll : Nat) : Core :=
  let j := c.exportJob t address roll
  (c.setIx { c.ix with exportStamp := nextStamp 4294967295 c.ix.exportStamp }).setPorter { c.porter with job := .writing j }

/-- The Porter, free, starts its next transfer (R38, R111, R173). -/
def Core.porterStart (c : Core) : Core :=
  match c.porter.job, c.porter.waiting with
  | .idle, t :: rest =>
    let c := c.setPorter { c.porter with waiting := rest }
    match t with
    | .exportFor slot stamp =>
      match c.rm.exportOf slot stamp with
      | some e =>
        if e.length < 36 + 24 * c.ix.count then
          (c.setIx { c.ix with exportStamp := nextStamp 4294967295 c.ix.exportStamp }).endExport e .noRoom Det.bufferShort 0
        else c.beginExport t e.address e.roll
      | none => c
    | .save bay address roll =>
      (c.setRoll (c.roll.setBay bay { c.roll.bay bay with saved := none })).beginExport t address roll
    | .load address roll slot stamp =>
      let j : ImportJob :=
        { address := address, roll := roll, slot := slot, stamp := stamp, header := none, inFlight := false }
      c.setPorter { c.porter with job := .reading j }
  | _, _ => c

/-- How many entries a job has written. -/
def ExportJob.written (j : ExportJob) : Nat := min (j.issued - 3) j.count

/-- The next write of a job: the tail zero, the header in its two listed runs of bytes, the entries, the tail (R24). -/
def ExportJob.write (j : ExportJob) (x : IndexUnit) : Nat × List Byte :=
  let tail := j.address + 0x20 + 24 * j.count
  match j.issued with
  | 0 => (tail, bytesOf 4 0)
  | 1 => (j.address, bytesOf 4 j.stamp ++ bytesOf 4 j.roll ++ bytesOf 4 j.count ++ signedBytes 4 j.frontier
            ++ signedBytes 2 j.drift ++ bytesOf 1 j.profileId)
  | 2 => (j.address + 0x14, bytesOf 4 j.pitch)
  | k + 3 =>
    if k < j.count then
      match x.entry (k + 1) with
      | some e => (j.address + 0x20 + 24 * k, e.bytes (k + 1))
      | none => (j.address + 0x20 + 24 * k, [])
    else (tail, bytesOf 4 j.stamp)

/-- The Porter's next transaction, a write or a read (R24, R111). -/
def Core.porterNext (c : Core) : Option Transaction :=
  match c.porter.job with
  | .idle => none
  | .writing j => some (.write .indexPorter (j.write c.ix).1 (j.write c.ix).2)
  | .reading j =>
    if j.inFlight then none
    else
      match j.header with
      | none => some (.read .indexPorter j.address 0x20)
      | some h => some (.read .indexPorter (j.address + 0x20) (24 * fieldAt h 0x08 4 + 4))

/-- A job has written its tail stamp (R38, R173). -/
def Core.exportDone (c : Core) (j : ExportJob) : Core :=
  let c := c.setPorter { c.porter with job := .idle }
  match j.transfer with
  | .exportFor slot stamp =>
    match c.rm.exportOf slot stamp with
    | some e => (c.endExport e .done Det.none j.count).emit .exportEnded
    | none => c
  | .save bay _ _ =>
    (c.setRoll (c.roll.setBay bay { c.roll.bay bay with saved := some (j.count, j.frontier) })).emit .saved
  | .load _ _ _ _ => c

/-- The Porter's next transaction has been issued. -/
def Core.porterIssued (c : Core) : Core :=
  match c.porter.job with
  | .idle => c
  | .writing j =>
    if j.count + 3 ≤ j.issued then c.exportDone j
    else c.setPorter { c.porter with job := .writing { j with issued := j.issued + 1 } }
  | .reading j => c.setPorter { c.porter with job := .reading { j with inFlight := true } }

/-- An import is rejected (R111): the index stays empty, and IMPORT_REJECTED is queued. -/
def Core.rejectImport (c : Core) (j : ImportJob) (reason : Nat) : Core :=
  let c := c.setPorter { c.porter with job := .idle }
  ((c.setIx { c.ix.emptied with staged := none }).fault .importRejected .indexUnit reason (auxSlot j.slot j.stamp)).emit
    (.imported true)

/-- The pass under way is automatic (R154, R155). -/
def Core.automatic (c : Core) : Bool :=
  match c.rm.pass with
  | some q => (match q.kind with | .request _ => false | _ => true)
  | none => false

/-- The Saved Count and Saved Frontier an automatic mount requires of its record (R176). -/
def Core.savedMatches (c : Core) (head : List Byte) : Bool :=
  if c.automatic then
    match c.roll.seq with
    | some q => (c.roll.bay q.bay).saved = some (fieldAt head 0x08 4, signedAt head 0x0C 4)
    | none => true
  else true

/-- A read of an import ends (R111, R176). -/
def Core.importRead (c : Core) (r : ReadEnd) : Core :=
  match c.porter.job with
  | .reading j =>
    if j.inFlight then
      match r, j.header with
      | .error, _ => c.rejectImport j 1
      | .data bs, none =>
        match checkImportHead j.roll bs with
        | some reason => c.rejectImport j reason
        | none => c.setPorter { c.porter with job := .reading { j with header := some bs, inFlight := false } }
      | .data bs, some h =>
        match checkImportBody h (fieldAt h 0x08 4) bs with
        | .rejected reason => c.rejectImport j reason
        | .passed es =>
          if c.savedMatches h then
            let staged : Staged := { entries := es, frontier := signedAt h 0x0C 4, pitch := fieldAt h 0x14 4 }
            ((c.setPorter { c.porter with job := .idle }).setIx { c.ix with staged := some staged }).emit (.imported false)
          else c.rejectImport j 2
    else c
  | _ => c

/-- A truncation meets an EXPORT that is WRITING (R39). -/
def Core.porterTruncated (c : Core) (first : Nat) : Core :=
  match c.porter.job with
  | .writing j =>
    match j.transfer with
    | .exportFor slot stamp =>
      if max first (j.written + 1) ≤ j.count then
        match c.rm.exportOf slot stamp with
        | some e =>
          ((c.setPorter { c.porter with job := .idle }).endExport e .indexMismatch Det.truncated j.written).emit .exportEnded
        | none => c
      else c
    | _ => c
  | _ => c

/-- An EXPORT is WRITING (R38). -/
def Porter.exporting (p : Porter) : Bool :=
  match p.job with
  | .writing j =>
    (match j.transfer with
      | .exportFor _ _ => true
      | _ => false)
  | _ => false

/-- The transfer made for the Roll Manager, waiting or under way, is abandoned, as R173 gives of a save that a soft reset
abandons (notes/assumptions/67.md). -/
def Core.porterAbandon (c : Core) : Core :=
  c.setPorter {
    job := (match c.porter.job with
      | .reading _ => .idle
      | .writing j => (if c.porter.exporting then .writing j else .idle)
      | .idle => .idle)
    waiting := c.porter.waiting.filter fun t =>
      match t with
      | .exportFor _ _ => true
      | _ => false }

/-- The roll stops being mounted: every EXPORT that waits is returned (R39). -/
def Core.dropExports (c : Core) : Core :=
  let gone := c.rm.exports.filter fun e => c.porter.waiting.contains (.exportFor e.slot e.stamp)
  let c := c.setPorter { c.porter with waiting := c.porter.waiting.filter fun t =>
    match t with
    | .exportFor _ _ => false
    | _ => true }
  gone.foldl (fun c e => c.endExport e .rollAbsent Det.notMounted 0) c

/-- A CANCEL of an EXPORT, waiting or being written (R45). -/
def Core.cancelExport (c : Core) (e : Export) : Core :=
  match c.porter.job with
  | .writing j =>
    if j.transfer = .exportFor e.slot e.stamp then
      ((c.setPorter { c.porter with job := .idle }).endExport e .cancelled Det.whileExporting j.written).emit .exportEnded
    else
      (c.setPorter { c.porter with waiting := c.porter.waiting.filter (· != .exportFor e.slot e.stamp) }).endExport e
        .cancelled Det.whileWaiting 0
  | _ =>
    (c.setPorter { c.porter with waiting := c.porter.waiting.filter (· != .exportFor e.slot e.stamp) }).endExport e
      .cancelled Det.whileWaiting 0

end Sys2Proof.Machine
end

