-- ==== Sys2Proof/Machine/Focus.lean ====
section
/-!
DEFINITION. The Focus Unit (R115 to R133): the stepper and its settle count, the Focus Map, placement, the softness
judgement, probes, profile switches and parking.
-/

namespace Sys2Proof.Machine

/-! ## Bands and placement -/

/-- The focus band of a gate coordinate (R118). -/
def focusBand (p : Profile) (y : Int) : Nat := (clampInt 0 127 (y / (p.bandLength : Int))).toNat

/-- A step clamped to the Focus Range (R115). -/
def clampFocus (p : Profile) (s : Int) : Nat := (clampInt p.focusMin p.focusMax s).toNat

/-- The present entry of a band. -/
def Focus.entry (f : Focus) (b : Nat) : Option BandEntry := (f.map[b]?).join

/-- The entry of the band at distance `d` below `b`, or else above it: the lower band is taken of two at the same
distance (R120). -/
def Focus.atDistance (f : Focus) (b d : Nat) : Option (Nat × BandEntry) :=
  match (if d ≤ b then f.entry (b - d) else none) with
  | some e => some (b - d, e)
  | none => (f.entry (b + d)).map fun e => (b + d, e)

/-- The step and the source band for a frame in band `b` (R120). -/
def Focus.choose (f : Focus) (p : Profile) (b : Nat) : Nat × Option Nat :=
  match [0, 1, 2, 3, 4].findSome? (f.atDistance b) with
  | some (n, e) => (clampFocus p (e.best : Int), some n)
  | none => (clampFocus p (p.defaultStep : Int), none)

/-! ## The actuator -/

/-- The actuator has nothing left to step or to settle. -/
def Focus.atRest (f : Focus) : Bool := f.counter = f.commanded && f.settle.isNone && f.homing = 0

/-- The commanded step becomes `s` in state `st`. A goal equal to the counter leaves a running settle count; where none
runs, the settle count starts (R115; notes/assumptions/14.md). The homing run goes on in place of steps (R117). -/
def Core.focusTo (c : Core) (s : Nat) (st : FocusState) : Core :=
  let f := c.focus
  let settle :=
    if 0 < f.homing then none
    else if s = f.counter then (if f.settle.isSome then f.settle else c.tick)
    else none
  c.setFocus { f with commanded := s, st := st, settle := settle }

/-- PLACE with step `s` in a state other than PROBING (R116). -/
def Core.focusPlaceStep (c : Core) (s : Nat) : Core :=
  match c.focus.st with
  | .parked | .settled =>
    if s = c.focus.counter then (c.setFocus { c.focus with commanded := s, st := .settled }).emit .tryStrobe
    else c.focusTo s (.moving .place)
  | _ => c.focusTo s (.moving .place)

/-- A PLACE that is taken: the placement record is written, and the actuator acts on the step (R121). -/
def Core.focusPlaceNow (c : Core) (frame : Nat) (target : Int) : Core :=
  let p := c.prof
  let b := focusBand p (target - p.gateOffset)
  let (s, src) := c.focus.choose p b
  (c.setFocus { c.focus with placement := some { frame := frame, band := b, step := s, source := src } }).focusPlaceStep s

/-- The park step: the active Default Step, in the Focus Range (R115, R116). -/
def Core.parkStep (c : Core) : Nat := clampFocus c.prof (c.prof.defaultStep : Int)

/-- A PARK that is taken (R116). -/
def Core.focusParkNow (c : Core) : Core :=
  let s := c.parkStep
  match c.focus.st with
  | .parked | .settled =>
    if s = c.focus.counter then c.setFocus { c.focus with commanded := s, st := .parked } else c.focusTo s (.moving .park)
  | _ => c.focusTo s (.moving .park)

/-- PLACE: held during a probe (R116, R121). -/
def Core.focusPlace (c : Core) (frame : Nat) (target : Int) : Core :=
  match c.focus.st with
  | .probing => c.setFocus { c.focus with held := c.focus.held ++ [.place frame target] }
  | _ => c.focusPlaceNow frame target

/-- PARK: held during a probe (R116). -/
def Core.focusPark (c : Core) : Core :=
  match c.focus.st with
  | .probing => c.setFocus { c.focus with held := c.focus.held ++ [.park] }
  | _ => c.focusParkNow

/-- One held order is taken. -/
def Core.focusHeld (c : Core) : HeldOrder → Core
  | .place frame target => c.focusPlaceNow frame target
  | .park => c.focusParkNow

/-- The orders held during a probe are taken in the order they arrived (R116). -/
def Core.focusTakeHeld (c : Core) : Core :=
  c.focus.held.foldl Core.focusHeld (c.setFocus { c.focus with held := [] })

/-- 0.5 ms of stepping: one step toward the commanded step, or one of the homing run (R115, R117). -/
def Core.focusTick (c : Core) : Core :=
  let f := c.focus
  let c := c.setPins { c.pins with focusSteps := c.pins.focusSteps + 1 }
  if 0 < f.homing then
    let left := f.homing - 1
    c.setFocus { f with homing := left, settle := if left = 0 ∧ f.commanded = f.counter then c.tick else none }
  else
    let n := if f.counter < f.commanded then f.counter + 1 else f.counter - 1
    c.setFocus { f with counter := n, settle := if n = f.commanded then c.tick else none }

/-- The unit has a step to issue. -/
def Focus.stepping (f : Focus) : Bool := decide (0 < f.homing) || f.counter != f.commanded

/-- The settle count completes (R116, R127). -/
def Core.focusSettled (c : Core) : Core :=
  let f := { c.focus with settle := none }
  match f.st with
  | .moving .place => (c.setFocus { f with st := .settled }).emit .tryStrobe
  | .moving .park => c.setFocus { f with st := .parked }
  | .probing => (c.setFocus { f with probe := f.probe.map fun q => { q with phase := .waiting } }).emit .tryStrobe
  | _ => c.setFocus f

/-! ## Judgement -/

/-- A focus-valid score is soft against the source band's reference (R124). -/
def Focus.soft (f : Focus) (p : Profile) (source : Option Nat) (score : Nat) : Bool :=
  match source.bind f.entry with
  | some e => decide (score * 256 < e.reference * p.softRatio)
  | none => false

/-! ## Probes -/

/-- A centre adjusted into the interval of R126, or the middle of a Focus Range too narrow for it. -/
def probeCentre (p : Profile) (delta : Nat) (x : Int) : Int :=
  let lo : Int := (p.focusMin : Int) + 2 * delta
  let hi : Int := (p.focusMax : Int) - 2 * delta
  if lo ≤ hi then clampInt lo hi x else ((p.focusMin + p.focusMax) / 2 : Nat)

/-- The step of point `n`, 0 to 4, of a window: k is n - 2 (R126). -/
def probePoint (p : Profile) (q : Probe) (n : Nat) : Nat :=
  clampFocus p (q.centre + ((n : Int) - 2) * q.delta)

/-- The probe commands its next point. An actuator already at rest there goes on to the preview (R127). -/
def Core.probeNext (c : Core) (q : Probe) : Core :=
  let s := probePoint c.prof q q.scores.length
  let rest := c.focus.atRest && c.focus.counter = s
  if rest then
    (c.setFocus { c.focus with commanded := s, st := .probing, probe := some { q with phase := .waiting } }).emit .tryStrobe
  else
    let c := c.focusTo s .probing
    c.setFocus { c.focus with probe := some { q with phase := .moving } }

/-- A probe of frame `frame`, ordered at rest at target `target` (R126). -/
def Core.probeStart (c : Core) (frame : Nat) (target : Int) : Core :=
  let p := c.prof
  let b := focusBand p (c.tr.p - p.gateOffset)
  let delta := match c.focus.entry b with
    | some e => if 2 ≤ e.probes then max 4 (p.probeStep / 2) else p.probeStep
    | none => p.probeStep
  let centre := probeCentre p delta ((c.focus.choose p b).1 : Int)
  c.probeNext { frame := frame, target := target, band := b, delta := delta, centre := centre, shift := 0, scores := [],
                phase := .moving, cancelled := false }

/-- The point of highest score: of equal scores the smaller |k|, then the negative k (R128). -/
def bestPoint (scores : List Nat) : Nat :=
  [1, 3, 0, 4].foldl (fun best n => if scores.getD best 0 < scores.getD n 0 then n else best) 2

/-- The offset of the parabola through an interior point and its neighbours (R129). -/
def probeOffset (delta : Nat) (sm s0 sp : Nat) : Int :=
  let den : Int := 2 * ((sm : Int) - 2 * s0 + sp)
  if 0 ≤ den then 0
  else clampInt (-((delta / 2 : Nat) : Int)) ((delta / 2 : Nat) : Int) (truncDiv ((delta : Int) * ((sm : Int) - sp)) den)

/-- The probe's result is stored in its band, and STORED is replied (R129). -/
def Core.probeResult (c : Core) (q : Probe) (i : Nat) : Core :=
  let p := c.prof
  let s0 := q.scores.getD i 0
  let offset := if i = 0 ∨ i = 4 then 0 else probeOffset q.delta (q.scores.getD (i - 1) 0) s0 (q.scores.getD (i + 1) 0)
  let best := clampFocus p ((probePoint p q i : Int) + offset)
  let e : BandEntry := match c.focus.entry q.band with
    | some old => { best := best, reference := s0, probes := min (old.probes + 1) 255 }
    | none => { best := best, reference := s0, probes := 1 }
  let c := c.setFocus { c.focus with
    map := setAt c.focus.map q.band (some e)
    probe := none
    placement := some { frame := q.frame, band := q.band, step := best, source := some q.band } }
  ((c.focusTo best (.moving .place)).emit .probeStored).focusTakeHeld

/-- The settle count after a probe is dropped with goal `g`: it waits for the last step where steps are still to come,
starts where a step was being issued, and otherwise goes on (R130). -/
def Core.dropSettle (c : Core) (g : Nat) : Count :=
  let f := c.focus
  if 0 < f.homing ∨ g ≠ f.counter then none
  else if f.stepping then c.tick else f.settle

/-- The probe ends with nothing stored (R130): the commanded step becomes the counter, brought into the Focus Range
where a lens still coming in from outside it has it out of range (R115), and a preview's running score is discarded. -/
def Core.probeDrop (c : Core) (reply : Signal) : Core :=
  let f := c.focus
  let g := clampFocus c.prof (f.counter : Int)
  let settle := c.dropSettle g
  let c := c.setFocus { f with
    commanded := g
    settle := settle
    st := if 0 < f.homing ∨ g ≠ f.counter ∨ settle.isSome then .moving .place else .settled
    placement := none
    probe := none }
  let k := c.cap
  let c := match k.readout with
    | some r => if r.preview then c.setCap { k with score := none } else c
    | none => c
  (c.emit reply).focusTakeHeld

/-- The five scores of a window are stored (R128). -/
def Core.probeWindow (c : Core) (q : Probe) : Core :=
  let i := bestPoint q.scores
  if (i = 0 ∨ i = 4) ∧ q.shift < 3 then
    let moved := if i = 0 then q.centre - 2 * q.delta else q.centre + 2 * q.delta
    let centre := probeCentre c.prof q.delta moved
    if centre = q.centre then c.probeResult q i
    else c.probeNext { q with centre := centre, shift := q.shift + 1, scores := [] }
  else c.probeResult q i

/-- The score of a preview is complete (R127, R130): it is a point of the probe whose preview is being read. A cancelled
probe ends here, unless its last window completed first. -/
def Core.probeScore (c : Core) (score : Nat) : Core :=
  match c.focus.probe with
  | none => c
  | some q =>
    if q.phase ≠ .reading then c
    else if q.cancelled then c.probeDrop .probeAborted
    else
      let q := { q with scores := q.scores ++ [score] }
      if q.scores.length < 5 then c.probeNext q else c.probeWindow q

/-- A cancel order from the Active Pass (R130): the preview in progress runs to its end first. -/
def Core.probeCancel (c : Core) : Core :=
  c.setFocus { c.focus with probe := c.focus.probe.map fun q => { q with cancelled := true } }

/-- A probe meets a transport out of HOLD, or P outside the tolerance (R130). -/
def Core.probeAbandon (c : Core) : Core :=
  match c.focus.probe with
  | some _ => c.probeDrop .probeAbandoned
  | none => c

/-! ## Emptying, switches, resets -/

/-- The Focus Map is emptied, with its snapshot trigger (R131). -/
def Core.emptyMap (c : Core) : Core :=
  (c.setFocus { c.focus with map := List.replicate 128 none }).trigger { mapEmptied := true } false

/-- A profile switch at a pass start (R132). -/
def Core.focusSwitch (c : Core) : Core :=
  let p := c.prof
  let f := { c.focus with placement := none }
  let parking := f.st = .parked ∨ f.st = .moving .park
  let goal := if parking then clampFocus p (p.defaultStep : Int) else clampFocus p (f.commanded : Int)
  let c := c.setFocus f
  if goal = f.commanded then c
  else
    c.focusTo goal (match f.st with
      | .settled => .moving .place
      | .parked => .moving .park
      | s => s)

/-- A soft reset (R133): a probe ends without a reply, and the actuator is parked. -/
def Core.focusSoftReset (c : Core) : Core :=
  let f := { c.focus with probe := none, placement := none, held := [] }
  let f := { f with st := match f.st with
    | .probing => .moving .park
    | s => s }
  (c.setFocus f).focusParkNow

end Sys2Proof.Machine
end

