-- ==== Sys2Proof/Machine/Link.lean ====
section
/-!
DEFINITION. The Accessory Link Controller (R185 to R198): submissions, the head's progress on the wire, its results and
faults, the stuck bus, and the target side. What the changer and the lamp driver answer comes with the commands.
-/

namespace Sys2Proof.Machine

/-! ## Messages (10_accessory_link, The messages the part sends) -/

/-- The changer's address 24h or the lamp driver's 2Ah. -/
def LinkMsg.target : LinkMsg → Nat
  | .exchange _ _ | .status _ | .survey => 0x24
  | .lampSet _ | .lampOff | .lampStatus _ => 0x2A

/-- The command code of a message, for the fault info (R193). -/
def LinkMsg.code : LinkMsg → Nat
  | .exchange _ _ => 0x01
  | .status _ => 0x02
  | .survey => 0x03
  | .lampSet _ => 0x10
  | .lampOff => 0x11
  | .lampStatus _ => 0x12

/-- The data bytes of a write; a read has none (10_accessory_link, The messages the part sends). -/
def LinkMsg.bytes : LinkMsg → List Byte
  | .exchange bay _ => [0x01, BitVec.ofNat 8 bay]
  | .lampSet i => [0x10, BitVec.ofNat 8 i]
  | .lampOff => [0x11]
  | _ => []

/-- The byte count of a read. -/
def LinkMsg.readCount : LinkMsg → Nat
  | .status _ => 3
  | .survey => 5
  | .lampStatus _ => 2
  | _ => 0

/-- The requester's number in a fault's auxiliary value (R193). -/
def LinkRequester.code : LinkRequester → Nat
  | .startUp => 0
  | .rollManager => 1
  | .captureUnit => 2

/-- The fault named after a detail; LINK_DOWN queues none, and LINK_STUCK is queued by R192 (R193). -/
def LinkDetail.faultName : LinkDetail → Option FaultName
  | .nak => some .linkNak
  | .dataNak => some .linkDataNak
  | .arb => some .linkArb
  | .stretch => some .linkStretch
  | .stuck | .down => none

/-- The queueing of the fault of a failed head, with the low byte of its info (R193). -/
def Core.linkFault (c : Core) (item : LinkItem) (d : LinkDetail) (low : Nat) : Core :=
  match item.by', d.faultName with
  | .startUp, _ => c
  | _, none => c
  | r, some n =>
    c.fault n .link (item.msg.target * 65536 + item.msg.code * 256 + low) (BitVec.ofNat 28 r.code)

/-! ## The queue -/

/-- The link's state once nothing is on the wire: WAIT_FREE with a head, RETRY_WAIT while its wait runs, or IDLE
(R186, R194). -/
def Link.resting (l : Link) : LinkState :=
  if l.queue.isEmpty then .idle else if l.retryWait.isSome then .retryWait else .waitFree

/-- A submission (R185, R192): it fails at once in DOWN, joins the queue, or waits at its requester. -/
def Core.submit (c : Core) (item : LinkItem) : Core :=
  let l := c.link
  if l.st = .down then c.emit (.linkResult item [] (some .down))
  else if l.queue.length < 8 then
    c.setLink { l with queue := l.queue ++ [item], st := if l.st = .idle then .waitFree else l.st }
  else c.setLink { l with waiting := l.waiting ++ [item] }

/-- The head leaves the queue, and the submission waiting longest takes the free place (R185). -/
def Link.dropHead (l : Link) : Link :=
  { l with
    queue := l.queue.tail ++ l.waiting.take 1
    waiting := l.waiting.drop 1
    retries := 0
    losses := 0
    moved := 0
    retryWait := none
    failed := none }

/-- The head ends with a result: the link stops, and goes to WAIT_FREE or IDLE (R186). -/
def Core.linkEnd (c : Core) (bytes : List Byte) (d : Option LinkDetail) : Core :=
  match c.link.queue with
  | [] => c
  | item :: _ =>
    let l := c.link.dropHead
    (c.setLink { l with st := l.resting, freeCount := c.tick }).emit (.linkResult item bytes d)

/-- The head fails: its fault is queued, then it ends (R193). -/
def Core.linkFail (c : Core) (d : LinkDetail) (low : Nat) : Core :=
  match c.link.queue with
  | [] => c
  | item :: _ => (c.linkFault item d low).linkEnd [] (some d)

/-- The link answers nothing and drives nothing: in FAILED, and before the self-test's link check (R198). -/
def Core.linkDead (c : Core) : Bool := c.modes.mode = .failed || c.link.st = .down

/-! ## The controller side -/

/-- A write to the head's target ends: acknowledged to its last byte, or its byte `refused` answered NAK (R189). -/
def Core.linkWrite (c : Core) (isMsg : LinkMsg → Bool) (refused : Option Nat) : Core :=
  match c.link.st, c.link.queue with
  | .address, item :: _ =>
    if isMsg item.msg then
      match refused with
      | none => c.linkEnd [] none
      | some k => if 1 ≤ k ∧ k ≤ item.msg.bytes.length then c.linkFail .dataNak k else c
    else c
  | _, _ => c

/-- A read of the head's target ends with its bytes (R189). -/
def Core.linkRead (c : Core) (isMsg : LinkMsg → Bool) (bytes : List Byte) : Core :=
  match c.link.st, c.link.queue with
  | .address, item :: _ => if isMsg item.msg then c.linkEnd (bytes.take item.msg.readCount) none else c
  | _, _ => c

/-- The address byte is answered NAK (R188): a retry after 5 ms, or LINK_NAK after the third. -/
def Core.linkNak (c : Core) : Core :=
  let l := c.link
  if l.st = .address then
    if l.retries < 3 then
      c.setLink { l with losses := 0, retries := l.retries + 1, retryWait := c.tick, st := .retryWait, freeCount := c.tick }
    else c.linkFail .nak 4
  else c

/-- The retry wait has ended (R188): in TARGET it only ends. -/
def Core.linkRetry (c : Core) : Core :=
  let l := { c.link with retryWait := none }
  c.setLink (if l.st = .retryWait then { l with st := .waitFree } else l)

/-- Arbitration is lost, in ADDRESS or in WRITE after `moved` bytes (R190). A loss in WRITE follows an address byte sent
whole, which set the losses to 0. -/
def Core.linkLost (c : Core) (moved : Option Nat) : Core :=
  let l := c.link
  match l.st, l.queue with
  | .address, item :: _ =>
    let possible := match moved with
      | none => true
      | some m => decide (m < item.msg.bytes.length)
    if possible then
      let losses := if moved.isSome then 1 else l.losses + 1
      let l := { l with st := .listen, losses := losses, moved := 0, listenAddress := moved.isNone }
      if 8 ≤ losses then (c.setLink { l with failed := some .arb }).linkFault item .arb 8
      else c.setLink l
    else c
  | _, _ => c

/-- A clock stretch has lasted 25 ms (R191): the head fails, and the link waits in STOP for SCL to rise. The low-line
count goes on from the fall of SCL, 25 ms before (notes/assumptions/1.md). -/
def Core.linkStretch (c : Core) (moved : Option Nat) : Core :=
  let l := c.link
  match l.st, l.queue with
  | .address, item :: _ =>
    let m := moved.getD 0
    (c.setLink { l with
        st := .stop, failed := some .stretch, moved := m, lowCount := some (c.now - 25)
        losses := if moved.isSome then 0 else l.losses }).linkFault item .stretch m
  | _, _ => c

/-- The head's transfer starts: the start condition is a fall of SDA (R187). -/
def Core.linkStart (c : Core) : Core := c.setLink { c.link with st := .address, moved := 0, freeCount := c.tick }

/-- After a stretch, the bus shows that SCL has risen and the part's own stop condition has been sent: the head leaves with
its result, and the link goes to WAIT_FREE or IDLE (R186, R191; notes/assumptions/64.md). -/
def Core.linkStopSent (c : Core) : Core :=
  if c.link.st = .stop then (c.setLink { c.link with lowCount := none }).linkEnd [] c.link.failed else c

/-- The bus has been free for 50 µs (R187): both wires are high, and the head's transfer starts. A head that a stretch has
failed leaves first, and the next one starts in this same free time (R186, R191). -/
def Core.linkBusFree (c : Core) : Core :=
  let c := c.linkStopSent
  let l := { c.link with lowCount := none }
  match l.st with
  | .waitFree => (c.setLink l).linkStart
  | .down => c
  | _ => c.setLink l

/-! ## The stuck bus -/

/-- LINK_STUCK, with the wires' levels after the recovery (R193). -/
def Core.linkStuckFault (c : Core) (scl sda recovered : Bool) : Core :=
  c.fault .linkStuck .link (scl.toNat * 131072 + sda.toNat * 65536 + recovered.toNat) 0

/-- Whether the head fails in step 1 of the recovery, and with what (R192). A head that LINK_ARB has failed ends with
it (notes/assumptions/15.md). -/
def Link.stuckHead (l : Link) : Option LinkDetail :=
  match l.st with
  | .address | .write | .read | .stop => if l.queue.isEmpty then none else some .stuck
  | .listen | .target => if l.queue.isEmpty then none else l.failed
  | _ => none

/-- The link gives up (R192): every transaction and every waiting submission fails, in order. Lamp control becomes ABSENT
(R145), and a polling whose 20 ms or 5 s run is kept (notes/assumptions/103.md). -/
def Core.linkGiveUp (c : Core) : Core :=
  let l := c.link
  let all := l.queue ++ l.waiting
  let c := c.setLink { l with
    queue := [], waiting := [], st := .down, retries := 0, losses := 0, moved := 0, retryWait := none, failed := none,
    freeCount := none, lowCount := none }
  let c := all.foldl (fun c i => c.emit (.linkResult i [] (some .down))) c
  if c.cap.lamp.present then c.setCap { c.cap with lamp := { c.cap.lamp with present := false } } else c

/-- The low-line count has reached 35 ms (R192): the recovery, with the wires' levels after it. -/
def Core.linkRecover (c : Core) (quiet sclHigh scl sda : Bool) : Core :=
  let c := if sclHigh then c.setPins { c.pins with linkPulses := c.pins.linkPulses + 9 } else c
  let c := match c.link.stuckHead with
    | some d => c.linkEnd [] (some d)
    | none => c
  let l := { c.link with listenAddress := false, buffer := [], tooLong := false, dropMessage := false,
                         lowCount := none, retryWait := none, moved := 0 }
  if scl && sda then
    let c := c.setLink { l with st := l.resting, freeCount := c.tick }
    if quiet then c else c.linkStuckFault scl sda true
  else
    let c := if quiet then c else c.linkStuckFault scl sda false
    (c.setLink l).linkGiveUp

/-! ## The target side -/

/-- The address byte of another controller's transfer (R190, R194): the link answers its own address in the write
direction. A transfer that starts after a stretch follows the part's own stop condition. -/
def Core.linkWatch (c : Core) (address : Nat) (write : Bool) : Core :=
  let c := c.linkStopSent
  let l := c.link
  let mine := l.opened && write && decide (address = l.address ∧ address ≠ 0)
  let watching := match l.st with
    | .idle | .waitFree | .retryWait => true
    | .listen => l.listenAddress
    | _ => false
  if watching then
    let l := { l with listenAddress := false, freeCount := c.tick }
    c.setLink (if mine then { l with st := .target, buffer := [], tooLong := false, dropMessage := false } else l)
  else c

/-- A LISTEN or a TARGET is left (R190, R194). A head failed by LINK_ARB ends at that stop, and at a repeated start that ends
the message in TARGET too (notes/assumptions/105.md). -/
def Core.linkLeave (c : Core) : Core :=
  let l := { c.link with listenAddress := false, dropMessage := false, freeCount := c.tick }
  if l.failed.isSome then (c.setLink l).linkEnd [] l.failed else c.setLink { l with st := l.resting }

/-- The stop condition of another controller's transfer (R187, R190). One that ends a message before its command
BAY_EVENT drops the message. -/
def Core.linkForeignStop (c : Core) : Core :=
  match c.link.st with
  | .listen | .target => c.linkLeave
  | .stop => c.linkStopSent
  | .down => c
  | _ => c.setLink { c.link with freeCount := c.tick }

/-- A message of another controller is a Bay Event (R194): four bytes, 0Bh first and their exclusive-or last. -/
def bayMessage (bytes : List Byte) : Option (Nat × Nat) :=
  match bytes with
  | [b0, b1, b2, b3] => if b0 = 0x0B ∧ b3 = b0 ^^^ b1 ^^^ b2 then some (b1.toNat, b2.toNat) else none
  | _ => none

/-- A message taken in TARGET ends (R194): what it carried, with the link in the state it had left. A message that a soft
reset has met carries nothing (R198). -/
def Core.linkMessage (c : Core) (bytes : List Byte) : Core × Option (Nat × Nat) :=
  if c.link.st = .target then
    if c.link.dropMessage then (c.linkLeave, none)
    else ((c.setLink { c.link with buffer := bytes.take 4, tooLong := decide (4 < bytes.length) }).linkLeave,
      bayMessage bytes)
  else (c, none)

/-! ## Setup and resets -/

/-- Setup acceptance (R195, R192): the speed, the target address, and DOWN left for IDLE. -/
def Core.linkAccept (c : Core) : Core :=
  let s := c.port.setup
  let a := if s.linkAddress = 0 ∨ s.linkAddress = 0x24 ∨ s.linkAddress = 0x2A then 0x40 + c.pins.strapAddress
    else s.linkAddress
  let l := c.link
  c.setLink { l with
    fast := s.linkSpeed = 1, address := a, opened := true, st := if l.st = .down then .idle else l.st
    freeCount := if l.st = .down then c.tick else l.freeCount }

/-- A soft reset at moment `now` (R198): a transfer of the part ends with its stop condition, and the link is IDLE; a
message being taken is answered NAK and discarded, and TARGET is left at its stop. LISTEN is left at once
(notes/assumptions/89.md). -/
def Link.softReset (l : Link) (now : Nat) : Link :=
  { l with
    queue := []
    waiting := []
    st := match l.st with
      | .down => .down
      | .target => .target
      | _ => .idle
    dropMessage := l.st = .target
    retries := 0
    losses := 0
    moved := 0
    retryWait := none
    freeCount := if l.st = .down then none else some now
    lowCount := none
    listenAddress := false
    failed := none
    buffer := []
    tooLong := false }

end Sys2Proof.Machine
end

