-- ==== Sys2Proof/Machine/Capture.lean ====
section
/-!
DEFINITION. The Capture Unit (R82 to R84, R123, R134 to R147): reservations, the stop-mode strobe, the strobe compare,
camera lines and the Line FIFO, the Image Writer's writes, and the lamp.
-/

namespace Sys2Proof.Machine

/-! ## The lamp (R145, R146) -/

/-- The poll record is reset: polling stops, and answers to earlier polls are known as stale. -/
def Lamp.newRecord (l : Lamp) : Lamp :=
  { l with polling := false, pollTimer := none, pollLimit := none, serial := l.serial + 1 }

/-- The lamp is READY: polling and any fixed warm-up have ended, and what waited for it goes on (R146). -/
def Core.lampReady (c : Core) : Core :=
  let l := c.cap.lamp.newRecord
  (c.setCap { c.cap with lamp := { l with st := .ready, fixed := none } }).emit .tryStrobe

/-- A fixed warm-up of 2 s starts (R145, R146). -/
def Core.lampFixed (c : Core) : Core :=
  let l := c.cap.lamp.newRecord
  c.setCap { c.cap with lamp := { l with st := .warming, fixed := c.tick } }

/-- A LAMP STATUS is submitted, under the number of the present record. -/
def Core.lampPoll (c : Core) : Core := c.submit { msg := .lampStatus c.cap.lamp.serial, by' := .captureUnit }

/-- LAMP SET with the active intensity: at setup acceptance and at a return to RUN, in either lamp control (R145). A lamp
that was polling goes on polling from its new record: the first LAMP STATUS of it follows the LAMP SET
(R146; notes/assumptions/28.md). -/
def Core.lampOn (c : Core) : Core :=
  let polling := c.cap.lamp.polling
  let l := c.cap.lamp.newRecord
  if l.present then
    let i := c.prof.lampIntensity
    let fixed := if l.fixed.isSome then c.tick else none
    let l := { l with st := .warming, fixed := fixed, lastSent := i, polling := polling,
                      pollLimit := if polling then c.tick else none }
    let c := (c.setCap { c.cap with lamp := l }).submit { msg := .lampSet i, by' := .captureUnit }
    (if polling then c.lampPoll else c).emit .tryStrobe
  else c.lampFixed

/-- LAMP SET at a pass start that changed the active set: nothing with lamp control ABSENT (R145). -/
def Core.lampSwitch (c : Core) : Core := if c.cap.lamp.present then c.lampOn else c

/-- The device mode goes from RUN to STANDBY (R145). -/
def Core.lampOffEvent (c : Core) : Core :=
  let l := c.cap.lamp.newRecord
  let c := c.setCap { c.cap with lamp := { l with st := .off, fixed := none } }
  if l.present then c.submit { msg := .lampOff, by' := .captureUnit } else c

/-- A strobe, a flyby arming or a preview waits for a WARMING lamp: polling begins (R146). With lamp control ABSENT a
fixed warm-up starts where none runs (notes/assumptions/16.md). While a fixed warm-up runs none begins
(notes/assumptions/85.md). -/
def Core.lampWait (c : Core) : Core :=
  let l := c.cap.lamp
  if l.st = .warming ∧ l.fixed.isNone ∧ l.polling = false then
    if l.present then (c.setCap { c.cap with lamp := { l with polling := true, pollLimit := c.tick } }).lampPoll
    else c.lampFixed
  else c

/-- The result of a lamp transaction (R145, R146, R197). A LAMP OFF's result changes nothing. A failure starts the fixed
warm-up whatever the lamp's state (notes/assumptions/29.md), and with lamp control ABSENT too
(notes/assumptions/103.md). -/
def Core.lampResult (c : Core) (msg : LinkMsg) (bytes : List Byte) (failed : Bool) : Core :=
  let l := c.cap.lamp
  match msg with
  | .lampSet _ => if failed then c.lampFixed else c
  | .lampStatus serial =>
    if failed then c.lampFixed
    else if l.polling && l.serial = serial then
      if byteAt bytes 0 % 2 = 1 then c.lampReady
      else c.setCap { c.cap with lamp := { l with pollTimer := c.tick } }
    else c
  | _ => c

/-! ## Reservations (R134 to R136) -/

/-- A reservation read is wanted: with no slot in hand, no read asked for and no reread to come, one is asked for. A read still
in flight, whatever it was made for, serves this capture (notes/assumptions/84.md). -/
def Core.wantSlot (c : Core) : Core :=
  let k := c.cap
  if k.inHand.isNone && k.reservation = .none && k.reread.isNone then c.setCap { k with reservation := .queued } else c

/-- A capture wants a slot: a stop-mode one, or the current frame of a flyby walk. -/
def Capture.wants (k : Capture) : Bool := k.stop.isSome || k.flyby.isSome

/-- A frame of a flyby walk is reported LATE, NOT_FIRED or NO_SLOT (R84, R136): it is no longer armed, and no longer
current. -/
def Core.flybyMiss (c : Core) (frame : Nat) : Core :=
  let k := c.cap
  (c.setCap { k with
    armed := k.armed.filter fun a => a.frame != frame
    flyby := k.flyby.filter fun f => f.frame != frame }).emit (.flybyMissed frame)

/-- The Image Wait count reaches its limit: NO_ROOM (R135). A read in flight will not be used. -/
def Core.imageWaitOver (c : Core) : Core :=
  let k := c.cap
  (c.setCap { k with
    imageWait := none
    reread := none
    reservation := match k.reservation with
      | .none | .queued => .none
      | _ => .dead }).emit .noRoom

/-- A read that did not reserve (R135, R136): the Image Wait count of a stop-mode capture starts, or goes on with a
reread to come; the current frame of a flyby walk is reported NO_SLOT. Either way whichever capture the read was
made for (notes/assumptions/84.md). -/
def Core.notReserved (c : Core) : Core :=
  let k := c.cap
  let waiting := k.stop.isSome || k.imageWait.isSome
  let d :=
    if waiting then
      if c.prof.imageWait = 0 ∧ k.imageWait.isNone then c.imageWaitOver
      else c.setCap { k with imageWait := if k.imageWait.isSome then k.imageWait else c.tick, reread := c.tick }
    else c
  match k.stop, k.flyby with
  | none, some f => d.flybyMiss f.frame
  | _, _ => d

/-- A reservation read ends (R134). One that an expired Image Wait has left behind is not used, and queues no fault
(R135; notes/assumptions/78.md). -/
def Core.reservationDone (c : Core) (r : ReadEnd) : Core :=
  let k := c.cap
  match k.reservation with
  | .flight =>
    let c := c.setCap { k with reservation := .none }
    match r with
    | .data bs =>
      if fieldAt bs 0 4 = 0 then
        (c.setCap { c.cap with
          inHand := some k.cursor
          cursor := if c.port.setup.slotCount ≤ k.cursor + 1 then 0 else k.cursor + 1
          imageWait := none
          reread := none }).emit .tryStrobe
      else c.notReserved
    | .error => (c.fault .memoryRead .captureUnit k.cursor c.auxPass).notReserved
  | .dead =>
    let c := c.setCap { k with reservation := .none }
    if c.cap.wants then c.wantSlot else c
  | _ => c

/-! ## Exposures and CAM_HOLD -/

/-- The bytes held in the Line FIFO. -/
def Capture.fill (k : Capture) : Nat := (k.fifo.map List.length).sum

/-- CAM_HOLD follows the FIFO's free space while a capture is read out (R139), and its total is kept (R140). -/
def Core.holdUpdate (c : Core) : Core :=
  let k := c.cap
  match k.camera, k.readout with
  | .readout, some r =>
    if r.preview then c
    else
      let want := decide (262144 < k.fill + r.width * r.depth)
      if want && !k.camHold then
        c.setCap { k with camHold := true, readout := some { r with holdSince := c.tick } }
      else if !want && k.camHold then
        c.setCap { k with
          camHold := false
          readout := some { r with holdTotal := r.holdTotal + (c.now - r.holdSince.getD c.now), holdSince := none } }
      else c
  | _, _ => c.setCap { k with camHold := false }

/-- The score of an exposure begins with the active Focus Window (R123). -/
def Score.begin (p : Profile) : Score where
  sum := 0
  x := p.windowX
  y := p.windowY
  width := p.windowWidth
  height := p.windowHeight
  shift := p.scoreShift

/-- A score scaled and saturated (R123). -/
def Score.value (s : Score) : Nat := min (s.sum / 2 ^ s.shift) 16777215

/-- STROBE fires: the camera port becomes READOUT (R137). -/
def Core.expose (c : Core) (preview stopMode : Bool) (depth : Nat) : Core :=
  let p := c.prof
  (c.setPins { c.pins with strobes := c.pins.strobes + 1 }).setCap { c.cap with
    camera := .readout
    readout := some { preview := preview, stopMode := stopMode, width := p.width, height := p.height, depth := depth,
                      lines := 0, holdTotal := 0, holdSince := none }
    score := some (Score.begin p) }

/-- The lens is SETTLED for a frame (R122). -/
def Core.settledFor (c : Core) (frame : Nat) : Bool :=
  c.focus.st = .settled && (c.focus.placement.map (·.frame)) = some frame

/-- STROBE fires for a capture: the slot in hand joins the filling list (R138), and CAM_HOLD meets the FIFO's free space
at once (R139). The Leading Position of a frame whose entry is gone is 0 (notes/assumptions/80.md). -/
def Core.strobeImage (c : Core) (frame : Nat) (fullDepth stopMode recapture : Bool) : Core :=
  let k := c.cap
  let p := c.prof
  let ringSlot := k.inHand.getD 0
  let alloc := c.port.setup.slotAlloc
  let depth := if fullDepth then 2 else p.depth
  let im : Image :=
    { ringSlot := ringSlot, address := c.port.setup.ringBase + ringSlot * alloc, alloc := alloc, roll := c.mountedRoll,
      frame := frame, lead := ((c.ix.entry frame).map (·.lead)).getD 0, pStrobe := c.tr.p, step := c.focus.counter,
      width := p.width, height := p.height, depth := depth, unsettled := !c.settledFor frame, fullDepth := fullDepth,
      stopMode := stopMode, recapture := recapture, damaged := false,
      slot := (c.rm.pass.map (·.slot)).getD 0, stamp := (c.rm.pass.map (·.stamp)).getD 0,
      source := c.focus.placement.bind (·.source), entered := 0, ended := false, score := none, soft := none,
      imageStamp := 0, headDone := 0, rowsDone := 0, chunksDone := 0, closed := false }
  let c := c.expose false stopMode depth
  (c.setCap { c.cap with inHand := none, filling := k.filling ++ [im] }).holdUpdate

/-- P is within Stop Tolerance of a target, in HOLD (R82, R127). -/
def Core.atTarget (c : Core) (t : Int) : Bool :=
  c.tr.st = .hold && decide (|c.tr.p - t| ≤ (c.prof.stopTolerance : Int))

/-- The stop-mode strobe looks at its conditions (R82). From ARRIVED on it waits for the lamp
(notes/assumptions/66.md). -/
def Core.stopTry (c : Core) : Core :=
  match c.cap.stop with
  | none => c
  | some s =>
    if s.arrived then
      let c := c.lampWait
      let k := c.cap
      if k.lamp.st = .ready && k.inHand.isSome && k.camera = .idle && c.settledFor s.frame then
        if c.atTarget s.target then
          let c := c.strobeImage s.frame s.fullDepth true s.recapture
          (c.setCap { c.cap with stop := none }).emit (.strobed s.frame)
        else (c.setCap { k with stop := some { s with arrived := false } }).emit .offTarget
      else c
    else c

/-- The preview of a probe looks at its conditions (R127, R138). -/
def Core.previewTry (c : Core) : Core :=
  match c.focus.probe with
  | some q =>
    if q.phase = .waiting then
      let c := c.lampWait
      if c.cap.lamp.st = .ready && c.cap.camera = .idle then
        if c.atTarget q.target then
          (c.expose true true c.prof.depth).setFocus { c.focus with probe := some { q with phase := .reading } }
        else c.probeAbandon
      else c
    else c
  | none => c

/-! ## The strobe compare (R83, R84) -/

/-- The compare value C for a target (R83). -/
def Core.compareValue (c : Core) (t : Int) : Int :=
  let p := c.prof
  clampInt (t - p.gateOffset) t (t - (roundDiv (c.tr.speed * p.strobeLatency) 5000 : Nat))

/-- STROBE fires for the armed frame, which is reported FIRED (R84). -/
def Core.flybyFire (c : Core) (a : Armed) : Core :=
  let c := c.strobeImage a.frame a.fullDepth false false
  (c.setCap { c.cap with armed := none, flyby := c.cap.flyby.filter fun f => f.frame != a.frame }).emit
    (.flybyFired a.frame)

/-- The compare is disarmed, and its frame reported NOT_FIRED (R84). -/
def Core.disarm (c : Core) : Core :=
  match c.cap.armed with
  | some a => c.flybyMiss a.frame
  | none => c

/-- The compare is armed for the current frame with its PLACE (R84, R138): a frame it was armed for before is reported
NOT_FIRED; with P past T the compare stays IDLE and reports LATE. -/
def Core.flybyArm (c : Core) (f : FlybyFrame) (t : Int) : Core :=
  let c := c.disarm.focusPlace f.frame t
  if t < c.tr.p then c.flybyMiss f.frame
  else
    let a : Armed := { frame := f.frame, fullDepth := f.fullDepth, target := t, compare := c.compareValue t }
    let c := c.setCap { c.cap with armed := some a }
    if c.tr.forwardMotion && decide (a.compare ≤ c.tr.p) then c.flybyFire a else c

/-- The current frame of a flyby walk looks at its conditions: it is armed when its slot, the camera port and the lamp
are ready, and all the same once P has passed T; a frame whose entry is gone is LATE (R84, R138, R143), armed or not
(notes/assumptions/79.md). It waits for the lamp from the moment its slot is ready (notes/assumptions/66.md). -/
def Core.flybyTry (c : Core) : Core :=
  match c.cap.flyby with
  | none => c
  | some f =>
    if (c.cap.armed.map (·.frame)) = some f.frame then c
    else
      match c.ix.entry f.frame with
      | none => c.flybyMiss f.frame
      | some e =>
        let t := c.targetOf e
        if t < c.tr.p then c.flybyArm f t
        else if c.cap.inHand.isSome && c.cap.camera = .idle then
          let c := c.lampWait
          if c.cap.lamp.st = .ready then c.flybyArm f t else c
        else c

/-- A forward count meets the armed compare (R84), and the frame that waits for its arming. -/
def Core.strobeCount (c : Core) : Core :=
  match c.cap.armed with
  | some a =>
    if a.target < c.tr.p then (c.flybyMiss a.frame).flybyTry
    else if a.compare ≤ c.tr.p then (c.flybyFire a).flybyTry
    else c.flybyTry
  | none => c.flybyTry

/-- The armed compare is computed again, at a profile-timer expiry (R83, R84, R143). -/
def Core.strobeRecompute (c : Core) : Core :=
  match c.cap.armed with
  | some a =>
    match c.ix.entry a.frame with
    | none => c.flybyMiss a.frame
    | some e =>
      let t := c.targetOf e
      let a := { a with target := t, compare := c.compareValue t }
      let c := c.setCap { c.cap with armed := some a }
      if t < c.tr.p then c.flybyMiss a.frame
      else if c.tr.forwardMotion && decide (a.compare ≤ c.tr.p) then c.flybyFire a
      else c
  | none => c

/-- What waits for the lens, the lamp, the camera port or a slot looks again. -/
def Core.tryStrobe (c : Core) : Core := c.stopTry.previewTry.flybyTry

/-! ## What the Active Pass orders -/

/-- A stop-mode capture of a frame is wanted, as its POSITION order is issued (R121, R135). -/
def Core.capStop (c : Core) (frame : Nat) (target : Int) (fullDepth recapture : Bool) : Core :=
  let c := c.setCap { c.cap with
    stop := some { frame := frame, target := target, fullDepth := fullDepth, recapture := recapture, arrived := false } }
  (c.focusPlace frame target).wantSlot

/-- The transport has replied ARRIVED to the order for the stop-mode frame (R82). -/
def Core.capArrived (c : Core) : Core :=
  match c.cap.stop with
  | some s => (c.setCap { c.cap with stop := some { s with arrived := true } }).emit .tryStrobe
  | none => c

/-- A flyby walk begins: no Image Wait applies in it, and the count and the reread of an earlier capture end without a
report (R136). -/
def Core.waitOff (c : Core) : Core := c.setCap { c.cap with imageWait := none, reread := none }

/-- A frame becomes the current frame of the flyby walk: with no slot in hand, its reservation read starts at once
(R136). -/
def Core.flybyCurrent (c : Core) (frame : Nat) (fullDepth : Bool) : Core :=
  let c := c.waitOff
  ((c.setCap { c.cap with flyby := some { frame := frame, fullDepth := fullDepth } }).wantSlot).flybyTry

/-- The walk or the range the captures served is over, and the pass goes on: the compare is disarmed, no frame is current,
and a read not yet issued is not made. A running Image Wait count goes on, with its rereads, until a slot is in hand or a
flyby walk begins (R135, R136; notes/assumptions/63.md). -/
def Core.capDrop (c : Core) : Core :=
  let c := c.disarm
  let k := c.cap
  c.setCap { k with
    stop := none
    flyby := none
    reservation := if k.reservation = .queued ∧ k.imageWait.isNone then .none else k.reservation }

/-- A cancel order, or the pass entering ENDING: the compare is disarmed, the Image Wait count ends without a report, and
a read not yet issued is not made (R135, R143). A slot in hand is kept. -/
def Core.capEnd (c : Core) : Core :=
  let c := c.disarm
  let k := c.cap
  c.setCap { k with
    stop := none
    flyby := none
    imageWait := none
    reread := none
    reservation := match k.reservation with
      | .queued => .none
      | r => r }

/-! ## Camera lines (R123, R137, R139, R140) -/

/-- The image being read out, the newest of the filling list, is changed. -/
def Core.newest (c : Core) (f : Image → Image) : Core :=
  c.setCap { c.cap with filling := modAt c.cap.filling (c.cap.filling.length - 1) f }

/-- The sum of R123 over one window row of pixels `q`, the upper bytes. -/
def rowSum (q : List Nat) : Nat :=
  (List.zipWith (fun (a b : Nat) => (((a : Int) - b) ^ 2).toNat) (q.drop 2) q).sum

/-- A window row is taken: every second row of the Focus Window, the first among them, is added to the score. The score
after it, and whether it was the last that is taken, with which the score is complete (R123) and the capture focus-valid
(R122). -/
def Score.row (s : Score) (row : Nat) (pixels : List Pixel) : Score × Bool :=
  if s.y ≤ row ∧ row < s.y + s.height ∧ (row - s.y) % 2 = 0 then
    ({ s with sum := s.sum + rowSum (((pixels.drop s.x).take s.width).map fun q => q.toNat / 256) },
      decide (s.y + s.height ≤ row + 2))
  else (s, false)

/-- A complete score goes to the probe, or to the image with the Focus Unit's judgement of a capture not flagged
UNSETTLED (R122 to R124). -/
def Core.scoreComplete (c : Core) (preview : Bool) (value : Nat) : Core :=
  let c := c.setCap { c.cap with score := none }
  if preview then c.probeScore value
  else
    let p := c.prof
    let f := c.focus
    c.newest fun im =>
      { im with score := some value, soft := if im.unsettled then none else some (f.soft p im.source value) }

/-- The image being read out ends with the lines it has; an incomplete score is that of the rows that arrived
(R137, R140, R141). -/
def Core.imageEnd (c : Core) (damaged : Bool) : Core :=
  let value := c.cap.score.map Score.value
  let c := c.setCap { c.cap with score := none }
  c.newest fun im =>
    { im with ended := true, damaged := im.damaged || damaged, score := if im.score.isSome then im.score else value }

/-- The bytes of a line at an image's depth (R137). -/
def lineBytes (depth : Nat) (pixels : List Pixel) : List Byte :=
  if depth = 1 then pixels.map fun q => BitVec.ofNat 8 (q.toNat / 256)
  else pixels.flatMap fun q => bytesOf 2 q.toNat

/-- A camera line arrives (R137, R139, R140). -/
def Core.cameraLine (c : Core) (pixels : List Pixel) : Core :=
  match c.cap.camera, c.cap.readout with
  | .readout, some r =>
    if pixels.length = r.width then
      let row := r.lines
      let c := c.setCap { c.cap with readout := some { r with lines := row + 1 } }
      let c := if r.preview then c else
        (c.setCap { c.cap with fifo := c.cap.fifo ++ [lineBytes r.depth pixels] }).newest fun im =>
          { im with entered := im.entered + 1 }
      let c := match c.cap.score with
        | some s =>
          let (s, last) := s.row row pixels
          if last then c.scoreComplete r.preview s.value else c.setCap { c.cap with score := some s }
        | none => c
      if r.height ≤ row + 1 then
        let c := if r.preview then c else c.imageEnd false
        ((c.setCap { c.cap with camera := .idle, readout := none }).holdUpdate).emit .tryStrobe
      else c.holdUpdate
    else c
  | .discarding, some r =>
    if r.height ≤ r.lines + 1 then (c.setCap { c.cap with camera := .idle, readout := none }).emit .tryStrobe
    else c.setCap { c.cap with readout := some { r with lines := r.lines + 1 } }
  | _, _ => c

/-- 100 ms without a line, CAM_HOLD released (R137). -/
def Core.cameraTimeout (c : Core) : Core :=
  match c.cap.camera, c.cap.readout with
  | .idle, _ => c
  | _, none => c
  | cam, some r =>
    if c.cap.camHold then c
    else
      let score := c.cap.score
      let c := c.setCap { c.cap with camera := .idle, readout := none }
      let c :=
        if r.preview then
          match score with
          | some s => c.scoreComplete true s.value
          | none => c
        else if cam = .readout then c.imageEnd true
        else c
      (c.fault .cameraTimeout .captureUnit r.lines c.auxPass).emit .tryStrobe

/-- The hold total of a flyby image reaches 2 ms: the image is truncated (R140). -/
def Core.flybyTruncate (c : Core) : Core :=
  match c.cap.camera, c.cap.readout with
  | .readout, some r =>
    if c.cap.camHold && !r.preview && !r.stopMode then
      let im := c.cap.filling.getLast?
      let written := (im.map (·.entered)).getD 0
      let slot := (im.map (·.ringSlot)).getD 0
      let c := (c.setCap { c.cap with camHold := false, camera := .discarding }).imageEnd true
      c.fault .fifoOverflow .captureUnit (slot * 65536 + written) c.auxPass
    else c
  | _, _ => c

/-! ## The Image Writer (R141, R142) -/

/-- The flags of an image header, with SOFT and DAMAGED as given. -/
def Image.flags (im : Image) (soft damaged : Bool) : Nat :=
  im.unsettled.toNat + 2 * soft.toNat + 4 * damaged.toNat + 8 * im.fullDepth.toNat + 16 * im.stopMode.toNat
    + 32 * im.recapture.toNat

/-- The closing fields, bytes 16h to 27h of the header. -/
def Image.closing (im : Image) (flags score lines : Nat) : List Byte :=
  bytesOf 2 flags ++ bytesOf 4 score ++ bytesOf 2 im.width ++ bytesOf 2 im.height ++ bytesOf 1 im.depth
    ++ bytesOf 1 im.slot ++ bytesOf 2 im.stamp ++ bytesOf 2 lines ++ bytesOf 2 0

/-- The 64-byte header of step 2. -/
def Image.header (im : Image) : List Byte :=
  bytesOf 4 im.imageStamp ++ bytesOf 4 im.roll ++ bytesOf 4 im.frame ++ signedBytes 4 im.lead
    ++ signedBytes 4 im.pStrobe ++ bytesOf 2 im.step ++ im.closing (im.flags false false) 0 0 ++ bytesOf 24 0

/-- The Image Writer's next write of the oldest image, if it has one ready. -/
def Capture.imageWrite (k : Capture) (stamp : Nat) : Option (Nat × List Byte) :=
  match k.filling with
  | [] => none
  | im :: _ =>
    if im.headDone = 0 then some (im.address + im.alloc - 4, bytesOf 4 0)
    else if im.headDone = 1 then some (im.address, { im with imageStamp := stamp }.header)
    else if im.rowsDone < im.entered then
      match k.fifo with
      | l :: _ =>
        some (im.address + 0x40 + im.rowsDone * im.width * im.depth + im.chunksDone * 256,
          (l.drop (im.chunksDone * 256)).take 256)
      | [] => none
    else if im.ended then
      if im.closed then some (im.address + im.alloc - 4, bytesOf 4 im.imageStamp)
      else some (im.address + 0x16, im.closing (im.flags (im.soft.getD false) im.damaged) (im.score.getD 0) im.entered)
    else none

/-- The Image Stamp of an image whose first write is issued now, or the one it has. -/
def Core.stampInForce (c : Core) : Nat :=
  match c.cap.filling with
  | im :: _ => if im.headDone = 0 then c.prof.id * 16777216 + c.cap.counter else im.imageStamp
  | [] => 0

/-- An image is complete: it leaves the filling list, the counter advances, and its reports are made (R142). -/
def Core.imageComplete (c : Core) (im : Image) (rest : List Image) : Core :=
  let c := c.setCap { c.cap with filling := rest, counter := nextStamp 16777215 c.cap.counter }
  let judged := match im.soft, im.score with
    | some s, some v => some (v, s)
    | _, _ => none
  (c.setIx (c.ix.captureReport im.frame im.lead judged)).emit
    (.imageDone im.frame im.imageStamp im.damaged (im.soft.getD false) im.recapture)

/-- The Image Writer's next write has been issued. A line leaves the Line FIFO with its last write
(notes/assumptions/81.md). -/
def Core.imageIssued (c : Core) : Core :=
  let stamp := c.stampInForce
  match c.cap.filling with
  | [] => c
  | im :: rest =>
    let put (x : Image) : Core := c.setCap { c.cap with filling := x :: rest }
    if im.headDone = 0 then put { im with headDone := 1, imageStamp := stamp }
    else if im.headDone = 1 then put { im with headDone := 2 }
    else if im.rowsDone < im.entered then
      match c.cap.fifo with
      | l :: more =>
        if l.length ≤ (im.chunksDone + 1) * 256 then
          (c.setCap { c.cap with filling := { im with rowsDone := im.rowsDone + 1, chunksDone := 0 } :: rest
                                 fifo := more }).holdUpdate
        else put { im with chunksDone := im.chunksDone + 1 }
      | [] => c
    else if im.ended then (if im.closed then c.imageComplete im rest else put { im with closed := true })
    else c

/-! ## Resets (R147) -/

/-- A soft reset. -/
def Capture.softReset (k : Capture) : Capture :=
  { k with
    inHand := none
    filling := []
    armed := none
    camera := .idle
    readout := none
    fifo := []
    camHold := false
    score := none
    reservation := .none
    imageWait := none
    reread := none
    stop := none
    flyby := none
    lamp := { k.lamp.newRecord with st := .off, fixed := none } }

end Sys2Proof.Machine
end

