-- ==== Sys2Proof/Machine/Transport.lean ====
section
/-!
DEFINITION. The Transport Controller (R48 to R82): orders and replies, the move plan, the ramp with its caps and its
brake test, limits, creep and settle, tension, safety events, radii, threading, unthreading, relax, wake, recovery and
the soft reset.
-/

namespace Sys2Proof.Machine

/-! ## Leaving and entering states -/

/-- A reel once the film is no longer driven: its radius window is discarded and its stall count cleared (R60, R63). -/
def Reel.undriven (r : Reel) : Reel := { r with window := none, stall := none }

/-- A reel whose radius is absent (R63). -/
def Reel.forget (r : Reel) : Reel := { r with radius := none, length := 0, window := none }

/-- The profile timer stops: the compare is disarmed, the forward motion ends, the plan and the reference go
(R53, R63, R84, R87). -/
def Core.leaveMotion (c : Core) : Core :=
  let c := c.disarm.endMotion
  c.setTr { c.tr with
    plan := none, vRef := 0, settleCount := none, stopWaits := false, feedCount := none
    supply := c.tr.supply.undriven, takeUp := c.tr.takeUp.undriven }

/-- A regulator that starts, or stops: sums 0 and no count running (R57, R58). -/
def Dancer.start (_ : Dancer) : Dancer := Dancer.reset

/-- The regulator starts (R57). -/
def Transport.startRegulator (t : Transport) : Transport :=
  { t with established := false, inBand := none, supplyDancer := t.supplyDancer.start, takeUpDancer := t.takeUpDancer.start }

/-- The regulator stops: its counts are cleared, and its running sums stand until it next starts. -/
def Transport.stopRegulator (t : Transport) : Transport :=
  { t with
    established := false, inBand := none
    supplyDancer := { t.supplyDancer with out := none, correction := 0, clamped := false }
    takeUpDancer := { t.takeUpDancer with out := none, correction := 0, clamped := false } }

/-- The drives go off, and the regulator stops. -/
def Core.drivesOff (c : Core) : Core :=
  (c.setTr c.tr.stopRegulator).setPins { c.pins with torqueSupply := 0, torqueTakeUp := 0 }

/-- The transport enters HOLD (STEADY) (R52). -/
def Core.enterHold (c : Core) : Core :=
  let c := c.leaveMotion
  c.setTr { c.tr with st := .hold, tensioning := false }

/-- The transport comes to rest in HOLD and replies to the Active Pass; the reply goes before the report of a compare
that the rest disarms, and before the append that the end of the motion makes (notes/assumptions/93.md). -/
def Core.holdReply (c : Core) (r : Reply) : Core := (c.emit (.passReply r)).enterHold

/-- A reply to the Roll Manager's sequence, which then waits no more. -/
def Core.rollAnswer (c : Core) (r : Reply) : Core :=
  if c.tr.rollWaits then (c.setTr { c.tr with rollWaits := false }).emit (.rollReply r) else c

/-- The transport enters FAULT (R62): drives off, brake demand on, every count cleared, and what was waited for is
dropped. -/
def Core.enterFault (c : Core) : Core :=
  let c := c.leaveMotion.drivesOff
  (c.setTr { c.tr with
      st := .fault, tensioning := false, relaxRamp := none, wakePending := false, waiting := none
      waitingUnthread := false, wakeWaits := false, wakeCount := none, testCount := none, tensionTest := false, unthreadEnding := false
      resetBraking := false }).setIx { c.ix with searching := false }

/-- A reply to the device-mode logic, made where it waits for one. -/
def Core.modeAnswer (c : Core) (waits : Bool) (r : Reply) : Core := if waits then c.emit (.modeReply r) else c

/-- A safety event, or a threading failure taken like one (R62, R66, R68): FAULT, the fault, and the replies; a RELAX in
its ramp and a WAKE that waits are answered with the event's name (R51, R70). The Active Pass is told before the reports
of what the event disarms. -/
def Core.safetyAs (c : Core) (name : FaultName) (r : Reply) (info : Nat) (aux : BitVec 28) : Core :=
  let t := c.tr
  ((((((c.emit (.safety r)).enterFault).fault name .transport info aux).probeAbandon).rollAnswer r).modeAnswer
    t.relaxRamp.isSome r).modeAnswer t.wakeWaits r

/-- A safety event: its auxiliary value is P (R58 to R61). -/
def Core.safetyEvent (c : Core) (name : FaultName) (r : Reply) (info : Nat) : Core :=
  c.safetyAs name r info (auxPosition c.tr.p)

/-- THREAD_FAIL (R66, R68); the auxiliary value is left open (notes/assumptions/11.md). -/
def Core.threadFail (c : Core) (info : Nat) : Core :=
  (c.safetyAs .threadFail .threadFail info (BitVec.ofNat 28 (Config.threadFailAux c.free))).nextFree

/-! ## Planning (R74 to R77) -/

/-- The highest target a POSITION order can reach (R75). -/
def Core.highestTarget (c : Core) : Int := 16000000 - 4 * (c.prof.stopTolerance : Int)

/-- The staging point of a target (R76). -/
def Core.stagingPoint (c : Core) (t : Int) : Int := max (t - (c.prof.approach : Int)) (-(c.prof.reverseMargin : Int))

/-- The first leg R76 gives a target from rest. -/
def Core.firstLeg (c : Core) (t : Int) : Leg :=
  let s := c.stagingPoint t
  if c.tr.p ≤ s - (c.prof.stopTolerance : Int) then .stageForward
  else if c.tr.p ≤ t - 40 then .creep
  else .stageReverse

/-- The direction a leg runs in; a creep is forward. -/
def Leg.dir : Leg → Dir
  | .stageReverse | .runReverse => .reverse
  | _ => .forward

/-- The leg of a run. -/
def runLeg : Dir → Leg
  | .forward => .runForward
  | .reverse => .runReverse

/-- The plan of a target with a first leg. -/
def Core.positionPlan (c : Core) (t : Int) (leg : Leg) (retried : Bool) : Plan :=
  let s := c.stagingPoint t
  { order := .position t, staging := s, leg := leg, endPoint := some (if leg = .creep then t else s), retried := retried }

/-- The plan of a run. -/
def runPlan (dir : Dir) (speed : Nat) (stopAt : Option Int) (extending : Bool) : Plan :=
  { order := .run dir speed stopAt extending, staging := 0, leg := runLeg dir, endPoint := stopAt, retried := false }

/-- A leg starts: the transport is in MOVE. A compare that is armed is disarmed when the film begins to move in reverse
(R84). -/
def Core.startLeg (c : Core) (pl : Plan) (ph : Phase) : Core :=
  let c := if pl.leg.dir = .reverse then c.disarm else c
  c.setTr { c.tr with st := .move, plan := some pl, phase := ph, dir := pl.leg.dir, settleCount := none }

/-- A reel whose stall count is cleared: the reference is below 50 mm/s (R60). -/
def Reel.unstalled (r : Reel) : Reel := { r with stall := none }

/-- An order planned from rest at the present P (R76). The reference is 0, which clears the stall counts (R60), and the
next kept forward sample begins a motion (R87). -/
def Core.planFromRest (c : Core) (o : MoveOrder) (retried : Bool) : Core :=
  let c := (c.setTr { c.tr with
    vRef := 0, supply := c.tr.supply.unstalled, takeUp := c.tr.takeUp.unstalled }).setIx c.ix.mayBegin
  match o with
  | .position t =>
    let leg := c.firstLeg t
    c.startLeg (c.positionPlan t leg retried) (if leg = .creep then .creep else .accel)
  | .run dir speed stopAt ext => c.startLeg (runPlan dir speed stopAt ext) .accel

/-- Braking toward a goal begins. -/
def Core.brakeFor (c : Core) (pl : Plan) (goal : BrakeGoal) : Core :=
  c.setTr { c.tr with plan := some pl, phase := .brake goal, settleCount := none }

/-- Braking toward Creep Speed begins; a reference already there goes on as a creep (R52, R77). -/
def Core.shortApproach (c : Core) (t : Int) : Core :=
  if c.tr.vRef ≤ c.prof.creepSpeed * 1000 then c.startLeg (c.positionPlan t .creep false) .creep
  else c.brakeFor (c.positionPlan t .stageForward false) .toCreep

/-- The brake distance at the present reference. -/
def Core.brakeNow (c : Core) : Int := (brakeDistance c.prof.accel c.tr.speed : Nat)

/-- The phase an order in the direction of travel keeps (R54). The leg that R77 gives it runs at the order's speed, so that a
creep, a settle, and a braking of the leg replaced, are left for ACCEL with the reference kept
(notes/assumptions/53.md). -/
def Phase.kept : Phase → Phase
  | .cruise => .cruise
  | .accel | .creep | .settle | .brake _ => .accel

/-- An order that replaces a move in its direction of travel: it keeps the reference and the phase (R54, R77). -/
def Core.planMoving (c : Core) (o : MoveOrder) : Core :=
  let b := c.brakeNow
  let p := c.tr.p
  match o with
  | .position t =>
    let s := c.stagingPoint t
    match c.tr.dir with
    | .forward =>
      if b ≤ s - p then c.startLeg (c.positionPlan t .stageForward false) c.tr.phase.kept
      else if b ≤ t - p then c.shortApproach t
      else c.brakeFor (c.positionPlan t .stageForward false) (.replan o)
    | .reverse =>
      let pl := c.positionPlan t .stageReverse false
      if b ≤ p - s then c.startLeg pl c.tr.phase.kept else c.brakeFor pl .reverseEnd
  | .run dir speed stopAt ext =>
    let pl := runPlan dir speed stopAt ext
    let inside := match stopAt, dir with
      | some e, .forward => decide (e - p < b)
      | some e, .reverse => decide (p - e < b)
      | none, _ => false
    if inside then c.brakeFor pl .runEnd else c.startLeg pl c.tr.phase.kept

/-- The direction an order's first leg would run in from the present P (R77). -/
def Core.orderDir (c : Core) : MoveOrder → Dir
  | .position t => (c.firstLeg t).dir
  | .run dir _ _ _ => dir

/-- The order a plan would have, kept while the film brakes for a replanning. -/
def Core.pendingPlan (c : Core) : MoveOrder → Plan
  | .position t => c.positionPlan t (c.firstLeg t) false
  | .run dir speed stopAt ext => runPlan dir speed stopAt ext

/-- An order replaces the one in progress (R54): at a reference of 0 it is planned from rest. -/
def Core.replaceOrder (c : Core) (o : MoveOrder) : Core :=
  let c := c.setTr { c.tr with stopWaits := false }
  if c.tr.vRef = 0 then c.planFromRest o false
  else if c.orderDir o = c.tr.dir then c.planMoving o
  else c.brakeFor (c.pendingPlan o) (.replan o)

/-- An order starts in HOLD (STEADY) (R52, R76). -/
def Core.startOrder (c : Core) (o : MoveOrder) : Core :=
  match o with
  | .position t =>
    if |c.tr.p - t| ≤ (c.prof.stopTolerance : Int) then c.emit (.passReply .arrived) else c.planFromRest o false
  | .run _ _ _ _ => c.planFromRest o false

/-! ## Wake and unthread -/

/-- The wake of R70 begins in RELAXED: drives on, regulator started, HOLD as TENSIONING. -/
def Core.startWake (c : Core) : Core :=
  let t := c.tr.startRegulator
  c.setTr { t with st := .hold, tensioning := true, wakeCount := c.tick, wakePending := false, relaxRamp := none }

/-- An unthread whose L_tu has fallen below 400,000 counts goes on at Thread Speed (R68). -/
def Transport.unthreadMark (t : Transport) : Transport :=
  match t.st, t.lTu with
  | .unthreading, some l => { t with unthreadSlow := t.unthreadSlow || decide (l < 400000) }
  | _, _ => t

/-- An unthread starts (R68). With Film Present already clear it brakes to its end at once
(notes/assumptions/46.md). -/
def Core.startUnthread (c : Core) : Core :=
  let c := c.disarm.endMotion
  let t := { c.tr with
    st := .unthreading, tensioning := false, plan := none, dir := .reverse, vRef := 0, unthreadSlow := false
    unthreadEnding := !c.pins.filmPresent, resetBraking := false, tensionTest := false, testCount := none }
  c.setTr t.unthreadMark

/-- The wake has ended with tension established: the Index Unit is told, AWAKE goes to the WAKE and to the orders that
waited, and these start (R51, R70). -/
def Core.wakeDone (c : Core) : Core :=
  let o := c.tr.waiting
  let u := c.tr.waitingUnthread
  let w := c.tr.wakeWaits
  let c := (c.setTr { c.tr with
    tensioning := false, wakeCount := none, waiting := none, waitingUnthread := false, wakeWaits := false }).setIx
    c.ix.noticeWake
  let c := c.modeAnswer w .awake
  if u then (c.emit (.rollReply .awake)).startUnthread
  else
    match o with
    | some m => (c.emit (.passReply .awake)).startOrder m
    | none => c

/-! ## Orders (R51) -/

/-- An order of the Active Pass that the state refuses. -/
def Core.refuse (c : Core) : Core := c.emit (.passReply .refused)

/-- An accepted positional order that must wait for a wake, or starts, or replaces. -/
def Core.acceptOrder (c : Core) (o : MoveOrder) : Core :=
  match c.tr.st with
  | .move => c.replaceOrder o
  | .relaxed => (c.startWake).setTr { c.startWake.tr with waiting := some o }
  | _ => if c.tr.steady then c.startOrder o else c.setTr { c.tr with waiting := some o, wakePending := c.tr.relaxRamp.isSome }

/-- The states that accept POSITION and RUN. -/
def TState.acceptsMoves : TState → Bool
  | .hold | .move | .relaxed => true
  | _ => false

/-- POSITION with target T (R51, R75). -/
def Core.orderPosition (c : Core) (t : Int) : Core :=
  if c.tr.st.acceptsMoves then
    if c.highestTarget < t then c.emit (.passReply .filmEnd) else c.acceptOrder (.position t)
  else c.refuse

/-- RUN (R51). -/
def Core.orderRun (c : Core) (dir : Dir) (speed : Nat) (stopAt : Option Int) (extending : Bool) : Core :=
  if c.tr.st.acceptsMoves then c.acceptOrder (.run dir speed stopAt extending) else c.refuse

/-- STOP (R51, R54). The replaced order's plan is discarded (R74). In SETTLE the film is taken to be at rest at once
(notes/assumptions/72.md). -/
def Core.orderStop (c : Core) : Core :=
  match c.tr.st with
  | .hold => (c.setTr { c.tr with waiting := none }).emit (.passReply .stopped)
  | .move =>
    if c.tr.phase = .settle ∨ c.tr.vRef = 0 then c.holdReply .stopped
    else c.setTr { c.tr with plan := none, phase := .brake .stop, stopWaits := true, settleCount := none }
  | _ => c.refuse

/-- The Roll Manager's order is refused. -/
def Core.refuseRoll (c : Core) : Core := (c.setTr { c.tr with rollWaits := true }).rollAnswer .refused

/-- THREAD (R66). With EXT_STOP asserted already it raises no event (notes/assumptions/45.md). -/
def Core.orderThread (c : Core) : Core :=
  match c.tr.st with
  | .unthreaded =>
    let t := c.tr.startRegulator
    (c.setTr { t with
      st := .threading, p := 0, supply := t.supply.forget, takeUp := t.takeUp.forget, threadStep := .feed
      feedCount := c.tick, dir := .forward, vRef := 0, rollWaits := true, plan := none, resetBraking := false }).setIx
      c.ix.forgetReferences
  | _ => c.refuseRoll

/-- UNTHREAD (R51, R68): the travel is counted from here. -/
def Core.orderUnthread (c : Core) : Core :=
  let d := c.setTr { c.tr with rollWaits := true, travel := 0 }
  match c.tr.st with
  | .hold =>
    if c.tr.steady then d.startUnthread
    else d.setTr { d.tr with waitingUnthread := true, wakePending := c.tr.relaxRamp.isSome }
  | .relaxed => d.startWake.setTr { d.startWake.tr with waitingUnthread := true }
  | _ => c.refuseRoll

/-- The gate is empty: UNTHREADED, P = 0, the radii absent (R68, R71). -/
def Core.enterUnthreaded (c : Core) : Core :=
  let c := c.leaveMotion.drivesOff
  c.setTr { c.tr with
    st := .unthreaded, p := 0, supply := c.tr.supply.forget, takeUp := c.tr.takeUp.forget, unthreadEnding := false }

/-- RECOVER (R71). -/
def Core.orderRecover (c : Core) : Core :=
  let d := c.setTr { c.tr with rollWaits := true, travel := 0 }
  match c.tr.st with
  | .unthreaded => d.rollAnswer .unthreaded
  | .hold | .relaxed => c.orderUnthread
  | .fault | .unreferenced =>
    if c.pins.extStop then d.rollAnswer .extStop
    else if c.pins.filmPresent then
      let t := d.tr.startRegulator
      d.setTr { t with st := .unreferenced, tensionTest := true, testCount := c.tick }
    else d.enterUnthreaded.rollAnswer .unthreaded
  | _ => c.refuseRoll

/-- RELAX, from the device-mode logic (R51, R69): the drives ramp down over 100 ms, while the regulator's checks go on
(notes/assumptions/47.md). In UNTHREADED it replies at once. -/
def Core.orderRelax (c : Core) : Core :=
  match c.tr.st with
  | .hold =>
    if c.tr.tensioning then c.emit (.modeReply .refused)
    else c.setTr { c.tr with relaxRamp := if c.tr.relaxRamp.isSome then c.tr.relaxRamp else c.tick }
  | .unthreaded => c.emit (.modeReply .relaxed)
  | _ => c.emit (.modeReply .refused)

/-- WAKE, from the device-mode logic (R51, R70): it replies AWAKE once HOLD is STEADY, and in UNTHREADED at once. One
that meets the relax ramp waits for its end (notes/assumptions/17.md). -/
def Core.orderWake (c : Core) : Core :=
  match c.tr.st with
  | .relaxed => (c.startWake).setTr { c.startWake.tr with wakeWaits := true }
  | .hold =>
    if c.tr.steady then c.emit (.modeReply .awake)
    else c.setTr { c.tr with wakeWaits := true, wakePending := c.tr.wakePending || c.tr.relaxRamp.isSome }
  | .unthreaded => c.emit (.modeReply .awake)
  | _ => c.emit (.modeReply .refused)

/-- The relax ramp ends, with the reply RELAXED (R69). What waited for a wake wakes the transport at once
(notes/assumptions/17.md). -/
def Core.relaxEnd (c : Core) : Core :=
  let c := c.drivesOff
  let t := c.tr
  let c := (c.setTr { t with st := .relaxed, relaxRamp := none, wakePending := false }).emit (.modeReply .relaxed)
  if t.wakePending || t.waiting.isSome || t.waitingUnthread then c.startWake else c

/-! ## Caps (R79, R80) -/

/-- An end-guard cap for a remaining distance beyond its margin (R79). -/
def endGuard (p : Profile) (room : Int) : Nat :=
  if room ≤ 0 then p.creepSpeed else max p.creepSpeed (isqrt ((room * p.accel).toNat / 100))

/-- The end-guard cap for the direction of travel. -/
def Core.endCap (c : Core) : Nat :=
  let p := c.prof
  match c.tr.dir with
  | .forward => endGuard p (c.tr.lRem - p.endMargin)
  | .reverse => endGuard p (c.tr.p + p.reverseMargin)

/-- The effective Index Speed V_ix (R80). -/
def indexCap (p : Profile) : Nat := min p.indexSpeed (isqrt (p.gateOffset * p.accel / 200))

/-- The cap of an extending run (R80). -/
def Core.extendCap (c : Core) : Nat :=
  let p := c.prof
  let v := indexCap p
  if c.ix.frontier ≤ c.tr.p then v
  else max v (isqrt (v * v + ((c.ix.frontier - c.tr.p) * p.accel).toNat / 100))

/-- The speed an order runs at, bounded by the caps (R78). -/
def Core.bound (c : Core) : Nat :=
  match c.tr.plan with
  | some pl =>
    match pl.order with
    | .position _ => min c.prof.shuttleSpeed c.endCap
    | .run _ speed _ ext => min speed (min c.endCap (if ext then c.extendCap else speed))
  | none => 0

/-- A reference moves toward a goal (both in 1/1000 mm/s) by at most `a` (R53). -/
def rampTo (a v goal : Nat) : Nat := if v < goal then min (v + a) goal else max (v - a) goal

/-! ## Stopping (R55, R56, R81) -/

/-- The overshoot as a 24-bit value, saturated (R56); a negative one in two's complement (notes/assumptions/48.md). -/
def missInfo (o : Int) : Nat := ((clampInt (-8388607) 8388607 o) % 16777216).toNat

/-- An overshoot: retried once, then a stop miss (R56). -/
def Core.overshoot (c : Core) (pl : Plan) (t : Int) : Core :=
  if pl.retried then
    let o := c.tr.p - t
    let p := c.tr.p
    (c.enterHold.fault .stopMiss .transport (missInfo o) (auxPosition p)).emit (.passReply .stopMiss)
  else c.planFromRest (.position t) true

/-- A creep has come to rest (R56, R81). The motion of a SETTLE is a new one (R87). -/
def Core.creepRest (c : Core) (pl : Plan) (t : Int) : Core :=
  let o := c.tr.p - t
  let st : Int := c.prof.stopTolerance
  if |o| ≤ st then c.holdReply .arrived
  else if o ≤ 4 * st then
    (c.setTr { c.tr with phase := .settle, settleCount := c.tick, vRef := 0 }).setIx c.ix.mayBegin
  else c.overshoot pl t

/-- The target of a plan's POSITION order. -/
def Plan.target (pl : Plan) : Int :=
  match pl.order with
  | .position t => t
  | .run _ _ e _ => e.getD 0

/-- The film leaves the gate for UNTHREADED, or stays in it UNREFERENCED, once a soft reset's braking has ended (R72). -/
def Core.resetRest (c : Core) : Core :=
  let c := c.leaveMotion.drivesOff
  if c.pins.filmPresent then c.setTr { c.tr with st := .unreferenced, resetBraking := false, unthreadEnding := false }
  else c.setTr { c.tr with st := .unthreaded, p := 0, resetBraking := false, unthreadEnding := false }

/-- The creep to the target of a plan starts, on the way or after a rest. -/
def Core.startCreep (c : Core) (pl : Plan) : Core := c.startLeg (c.positionPlan pl.target .creep pl.retried) .creep

/-- `f` acts with the plan, if there is one. -/
def Core.withPlan (c : Core) (f : Core → Plan → Core) : Core :=
  match c.tr.plan with
  | some pl => f c pl
  | none => c

/-- The reference has reached the goal of a braking (R52, R54, R55). -/
def Core.brakeDone (c : Core) : BrakeGoal → Core
  | .toCreep => c.withPlan Core.startCreep
  | .reverseEnd => (c.setIx c.ix.mayBegin).withPlan Core.startCreep
  | .runEnd => c.holdReply .arrived
  | .creepEnd => c.withPlan fun c pl => c.creepRest pl pl.target
  | .stop => c.holdReply .stopped
  | .filmEnd => c.holdReply .filmEnd
  | .replan o => c.planFromRest o false
  | .softReset => c.enterHold

/-- The reference a braking falls to, in 1/1000 mm/s. -/
def Core.brakeFloor (c : Core) : BrakeGoal → Nat
  | .toCreep => c.prof.creepSpeed * 1000
  | _ => 0

/-! ## The profile timer (R53) -/

/-- A limit of R55 is reached by the move in progress: that of the direction the film runs in, for the kind of the order
that is in force, also while it still brakes out of the direction of the order it replaced (notes/assumptions/73.md). -/
def Core.limitReached (c : Core) (pl : Plan) : Bool :=
  let p := c.prof
  match c.tr.dir, pl.order with
  | .forward, .run _ _ _ _ => decide (c.tr.lRem ≤ p.endMargin)
  | .forward, .position _ => decide (c.tr.lRem ≤ 0)
  | .reverse, _ => decide (c.tr.p ≤ -(p.reverseMargin : Int))

/-- The phases in which a limit acts: a STOP's braking keeps its reply (R55), a soft reset has abandoned the order (R72),
and a limit acts once. -/
def Phase.limited : Phase → Bool
  | .brake .stop | .brake .softReset | .brake .filmEnd => false
  | _ => true

/-- A limit that has been reached brakes the move to FILM_END (R55). It is looked at whenever P, L_rem or the order can
have changed: at a count, at a tachometer pulse and at an expiry. -/
def Core.limitCheck (c : Core) : Core :=
  c.withPlan fun c pl =>
    if c.tr.st = .move && c.tr.phase.limited && c.limitReached pl then
      c.setTr { c.tr with phase := .brake .filmEnd, settleCount := none }
    else c

/-- The remaining distance to the end point of a leg (R78). -/
def Core.remaining (c : Core) (e : Int) : Int :=
  match c.tr.dir with
  | .forward => e - c.tr.p
  | .reverse => c.tr.p - e

/-- The brake test of R78: the goal of the braking it starts. -/
def Core.brakeTest (c : Core) (pl : Plan) : Option BrakeGoal :=
  let p := c.prof
  match pl.endPoint with
  | none => none
  | some e =>
    match c.tr.phase with
    | .accel | .cruise =>
      if c.remaining e ≤ c.brakeNow then
        some (match pl.leg with
          | .stageForward => .toCreep
          | .stageReverse => .reverseEnd
          | .creep => .creepEnd
          | .runForward | .runReverse => .runEnd)
      else none
    | .creep =>
      if c.remaining e ≤ (brakeDistance p.accel p.creepSpeed : Nat) then
        some (if pl.leg = .stageForward then .toCreep else .creepEnd)
      else none
    | _ => none

/-- The stall count of a reel follows the reference (R60). -/
def Reel.stallFollow (now v : Nat) (r : Reel) : Reel :=
  { r with stall := if 50000 ≤ v then (if r.stall.isSome then r.stall else some now) else none }

/-- Both stall counts follow the reference. -/
def Core.stallFollow (c : Core) : Core :=
  c.setTr { c.tr with
    supply := c.tr.supply.stallFollow c.now c.tr.vRef, takeUp := c.tr.takeUp.stallFollow c.now c.tr.vRef }

/-- The ramp of an expiry in BRAKE, and what reaching the goal brings (R52, R53). A braking toward Creep Speed that begins
with the reference still below it, on a short leg, is over at once: CREEP raises the reference
(notes/assumptions/101.md). -/
def Core.rampBrake (c : Core) (goal : BrakeGoal) : Core :=
  let v := c.tr.vRef
  let floor := c.brakeFloor goal
  let n := if v ≤ floor then v else max (v - c.prof.accel) floor
  let c := c.setTr { c.tr with vRef := n }
  if n ≤ floor then c.brakeDone goal else c

/-- The ramp of an expiry in MOVE (R52, R53). In SETTLE the reference is a free value up to Creep Speed, and the ramp
does not bound it (notes/assumptions/10.md). -/
def Core.rampMove (c : Core) (pl : Plan) : Core :=
  let a := c.prof.accel
  let v := c.tr.vRef
  match c.tr.phase with
  | .accel =>
    let goal := c.bound * 1000
    let n := rampTo a v goal
    c.setTr { c.tr with vRef := n, phase := if n = goal then .cruise else .accel }
  | .cruise => c.setTr { c.tr with vRef := rampTo a v (c.bound * 1000) }
  | .creep => c.setTr { c.tr with vRef := rampTo a v (c.prof.creepSpeed * 1000) }
  | .settle =>
    let d := if c.tr.p < pl.target then Dir.forward else Dir.reverse
    let c := if d = .reverse ∧ c.tr.dir = .forward then c.disarm else c
    (c.setTr { c.tr with dir := d, vRef := min (Config.settleSpeed c.free) (c.prof.creepSpeed * 1000) }).nextFree
  | .brake goal => c.rampBrake goal

/-- An expiry in MOVE: limits, brake test, ramp (R53, R55, R78). Once a STOP or a soft reset has discarded the plan, only
its braking is left (R74). -/
def Core.expiryMove (c : Core) : Core :=
  let c := c.limitCheck
  match c.tr.plan with
  | some pl =>
    (match c.brakeTest pl with
      | some goal => c.setTr { c.tr with phase := .brake goal }
      | none => c).rampMove pl
  | none =>
    match c.tr.phase with
    | .brake goal => c.rampBrake goal
    | _ => c

/-- An expiry in THREADING (R53, R66). -/
def Core.expiryThreading (c : Core) : Core :=
  let a := c.prof.accel
  let stopping := c.tr.resetBraking || match c.tr.threadStep with
    | .feed | .seek => false
    | .stop | .noFrames => true
  let n := rampTo a c.tr.vRef (if stopping then 0 else 50000)
  let c := c.setTr { c.tr with vRef := n }
  if stopping && n = 0 then
    if c.tr.resetBraking then c.resetRest
    else
      match c.tr.threadStep with
      | .noFrames =>
        let p := c.tr.p
        let c := c.leaveMotion.drivesOff
        ((c.setTr { c.tr with st := .unreferenced }).fault .noFrames .transport 0 (auxPosition p)).rollAnswer .noFrames
      | _ => c.enterHold.rollAnswer .threaded
  else c

/-- The speed of unthreading: Thread Speed once L_tu has fallen below 400,000 counts, and while it is absent (R68). -/
def Core.unthreadSpeed (c : Core) : Nat :=
  if c.tr.unthreadSlow || c.tr.lTu.isNone then 50 else c.prof.shuttleSpeed

/-- An expiry in UNTHREADING (R53, R68). -/
def Core.expiryUnthreading (c : Core) : Core :=
  let c := c.setTr c.tr.unthreadMark
  let stopping := c.tr.resetBraking || c.tr.unthreadEnding
  let n := rampTo c.prof.accel c.tr.vRef (if stopping then 0 else c.unthreadSpeed * 1000)
  let c := c.setTr { c.tr with vRef := n }
  if stopping && n = 0 then
    if c.tr.resetBraking then c.resetRest else c.enterUnthreaded.rollAnswer .unthreaded
  else c

/-- An expiry of the profile timer (R53, R60, R83). The compare is computed again with the reference after the expiry's
ramp (notes/assumptions/49.md). -/
def Core.profileTimer (c : Core) : Core :=
  match c.tr.st with
  | .move =>
    let c := c.expiryMove
    if c.tr.st = .move then c.stallFollow.strobeRecompute else c
  | .threading =>
    let c := c.expiryThreading
    if c.tr.st = .threading then c.stallFollow else c
  | .unthreading =>
    let c := c.expiryUnthreading
    if c.tr.st = .unthreading ∧ c.tr.unthreadEnding = false then c.stallFollow else c
  | _ => c

/-- A SETTLE has lasted 500 ms: it counts as an overshoot (R56). -/
def Core.settleOver (c : Core) : Core :=
  match c.tr.plan with
  | some pl => if c.tr.phase = .settle ∧ c.tr.settleCount.isSome then c.overshoot pl pl.target else c
  | none => c

/-! ## Tension (R57, R58, R70) -/

/-- A code's side of the band (R58). -/
def bandOf (p : Profile) (code : Nat) : Band :=
  if (code : Int) < (p.tensionSetpoint : Int) - p.tensionBand then .low
  else if p.tensionSetpoint + p.tensionBand < code then .high
  else .inside

/-- One regulator period of a dancer (R57). The correction is kept in 1/64 thousandths, so that neither quotient is
rounded. -/
def Dancer.period (d : Dancer) (p : Profile) (now code : Nat) (watch : Bool) : Dancer :=
  let err : Int := (p.tensionSetpoint : Int) - code
  let grown := clampInt (-1048575) 1048575 (d.sum + err)
  let sum := if d.clamped && decide (|d.sum| < |grown|) then d.sum else grown
  let raw := (p.kp : Int) * err * 4 + (p.ki : Int) * sum
  let out := if watch then
      (match bandOf p code, d.out with
        | .inside, _ => none
        | .low, some (false, t) => some (false, t)
        | .high, some (true, t) => some (true, t)
        | .low, _ => some (false, now)
        | .high, _ => some (true, now))
    else none
  { sum := sum, correction := clampInt (-64000) 64000 raw, clamped := decide (64000 < |raw|), out := out }

/-- The torque that follows the reference, plus the correction, in 1/64 thousandths (R57). -/
def driveTorque (supply : Bool) (v : Int) (d : Dancer) : Int := 64 * Config.followTorque supply v + d.correction

/-- A dancer code at an end stop (R59). -/
def endStop (code : Nat) : Bool := decide (code ≤ 15 ∨ 4080 ≤ code)

/-- The torque of a drive in the relax ramp: what is left of the torque before it, no more than the free value allows and
with its sign kept (R69; notes/assumptions/47.md). -/
def relaxLeft (last : Int) (most : Nat) : Int :=
  if last < 0 then -((min last.natAbs most : Nat) : Int) else (min last.natAbs most : Nat)

/-- The torques of a regulator period: the drive's, or in the relax ramp what is left of the last (R57, R69). -/
def Core.driveReels (c : Core) (v : Int) (s u : Dancer) : Core :=
  if c.tr.relaxRamp.isSome then
    (c.setPins { c.pins with
      torqueSupply := relaxLeft c.pins.torqueSupply (Config.relaxTorque true c.free)
      torqueTakeUp := relaxLeft c.pins.torqueTakeUp (Config.relaxTorque false c.free) }).nextFree
  else c.setPins { c.pins with torqueSupply := driveTorque true v s, torqueTakeUp := driveTorque false v u }

/-- The guard checks watch the dancers: the regulator runs, tension has been established, and an unthread has not yet
seen Film Present clear (R57, R68). -/
def Transport.watching (t : Transport) : Bool := t.regulating && t.established && !t.unthreadEnding

/-- A regulator period with the two dancer codes (R57 to R59). With both at an end stop, FILM_BREAK names the supply
dancer (notes/assumptions/57.md). -/
def Core.regulate (c : Core) (codeS codeT : Nat) : Core :=
  let p := c.prof
  let t := c.tr
  let v : Int := match t.dir with
    | .forward => (t.vRef : Int)
    | .reverse => -(t.vRef : Int)
  let s := t.supplyDancer.period p c.now codeS t.watching
  let u := t.takeUpDancer.period p c.now codeT t.watching
  let both := decide (bandOf p codeS = .inside ∧ bandOf p codeT = .inside)
  let c := ((c.setPins { c.pins with dancerSupply := codeS, dancerTakeUp := codeT }).driveReels v s u).setTr { t with
      supplyDancer := s, takeUpDancer := u
      inBand := if both then (if t.inBand.isSome then t.inBand else c.tick) else none }
  if t.watching && endStop codeS then c.safetyEvent .filmBreak .filmBreak (65536 + codeS)
  else if t.watching && endStop codeT then c.safetyEvent .filmBreak .filmBreak (131072 + codeT)
  else c

/-- Both dancers have been in band for 20 ms: tension is established (R57, R66, R70, R71). -/
def Core.tensionSet (c : Core) : Core :=
  let t := c.tr
  let c := c.setTr { t with established := true }
  match t.st with
  | .threading =>
    if t.threadStep = .feed ∧ t.resetBraking = false then
      (c.setTr { c.tr with threadStep := .seek, markP := t.p, feedCount := none }).setIx c.ix.beginSearch
    else c
  | .hold => if t.tensioning then c.wakeDone else c
  | .unreferenced => if t.tensionTest then c.startUnthread else c
  | _ => c

/-- The dancer's number in a fault's info (R58, R60). -/
def sideCode : Side → Nat
  | .supply => 1
  | .takeUp => 2

/-- The latest code of a dancer. -/
def Core.dancerCode (c : Core) : Side → Nat
  | .supply => c.pins.dancerSupply
  | .takeUp => c.pins.dancerTakeUp

/-- A dancer and its code, as a fault's info (R58). -/
def Core.dancerInfo (c : Core) (d : Side) : Nat := sideCode d * 65536 + c.dancerCode d % 4096

/-- An out-of-band count reaches 20 ms (R58). -/
def Core.outOfBand (c : Core) (d : Side) : Core :=
  let k := match d with
    | .supply => c.tr.supplyDancer.out
    | .takeUp => c.tr.takeUpDancer.out
  match k with
  | some (true, _) => c.safetyEvent .tensionHigh .tensionHigh (c.dancerInfo d)
  | some (false, _) => c.safetyEvent .tensionLow .tensionLow (c.dancerInfo d)
  | none => c

/-- TENSION_LOW of a wake or a recovery's test (R70, R71): its info names the dancer out of band, or is 0. Which of two
is named is left open (notes/assumptions/12.md). -/
def Core.tensionMissing (c : Core) : Core :=
  let p := c.prof
  let s := bandOf p c.pins.dancerSupply ≠ .inside
  let t := bandOf p c.pins.dancerTakeUp ≠ .inside
  let d : Option Side :=
    if s ∧ t then some (if Config.lowNamesSupply c.free then .supply else .takeUp)
    else if s then some .supply
    else if t then some .takeUp
    else none
  (c.safetyEvent .tensionLow .tensionLow ((d.map c.dancerInfo).getD 0)).nextFree

/-- A profile switch that changes Setpoint, Band, Kp or Ki (R57). -/
def Dancer.switch (now : Nat) (d : Dancer) : Dancer :=
  { d with sum := 0, out := d.out.map fun q => (q.1, now) }

/-- A profile switch meets the regulator (R57). -/
def Core.tensionSwitch (c : Core) (old new : Profile) : Core :=
  if old.tensionSetpoint ≠ new.tensionSetpoint ∨ old.tensionBand ≠ new.tensionBand ∨ old.kp ≠ new.kp ∨ old.ki ≠ new.ki then
    c.setTr { c.tr with
      supplyDancer := c.tr.supplyDancer.switch c.now, takeUpDancer := c.tr.takeUpDancer.switch c.now }
  else c

/-! ## Counts and pulses (R50, R63, R65, R87) -/

/-- A window takes a count; one in which the direction changes is discarded (R63). -/
def Window.count (w : Window) (d : Dir) : Option Window :=
  match w.dir with
  | some e => if e = d then some { w with counts := w.counts + 1 } else none
  | none => some { w with counts := w.counts + 1, dir := some d }

/-- A reel takes a count: its window, and its length by the sign it moves with (R65). -/
def Reel.count (r : Reel) (d : Dir) (change : Int) : Reel :=
  { r with window := r.window.bind (·.count d), length := max 0 (r.length + change) }

/-- P after a count; it saturates (R50). -/
def countP (p : Int) : Dir → Int
  | .forward => min (p + 1) 16000000
  | .reverse => max (p - 1) (-400000)

/-- A SETTLE that meets the tolerance (R56). -/
def Core.settleCheck (c : Core) : Core :=
  match c.tr.plan with
  | some pl =>
    if c.tr.st = .move ∧ c.tr.phase = .settle ∧ |c.tr.p - pl.target| ≤ (c.prof.stopTolerance : Int) then
      c.holdReply .arrived
    else c
  | none => c

/-- A kept sample goes to the Index Unit (R87, R91). -/
def Core.sample (c : Core) (pos : Int) (image blip edge : Nat) : Core :=
  match c.tr.st with
  | .move => c.moveSample pos image blip edge
  | .threading => if c.ix.searching then c.searchSample pos image blip edge else c
  | _ => c

/-- One metering count (R50, R55, R65, R68, R84, R87). At a forward count that is a kept sample the Index Unit acts before
the strobe compare (notes/assumptions/74.md). -/
def Core.count (c : Core) (d : Dir) (image blip edge : Nat) : Core :=
  let old := c.tr.p
  let p := countP old d
  let change : Int := match d with
    | .forward => 1
    | .reverse => -1
  let t := { c.tr with
    p := p, travel := c.tr.travel - change
    supply := c.tr.supply.count d (-change), takeUp := c.tr.takeUp.count d change }
  let c := c.setTr t.unthreadMark
  let c := match d with
    | .reverse =>
      let c := if c.ix.motion.isSome then c.endMotion else c
      c.setIx c.ix.mayBegin.searchReversed
    | .forward =>
      let c := if p ≠ old ∧ p % 4 = 0 then c.sample p image blip edge else c
      c.strobeCount
  c.settleCheck.limitCheck

/-- The film length a radius implies (R65). -/
def filmLength (g : ReelType) (r : Nat) : Int :=
  ((r ^ 2 - g.hub ^ 2) * 355 / (113 * g.thickness * 5) : Nat)

/-- A window that opens at a pulse. -/
def Window.opened : Window where
  pulses := 0
  counts := 0
  dir := none

/-- A tachometer pulse of a reel in a driven transport (R60, R63). -/
def Reel.pulse (g : Option ReelType) (now : Nat) (r : Reel) : Reel :=
  let r := { r with stall := r.stall.map fun _ => now }
  match r.window, g with
  | none, _ => { r with window := some Window.opened }
  | some w, some g =>
    if 63 ≤ w.pulses then
      let radius := clampNat g.hub g.flange (roundDiv (w.counts * 565) 710)
      { r with radius := some radius, length := filmLength g radius, window := some Window.opened }
    else { r with window := some { w with pulses := w.pulses + 1 } }
  | some w, none => { r with window := some { w with pulses := w.pulses + 1 } }

/-- A tachometer pulse (R60, R63). The lengths it measures can reach a limit of R55, or R68's change of speed. -/
def Core.tach (c : Core) (reel : Side) : Core :=
  if c.tr.timerRuns then
    let t := match reel with
      | .supply => { c.tr with supply := c.tr.supply.pulse c.tr.geometry c.now }
      | .takeUp => { c.tr with takeUp := c.tr.takeUp.pulse c.tr.geometry c.now }
    (c.setTr t.unthreadMark).limitCheck
  else c

/-- A stall count reaches 200 ms (R60). -/
def Core.stalled (c : Core) (reel : Side) : Core :=
  let k := match reel with
    | .supply => c.tr.supply.stall
    | .takeUp => c.tr.takeUp.stall
  if c.tr.timerRuns && k.isSome && !c.tr.unthreadEnding then c.safetyEvent .reelStall .reelStall (sideCode reel) else c

/-! ## Film Present and EXT_STOP (R59, R61, R68) -/

/-- Film Present clears (R59, R68). -/
def Core.filmLost (c : Core) : Core :=
  match c.tr.st with
  | .hold | .move | .relaxed | .threading => c.safetyEvent .filmBreak .filmBreak 0
  | .unthreading =>
    c.setTr { c.tr with
      unthreadEnding := true
      supply := { c.tr.supply with stall := none }, takeUp := { c.tr.takeUp with stall := none }
      supplyDancer := { c.tr.supplyDancer with out := none }, takeUpDancer := { c.tr.takeUpDancer with out := none } }
  | _ => c

/-- Film Present takes a level. -/
def Core.filmLevel (c : Core) (present : Bool) : Core :=
  let was := c.pins.filmPresent
  let c := c.setPins { c.pins with filmPresent := present }
  if was && !present then c.filmLost else c

/-- The states in which EXT_STOP is a safety event (R61). -/
def Transport.stopSensitive (t : Transport) : Bool :=
  match t.st with
  | .threading | .hold | .move | .unthreading | .relaxed => true
  | .unreferenced => t.tensionTest
  | _ => false

/-- EXT_STOP is asserted (R49, R61). A level that stands already is no event (notes/assumptions/45.md). -/
def Core.extAsserted (c : Core) : Core :=
  let was := c.pins.extStop
  let c := c.setPins { c.pins with extStop := true }
  if !was && c.tr.stopSensitive then c.safetyEvent .extStop .extStop 0 else c

/-! ## Limits of threading and unthreading (R66, R68) -/

/-- No leading edge within 600,000 counts of the search's start: the transport brakes (R66). -/
def Core.searchLimit (c : Core) : Core :=
  let t := c.tr
  if t.st = .threading ∧ t.threadStep = .seek ∧ t.resetBraking = false ∧ t.markP + 600000 ≤ t.p then
    (c.setTr { t with threadStep := .noFrames }).setIx { c.ix with searching := false }
  else c

/-- The travel has passed its limit without Film Present clearing (R68). -/
def Core.unthreadLimit (c : Core) : Core :=
  let t := c.tr
  if t.st = .unthreading ∧ t.unthreadEnding = false ∧ t.resetBraking = false ∧ t.nominal + 400000 < t.travel then
    c.threadFail (t.travel / 1000).toNat
  else c

/-! ## The soft reset (R72) -/

/-- The order and every waiting order are abandoned without a reply. -/
def Transport.abandon (t : Transport) : Transport :=
  { t with
    waiting := none, waitingUnthread := false, rollWaits := false, stopWaits := false, wakePending := false
    wakeWaits := false
    relaxRamp := none, feedCount := none }

/-- A soft reset. -/
def Core.transportReset (c : Core) : Core :=
  let c := c.setTr c.tr.abandon
  match c.tr.st with
  | .move =>
    match c.tr.phase with
    | .creep | .settle | .brake .creepEnd => c.enterHold
    | _ =>
      if c.tr.vRef = 0 then c.enterHold
      else c.setTr { c.tr with plan := none, phase := .brake .softReset }
  | .threading | .unthreading =>
    (c.setTr { c.tr with resetBraking := true }).setIx { c.ix with searching := false }
  | .unreferenced =>
    let c := c.drivesOff
    c.setTr { c.tr with tensionTest := false, testCount := none }
  | _ => c

end Sys2Proof.Machine
end

