-- ==== Sys2Proof/Machine/Profiles.lean ====
section
/-!
DEFINITION. The Profile Store (R40 to R44): SET PROFILE, and the switch at a pass start with what the blocks do at it.
-/

namespace Sys2Proof.Machine

/-- A set of the store replaced. -/
def Store.put (s : Store) (n : SetName) (p : Profile) : Store :=
  match n with
  | .a => { s with setA := some p }
  | .b => { s with setB := some p }

/-- The inactive set; Set B while none is active. -/
def Store.inactive (s : Store) : SetName := (s.active.map SetName.other).getD .b

/-- The set a Profile Selection names (R32). -/
def selectionSet : Nat → Option SetName
  | 1 => some .a
  | 2 => some .b
  | _ => none

/-- The first step of R44: a pending set becomes active. -/
def Store.takePending (s : Store) : Store × Bool :=
  match s.pending with
  | some n => ({ s with active := some n, pending := none }, true)
  | none => (s, false)

/-- The second step of R44: the set a selection names becomes active. -/
def Store.select (s : Store) (selection : Nat) : Store × Bool :=
  match selectionSet selection with
  | some n => if s.active ≠ some n ∧ (s.get n).isSome then ({ s with active := some n }, true) else (s, false)
  | none => (s, false)

/-- A profile becomes active: the geometry of its reel type is copied (R64). -/
def Core.copyGeometry (c : Core) : Core :=
  c.setTr { c.tr with geometry := reelType c.tr.reelTypes c.prof.reelType }

/-- D brought into the new Drift Window (R86). -/
def Core.clampDrift (c : Core) : Core :=
  let w : Int := c.prof.driftWindow
  c.setIx { c.ix with drift := clampInt (-w) w c.ix.drift }

/-- The profile switch at a pass start (R44, R57, R64, R86, R131, R132, R145). -/
def Core.profileSwitch (c : Core) (selection : Nat) : Core :=
  let old := c.prof
  let (s1, b1) := c.store.takePending
  let (s2, b2) := s1.select selection
  let c := c.setStore s2
  if b1 || b2 then
    (((c.copyGeometry.tensionSwitch old c.prof).clampDrift.focusSwitch).emptyMap).lampSwitch
  else c

/-- SET PROFILE is served (R41). -/
def Core.serveProfile (c : Core) (slot stamp : Nat) (req : Request) : Core :=
  if c.store.pending.isSome || c.store.load.isSome then
    c.decideReturn (Return.plain slot stamp req.notify c.now .profileBusy Det.none)
  else
    ((c.setStore { c.store with load := some { slot := slot, stamp := stamp, address := req.argA } }).setRm { c.rm with
      loading := some { slot := slot, stamp := stamp, notify := req.notify, takenAt := c.now } }).setPort { c.port with
        boardQueue := c.port.boardQueue ++ [.profile req.argA] }

/-- The profile record read ends (R41, R43). -/
def Core.profileRead (c : Core) (r : ReadEnd) : Core :=
  match c.rm.loading with
  | none => c
  | some q =>
    let plain := Return.plain q.slot q.stamp q.notify q.takenAt
    match r with
    | .error => c.decideReturn (plain .badRequest Det.readError)
    | .data bs =>
      match checkProfile c.port.setup.slotAlloc c.tr.reelTypes bs with
      | .refused d => c.decideReturn (plain .badRequest d)
      | .passed p clamps =>
        let n := c.store.inactive
        let c := (c.setStore { c.store.put n p with pending := some n, load := none }).setRm { c.rm with loading := none }
        c.decideReturn { plain .done Det.none with clamps := clamps }

end Sys2Proof.Machine
end

