-- ==== Sys2Proof/Machine/Rolls.lean ====
section
/-!
DEFINITION. The Roll Manager (R168 to R184): the catalogue, the mount and unmount sequences with their steps, exchanges
with the changer, failures, Bay Events and single-bay mode.
-/

namespace Sys2Proof.Machine

/-! ## Results of a sequence -/

/-- The detail of a transport reply (R47, R51). -/
def Reply.detail : Reply → Nat
  | .tensionLow => Det.tensionLow
  | .tensionHigh => Det.tensionHigh
  | .filmBreak => Det.filmBreak
  | .reelStall => Det.reelStall
  | .extStop => Det.extStop
  | .threadFail => Det.threadFail
  | .noFrames => Det.noFrames
  | .stopMiss => Det.stopMiss
  | .refused => Det.inFault
  | _ => Det.none

/-- The detail of a link failure (R47). -/
def LinkDetail.detail : LinkDetail → Nat
  | .nak => Det.linkNak
  | .dataNak => Det.linkDataNak
  | .arb => Det.linkArb
  | .stretch => Det.linkStretch
  | .stuck => Det.linkStuck
  | .down => Det.linkDown

/-- The sequence ends with a result; staged entries that were not installed are discarded (R112, R171). -/
def Core.seqDone (c : Core) (outcome : Res) (detail indexed : Nat) : Core :=
  ((c.setRoll { c.roll with seq := none }).setIx { c.ix with staged := none }).emit (.rollDone outcome detail indexed)

/-- The sequence stops for its cancel mark (R180). -/
def Core.seqCancelled (c : Core) (q : Seq) : Core :=
  c.seqDone .cancelled (if q.mount then Det.whileMounting else Det.whileUnmounting) 0

/-- The sequence record changed. -/
def Core.setSeq (c : Core) (q : Seq) : Core := c.setRoll { c.roll with seq := some q }

/-! ## Exchanges (R174) -/

/-- EXCHANGE is submitted, under a new serial. -/
def Core.exchangeBay (c : Core) (q : Seq) (step : SeqStep) (bay : Nat) : Core :=
  let n := c.roll.serial + 1
  let c := c.setRoll { c.roll with
    serial := n
    seq := some { q with step := step, exchange := some { serial := n, bay := bay, poll := none, timer := none } } }
  c.submit { msg := .exchange bay n, by' := .rollManager }

/-- The bay an exchange handles (R178): the target in FETCH, the transport cassette in RETURN. -/
def Core.exchangedBay (c : Core) (q : Seq) : Nat :=
  match q.step with
  | .fetch => q.bay
  | _ => c.roll.cassette.getD 0

/-- The auxiliary value of a changer failure: the request's slot and stamp, or 0 for an automatic sequence (R178). -/
def Core.changerAux (c : Core) : BitVec 28 := c.auxPass

/-- A changer failure (R178): the exchanged bay is FAILED, and the requests that name its roll are returned after the
failing pass. With the bay emptied too it is the result (notes/assumptions/87.md). A bay above the bay count in use becomes
FAILED as any other (notes/assumptions/104.md). -/
def Core.changerFail (c : Core) (q : Seq) (code reason detail : Nat) : Core :=
  let b := c.exchangedBay q
  let lost := (c.roll.bay b).roll
  let c := c.fault .changerFault .rollManager (b * 65536 + code * 256 + reason) c.changerAux
  let r := (c.roll.setBay b { c.roll.bay b with st := .failed, roll := none })
  let c := (c.setRoll { r with cassette := none }).seqDone .changerFault detail 0
  match lost with
  | some roll => c.emit (.returnHeld roll false .changerFault Det.bayFailed)
  | none => c

/-! ## Steps (R171, R172, R175 to R177, R179) -/

/-- INSTALL (R177). -/
def Core.seqInstall (c : Core) (q : Seq) : Core :=
  let b := c.roll.bay q.bay
  let staged := c.ix.staged
  let c := c.setRoll { c.roll.setBay q.bay { b with st := .mounted } with cassette := some q.bay }
  let c := match staged with
    | some s => c.setIx (c.ix.install c.prof s)
    | none => c
  let n := (staged.map (·.entries.length)).getD 0
  let c :=
    if q.sourceIsSave && staged.isSome then
      c.setRoll (c.roll.setBay q.bay { c.roll.bay q.bay with saved := some (n, c.ix.frontier) })
    else c
  let c := c.emptyMap.trigger { mountDone := true } true
  c.seqDone .done (if q.rejected then Det.importRejected else Det.none) n

/-- The import source of a sequence (R176). -/
def Core.importSource (c : Core) (q : Seq) : Option Nat :=
  if c.automatic then
    let b := c.roll.bay q.bay
    if b.saved.isSome then b.saveAddress else none
  else q.source

/-- IMPORT, or INSTALL when there is no source (R176). -/
def Core.seqLoad (c : Core) (q : Seq) : Core :=
  match c.importSource q with
  | some a =>
    let (slot, stamp) := if c.automatic then (0, 0) else
      ((c.rm.pass.map (·.slot)).getD 0, (c.rm.pass.map (·.stamp)).getD 0)
    (c.setSeq { q with step := .load }).askPorter (.load a ((c.roll.bay q.bay).roll.getD 0) slot stamp)
  | none => c.seqInstall { q with step := .install }

/-- THREAD (R175). -/
def Core.seqThread (c : Core) (q : Seq) : Core := (c.setSeq { q with step := .thread }).orderThread

/-- FETCH, passed over unless CHANGER mode finds no transport cassette (R174). A bay a Bay Event has emptied stops the
sequence (R182). -/
def Core.seqFetch (c : Core) (q : Seq) : Core :=
  if c.roll.changer && c.roll.cassette.isNone then
    let c := c.setRoll { c.roll with cassette := some q.bay }
    c.exchangeBay q .fetch q.bay
  else c.seqThread q

/-- The end of an unmount's steps (R179); in SINGLE mode the bay is unbound (R183). -/
def Core.unmountEnd (c : Core) (q : Seq) : Core :=
  let c := c.trigger { unmountDone := true } true
  if c.roll.changer then c.seqDone .done Det.none 0
  else
    let lost := (c.roll.bay 1).roll
    let c := (c.setRoll (c.roll.setBay q.bay { Bay.reset with
      st := .loaded, selection := (c.roll.bay q.bay).selection })).seqDone .done Det.none 0
    match lost with
    | some roll => c.emit (.returnHeld roll false .rollAbsent Det.notBound)
    | none => c

/-- RETURN, with its condition (R172, R179); what follows it. -/
def Core.seqBack (c : Core) (q : Seq) : Core :=
  let due := c.roll.changer && match c.roll.cassette with
    | some b => !q.mount || b != q.bay
    | none => false
  if due then c.exchangeBay q .back 0
  else if q.mount then c.seqFetch q
  else c.unmountEnd q

/-- A MOUNTED bay is released (R172): index and map emptied, the bay BOUND, waiting exports returned. -/
def Core.releaseBay (c : Core) : Core :=
  match c.roll.mounted with
  | some b => ((c.emptyIndex.emptyMap).setRoll (c.roll.setBay b { c.roll.bay b with st := .bound })).dropExports
  | none => c

/-- A step has ended without failure: the sequence stops for a cancel or an emptied bay, or takes the next step
(R180, R182). A cancel goes before an emptied bay (notes/assumptions/87.md). -/
def Core.seqAfter (c : Core) (q : Seq) (next : Core → Seq → Core) : Core :=
  if q.cancel then c.seqCancelled q
  else if q.emptied then c.seqDone .rollAbsent Det.bayEmptied 0
  else next c q

/-- The transport is UNTHREADED, and the MOUNTED bay is released (R172): at once, or when the EXPORT that is WRITING has
been completed (R39). -/
def Core.seqRelease (c : Core) (q : Seq) : Core :=
  if c.roll.mounted.isSome && c.porter.exporting then c.setSeq { q with step := .clear, releaseWaits := true }
  else c.releaseBay.seqAfter { q with releaseWaits := false } Core.seqBack

/-- CLEAR (R172). -/
def Core.seqClear (c : Core) (q : Seq) : Core :=
  if c.tr.st ≠ .unthreaded then (c.setSeq { q with step := .clear }).orderRecover else c.seqRelease q

/-- SAVE (R172). -/
def Core.seqSave (c : Core) (q : Seq) : Core :=
  match c.roll.mounted with
  | some b =>
    match (c.roll.bay b).saveAddress with
    | some a => (c.setSeq { q with step := .save }).askPorter (.save b a ((c.roll.bay b).roll.getD 0))
    | none => c.seqClear q
  | none => c.seqClear q

/-! ## What a step waits for -/

/-- The EXPORT that was WRITING has ended: a release that waited for it is made (R39). -/
def Core.seqExportEnded (c : Core) : Core :=
  match c.roll.seq with
  | some q => if q.releaseWaits then c.seqRelease q else c
  | none => c

/-- A reply of the Transport Controller to the sequence (R172, R175, R178). The AWAKE of a wake that an UNTHREAD waited for
ends no step. A step that fails returns its failure, with the bay emptied or not (notes/assumptions/87.md). -/
def Core.seqReply (c : Core) (r : Reply) : Core :=
  match c.roll.seq with
  | none => c
  | some q =>
    match q.step, r with
    | _, .awake => c
    | .clear, .unthreaded => c.seqRelease q
    | .thread, .threaded => c.seqAfter q Core.seqLoad
    | .clear, _ | .thread, _ => c.seqDone .transportFault r.detail 0
    | _, _ => c

/-- A safety event taken while a sequence waits for the Porter: the pass ends with the event, its transfer abandoned
(R62, R166; notes/assumptions/67.md). A step that waits for the transport has its reply instead (R178). -/
def Core.seqSafety (c : Core) (r : Reply) : Core :=
  match c.roll.seq with
  | some q => if q.step = .save ∨ q.step = .load then c.porterAbandon.seqDone .transportFault r.detail 0 else c
  | none => c

/-- The Porter has ended a save (R172, R173). -/
def Core.seqSaved (c : Core) : Core :=
  match c.roll.seq with
  | some q => if q.step = .save then c.seqAfter q Core.seqClear else c
  | none => c

/-- The Porter has ended an import (R176). -/
def Core.seqImported (c : Core) (rejected : Bool) : Core :=
  match c.roll.seq with
  | some q =>
    if q.step = .load then
      let q := { q with rejected := rejected }
      (c.setSeq q).seqAfter q Core.seqInstall
    else c
  | none => c

/-- READY ends the exchange (R174). -/
def Core.exchangeReady (c : Core) (q : Seq) : Core :=
  let q := { q with exchange := none }
  let c := c.setSeq q
  match q.step with
  | .back =>
    let c := c.setRoll { c.roll with cassette := none }
    c.seqAfter q fun c q => if q.mount then c.seqFetch q else c.unmountEnd q
  | _ => c.seqAfter q Core.seqThread

/-- The answer of a STATUS read (R174, R196). -/
def Core.statusAnswer (c : Core) (q : Seq) (x : Exchange) (bytes : List Byte) : Core :=
  match byteAt bytes 0 with
  | 0 => c.setSeq { q with exchange := some { x with timer := c.tick } }
  | 1 => c.exchangeReady q
  | 2 => c.changerFail q (byteAt bytes 1) 2 Det.changerReported
  | _ => c.changerFail q 0xFF 2 Det.changerReported

/-- A link result that belongs to the sequence's exchange (R174); any other is stale. A failure
is the result with the bay emptied too (notes/assumptions/87.md). -/
def Core.rollLink (c : Core) (msg : LinkMsg) (bytes : List Byte) (d : Option LinkDetail) : Core :=
  match c.roll.seq with
  | none => c
  | some q =>
    match q.exchange with
    | none => c
    | some x =>
      match msg, d with
      | .exchange _ n, none =>
        if n = x.serial then c.setSeq { q with exchange := some { x with poll := c.tick, timer := c.tick } } else c
      | .status n, none => if n = x.serial then c.statusAnswer q x bytes else c
      | .exchange _ n, some e => if n = x.serial then c.seqDone .linkFault e.detail 0 else c
      | .status n, some e => if n = x.serial then c.seqDone .linkFault e.detail 0 else c
      | _, _ => c

/-- 100 ms before a STATUS read have passed (R174). -/
def Core.pollChanger (c : Core) : Core :=
  match c.roll.seq with
  | some q =>
    match q.exchange with
    | some x =>
      if x.timer.isSome then
        (c.setSeq { q with exchange := some { x with timer := none } }).submit
          { msg := .status x.serial, by' := .rollManager }
      else c
    | none => c
  | none => c

/-- The poll count reaches 30 s (R174). -/
def Core.exchangeOver (c : Core) : Core :=
  match c.roll.seq with
  | some q =>
    match q.exchange with
    | some x => if x.poll.isSome then c.changerFail q 0 1 Det.changerTimeout else c
    | none => c
  | none => c

/-! ## Starting a sequence -/

/-- A sequence record at its start. -/
def Seq.begin (mount : Bool) (bay : Nat) (source : Option Nat) (sourceIsSave : Bool) : Seq where
  mount := mount
  bay := bay
  step := .save
  cancel := false
  emptied := false
  releaseWaits := false
  exchange := none
  source := source
  sourceIsSave := sourceIsSave
  rejected := false

/-- A MOUNT's choices are written into its bay's record (R171). -/
def Core.writeChoices (c : Core) (bay : Nat) (req : Request) : Core :=
  c.setRoll (c.roll.setBay bay { c.roll.bay bay with
    selection := req.argA / 256 % 4
    saveAddress := if req.argA.testBit 17 then some req.argB else none
    saved := none })

/-- The transport in a state in which a MOUNT of the MOUNTED bay moves nothing (R171). -/
def Transport.mountedRest (t : Transport) : Bool :=
  match t.st with
  | .hold | .relaxed => true
  | _ => false

/-- A mount sequence starts (R171): of a MOUNT request, or automatic. A MOUNT that moves nothing raises no MOUNT_DONE
(notes/assumptions/43.md). -/
def Core.startMount (c : Core) (bay : Nat) (req : Option Request) : Core :=
  let c := match req with
    | some r => c.writeChoices bay r
    | none => c
  if (c.roll.bay bay).st = .mounted ∧ c.tr.mountedRest = true ∧ req.isSome then c.seqDone .done Det.none 0
  else
    let imports := (req.map fun r => r.argA.testBit 16).getD false
    let saves := (req.map fun r => r.argA.testBit 17).getD false
    let q := Seq.begin true bay (if imports then req.map (·.argB) else none) (imports && saves)
    (c.setSeq q).seqSave q

/-- An unmount sequence starts (R179). -/
def Core.startUnmount (c : Core) (bay : Nat) : Core :=
  let b := c.roll.bay bay
  let q := Seq.begin false bay none false
  if b.st = .mounted then (c.setSeq q).seqSave q
  else if c.roll.cassette = some bay then (c.setSeq q).seqClear q
  else c.unmountEnd q

/-! ## Bay Events (R181 to R183) -/

/-- A refused or invalid Bay Event (R181). -/
def Core.bayFault (c : Core) (bay occupancy reason : Nat) : Core :=
  c.fault .changerFault .rollManager (bay * 65536 + occupancy * 256 + reason) 0

/-- A BOUND bay is emptied (R182). -/
def Core.bayLost (c : Core) (bay : Nat) : Core :=
  let b := c.roll.bay bay
  let roll := b.roll.getD 0
  let c := c.setRoll (c.roll.setBay bay { Bay.reset with selection := b.selection })
  let c := match c.roll.seq with
    | some q => if q.mount ∧ q.bay = bay then c.setSeq { q with emptied := true } else c
    | none => c
  let c := match c.rm.swap with
    | some w => if w.roll = roll then c.setRm { c.rm with swap := some { w with noMount := true } } else c
    | none => c
  c.returnHeld roll false .rollAbsent Det.bayEmptied

/-- A Bay Event is taken (R169, R181). -/
def Core.bayEvent (c : Core) (bay occupancy : Nat) : Core :=
  if !c.roll.checked || !c.roll.changer then c
  else if bay = 0 ∨ c.roll.bayCount < bay ∨ 1 < occupancy then c.bayFault bay occupancy 4
  else
    let b := c.roll.bay bay
    let held := c.roll.cassette = some bay
    match b.st, occupancy with
    | .empty, 0 => c
    | .empty, _ => c.setRoll (c.roll.setBay bay { b with st := .loaded })
    | .failed, 0 => c.setRoll (c.roll.setBay bay { b with st := .empty })
    | .failed, _ => c.setRoll (c.roll.setBay bay { b with st := .loaded })
    | .mounted, 0 => c.bayFault bay occupancy 3
    | .loaded, 0 =>
      if held then c.bayFault bay occupancy 3 else c.setRoll (c.roll.setBay bay { b with st := .empty })
    | .bound, 0 => if held then c.bayFault bay occupancy 3 else c.bayLost bay
    | _, _ => c

/-! ## The self-test's survey (R169, R196) -/

/-- The catalogue a survey gives for `k` bays from bay `b` on: a bay above the bay count in use stays EMPTY, and one that the
survey names at the transport too (R168, R169; notes/assumptions/88.md). -/
def surveyBays (used occupancy cassette : Nat) : Nat → Nat → List Bay
  | 0, _ => []
  | k + 1, b =>
    let full := b ≤ used && (occupancy.testBit (b - 1) || b = cassette)
    (if full then { Bay.reset with st := .loaded } else Bay.reset) :: surveyBays used occupancy cassette k (b + 1)

/-- The changer's answer is out of range (R196). -/
def surveyBad (bytes : List Byte) : Bool :=
  decide (2 < byteAt bytes 0 ∨ byteAt bytes 3 < 1 ∨ 8 < byteAt bytes 3)

/-- SINGLE mode after a changer check that failed (R183). -/
def RollMgr.single (r : RollMgr) : RollMgr :=
  { r with
    changer := false
    bayCount := 1
    bays := setAt (List.replicate 8 Bay.reset) 0 { Bay.reset with st := .loaded }
    cassette := some 1 }

/-- The set-up from a changer's answer (R169): bits above the survey's bay count are not read, and a bay at the
transport above it is taken as none (R196). -/
def RollMgr.surveyed (r : RollMgr) (straps : Nat) (bytes : List Byte) : RollMgr :=
  let count := byteAt bytes 3
  let used := min count (straps % 8 + 1)
  let cassette := if byteAt bytes 2 ≤ count then byteAt bytes 2 else 0
  { r with
    changer := true
    bayCount := used
    bays := surveyBays used (byteAt bytes 4 % 2 ^ count) cassette 8 1
    cassette := if cassette = 0 then none else some cassette }

/-- A soft reset (R184). -/
def RollMgr.softReset (r : RollMgr) : RollMgr := { r with seq := none }

end Sys2Proof.Machine
end

