-- ==== Sys2Proof/Machine/Passes.lean ====
section
/-!
DEFINITION. The Request Manager's choice and its passes (R148 to R167): candidates and costs, the pass states, extending,
stop-mode frames, flyby walks, retries, probes, truncations, cancels and endings.
-/

namespace Sys2Proof.Machine

/-! ## The pass record -/

/-- The Active Pass record changed. -/
def Core.setPass (c : Core) (q : Pass) : Core := c.setRm { c.rm with pass := some q }

/-- The code of plan frame `k` (R36, R161). -/
def Pass.codeAt (q : Pass) (k : Nat) : Nat :=
  match q.codes with
  | some l => l.getD k 0
  | none => if q.req.flyby then 1 else 3

/-- A plan frame that nothing has happened to. -/
def Pass.fresh (q : Pass) (k : Nat) : PlanFrame :=
  { code := q.codeAt k, st := if q.codeAt k = 0 then .skipped else .waiting }

/-- The state of plan frame `k`. -/
def Pass.stateAt (q : Pass) (k : Nat) : FrameState := ((q.plan[k]?).getD (q.fresh k)).st

/-- The plan with frame `k` in a state; a plan with an End Target grows as far as it is used. -/
def Pass.mark (q : Pass) (k : Nat) (st : FrameState) : Pass :=
  let n := q.plan.length
  let grown := q.plan ++ (List.range (k + 1 - n)).map fun i => q.fresh (n + i)
  { q with plan := setAt grown k { code := q.codeAt k, st := st } }

/-- Plan frame `k` lies in the range, as far as it is known (R161). -/
def Pass.within (q : Pass) (k : Nat) : Bool :=
  match q.size with
  | some n => decide (k < n)
  | none => decide (k < 4096)

/-- The first frame of the range from `k` on that is not SKIPPED. -/
def Pass.seekFrame (q : Pass) : Nat → Nat → Option Nat
  | 0, _ => none
  | f + 1, k => if q.within k then (if q.codeAt k = 0 then q.seekFrame f (k + 1) else some k) else none

/-- The plan place of a frame number. -/
def Pass.place (q : Pass) (frame : Nat) : Option Nat := q.start.bind fun s => if s ≤ frame then some (frame - s) else none

/-- The frame number of plan frame `k`. -/
def Pass.frame (q : Pass) (k : Nat) : Nat := q.start.getD 0 + k

/-- A frame is Missed and joins the Retry List, which holds at most 256 numbers (R159, R162). A DAMAGED completion does so
for a frame delivered before, too (R142, R158). -/
def Pass.miss (q : Pass) (k : Nat) : Pass :=
  let list := if q.retryList.length < 256 then insertAsc (q.frame k) q.retryList else q.retryList
  { q.mark k .missed with retryList := list }

/-- The request's kind; none for an automatic pass. -/
def Pass.request (q : Pass) : Option Kind :=
  match q.kind with
  | .request k => some k
  | _ => none

/-- The pass moves film to frames: FIND, SCAN, INDEX or PROBE. -/
def Pass.films (q : Pass) : Bool := (q.request.map Kind.positional).getD false

/-! ## Targets in the index (R26, R152, R157) -/

/-- An entry, with its number, is what a target names. -/
def Target.names (t : Target) (n : Nat) (e : Entry) : Bool :=
  match t with
  | .none => false
  | .frame m => m = n
  | .blip b d p => e.batch = b && e.document = d && e.page = p
  | .position x => decide (x ≤ e.lead)

/-- The first entry a target names, among entries numbered from `n`. -/
def findNamed (t : Target) : Nat → List Entry → Option Nat
  | _, [] => none
  | n, e :: l => if t.names n e then some n else findNamed t (n + 1) l

/-- The number of the entry a target names. -/
def IndexUnit.find (x : IndexUnit) (t : Target) : Option Nat := findNamed t 1 x.entries

/-- The number of the first entry from `s` on that a target names; an End Target is looked for from the start frame on
(notes/assumptions/44.md). -/
def IndexUnit.findFrom (x : IndexUnit) (s : Nat) (t : Target) : Option Nat := findNamed t s (x.entries.drop (s - 1))

/-! ## The end of a pass (R31, R166) -/

/-- The run has ended with FILM_END, or with the frontier frozen by a full index: a range whose End Target has not been
found ends at the last entry of the index as it stands (R161). -/
def Core.endPlan (c : Core) (q : Pass) : Pass :=
  match q.size, q.start with
  | none, some s => { q with size := some (min 4096 (c.ix.count + 1 - s)) }
  | _, _ => q

/-- The number of frames of the range at the end of the pass: where a pass ends otherwise before its End Target has been
found, the last entry of the index, or the last frame reached, is taken (notes/assumptions/22.md). -/
def Core.finalSize (c : Core) (q : Pass) : Nat :=
  match q.size with
  | some n => n
  | none =>
    match q.start with
    | some s => min 4096 (max (c.ix.count + 1 - s) q.plan.length)
    | none => 0

/-- How many frames of the range were to be delivered. -/
def Pass.wanted (q : Pass) (size : Nat) : Nat :=
  match q.codes with
  | some l => ((l.take size).filter (· != 0)).length
  | none => size

/-- How many frames are delivered. -/
def Pass.delivered (q : Pass) : Nat := (q.plan.filter fun f => f.st = .delivered).length

/-- How many of the first `size` frames are delivered. -/
def Pass.deliveredIn (q : Pass) (size : Nat) : Nat := ((q.plan.take size).filter fun f => f.st = .delivered).length

/-- How many frames of the range stay undelivered; kinds without a range miss none (R31, R166). With the Selection Map not
read yet, every frame of Count was to be delivered (notes/assumptions/91.md). -/
def Core.missed (c : Core) (q : Pass) : Nat :=
  match q.req.kind with
  | .find | .scan => q.wanted (c.finalSize q) - q.deliveredIn (c.finalSize q)
  | _ => 0

/-- The outcome and detail of a pass (R166). A SCAN whose run ended before its End Target was found, and that delivered
nothing, is not DONE though every frame up to the last entry was SKIPPED (R161; notes/assumptions/68.md). -/
def Core.passOutcome (c : Core) (q : Pass) : Res × Nat :=
  match q.ending with
  | some (.cancelled d) => (.cancelled, d)
  | some .noRoom => (if q.delivered = 0 then .noRoom else .partly, Det.imageWait)
  | some (.fixed o d) => (o, d)
  | some .walkDone =>
    if c.missed q = 0 ∧ (0 < q.delivered ∨ (q.beyondEnd = false ∧ q.beyondFull = false)) then (.done, Det.none)
    else if 0 < q.delivered then (.partly, Det.missed)
    else if q.beyondEnd then (.filmEnd, Det.none)
    else if q.beyondFull then (.indexFull, Det.none)
    else (.noRoom, Det.none)
  | none => (.done, Det.none)

/-- The Return of the Active Pass (R31, R166). A SCAN refused over its map has its Frames and Image Stamp fields 0 (R31,
R36), and its Clamp flags too, whatever its taking clamped: the model's reading (notes/assumptions/100.md). -/
def Core.passReturn (c : Core) (q : Pass) : Return :=
  let (o, d) := c.passOutcome q
  let refused := { Return.plain q.slot q.stamp q.req.notify q.takenAt o d with endsPass := true }
  if o = .badRequest then refused
  else
    { refused with
      clamps := q.clamps
      captured := q.delivered
      missed := c.missed q
      indexed := q.indexed
      firstImage := q.firstImage
      lastImage := q.lastImage }

/-- The end of the active request is due: its pass is in ENDING, the waits are over, and its Return is not yet decided
(R143, R166). -/
def Core.endDue (c : Core) : Bool :=
  match c.rm.pass with
  | some q => q.ending.isSome && !q.decided && !q.waitStop && !q.waitProbe && c.cap.idle && q.request.isSome
  | none => false

/-- A pass whose end is due has its Return decided (R166). -/
def Core.tryEnd (c : Core) : Core :=
  match c.rm.pass with
  | some q => if c.endDue then (c.setPass { q with decided := true }).decideReturn (c.passReturn q) else c
  | none => c

/-- The transport is carrying out, or has waiting, an order of the pass. -/
def Core.underOrder (c : Core) : Bool := c.tr.st = .move || c.tr.waiting.isSome

/-- A Selection Map read that is no longer wanted: it is not issued, and one in flight has its completion discarded. -/
def Core.dropMapRead (c : Core) : Core :=
  let wanted (b : BoardRead) : Bool := match b with
    | .selectionMap _ _ => false
    | _ => true
  c.setPort { c.port with
    boardQueue := c.port.boardQueue.filter wanted, boardFlight := c.port.boardFlight.filter wanted }

/-- The pass enters ENDING for a cause; STOP is issued when the transport is under an order that the cause has not
stopped (R166). -/
def Core.passEnding (c : Core) (q : Pass) (cause : EndCause) : Core :=
  let c := (c.setPass { q with ending := some cause, act := .idle, st := .ending }).capEnd
  let c := if q.act = .mapRead then c.dropMapRead else c
  if c.underOrder then
    (c.setPass { q with ending := some cause, act := .idle, st := .ending, waitStop := true }).orderStop
  else c

/-- The kind's own end, with an outcome and a detail. -/
def Core.passFixed (c : Core) (q : Pass) (o : Res) (d : Nat) : Core := c.passEnding q (.fixed o d)

/-! ## Frames (R157 to R162) -/

/-- The pass state while a POSITION order, or a frame at rest, is waited for. -/
def Pass.seeking (q : Pass) : PassState := if q.retrying then .retrying else .seeking

/-- The pass state at a frame at rest. -/
def Pass.capturing (q : Pass) : PassState := if q.retrying then .retrying else .capturing

/-- The POSITION order for plan frame `k`, with its reservation and PLACE; a PROBE captures nothing (R158, R163). -/
def Core.positionFrame (c : Core) (q : Pass) (k : Nat) : Core :=
  let n := q.frame k
  match c.ix.entry n with
  | none => c
  | some e =>
    let t := c.targetOf e
    let c := c.setPass { q with act := .positioning k, st := q.seeking, strobed := false, recapture := false, target := t }
    let c := if q.req.kind = .probe then c else c.capStop n t (q.codeAt k = 2) false
    c.orderPosition t

/-- A fresh POSITION order to the same T (R82, R163). -/
def Core.reposition (c : Core) (q : Pass) (k : Nat) : Core :=
  (c.setPass { q with act := .positioning k, st := q.seeking }).orderPosition q.target

/-- An extending run for plan frame `k`, with its reverse leg when P is above F (R80, R157). -/
def Core.passExtend (c : Core) (q : Pass) (k : Nat) : Core :=
  let p := c.prof
  if c.ix.frontier < c.tr.p then
    (c.setPass { q with act := .backToFrontier k, st := .extending }).orderRun .reverse p.shuttleSpeed
      (some (c.ix.frontier - (p.approach : Int))) false
  else (c.setPass { q with act := .extending k, st := .extending }).orderRun .forward p.shuttleSpeed none true

/-- The next frame of the present round, above the one last attempted and in the index (R162). -/
def Pass.nextRetry (q : Pass) (count : Nat) : Option Nat :=
  q.retryList.find? fun n => decide (n ≤ count) && (match q.roundAt with | some m => decide (m < n) | none => true)

/-- The retries go on: the next frame of the round; the end, once the list is empty or the last round is done; or the next
round, once no image is filling (R162; notes/assumptions/65.md). -/
def Core.retryNext : Nat → Core → Pass → Core
  | 0, c, q => c.passEnding q .walkDone
  | fuel + 1, c, q =>
    match q.nextRetry c.ix.count with
    | some n => c.positionFrame { q with roundAt := some n } (n - q.start.getD 0)
    | none =>
      if q.retryList.isEmpty || decide (q.req.retry ≤ q.round) then c.passEnding q .walkDone
      else if !c.cap.filling.isEmpty then c.setPass { q with act := .retryWait, st := .retrying }
      else Core.retryNext fuel c { q with round := q.round + 1, roundAt := none }

/-- A frame of the plan has been taken and not reported yet (R159). -/
def Pass.unreported (q : Pass) : Bool := q.plan.any fun f => f.st = .fired

/-- The last frame taken before plan frame `k` has not been reported yet (R159). -/
def Pass.lastUnreported (q : Pass) (k : Nat) : Bool :=
  ((q.plan.take k).reverse.find? fun f => f.st != .skipped).any fun f => f.st = .fired

/-- The forward walk has ended, at rest: retries, when asked for, or the end (R162, R166). The retries begin once every
frame of the walk has been reported (R34; notes/assumptions/65.md). The end of an extension made for a retry leads to the
next retry of its round. -/
def Core.walkOver (c : Core) (q : Pass) : Core :=
  if q.retrying then Core.retryNext 4 c q
  else if 1 ≤ q.req.retry then
    if q.unreported then c.setPass { q with act := .walkWait, st := .retrying }
    else Core.retryNext 4 c { q with retrying := true, round := 1, roundAt := none }
  else c.passEnding q .walkDone

/-- The forward walk ends: STOP first when the film moves (R157, R159). -/
def Core.walkEnd (c : Core) (q : Pass) : Core :=
  if c.underOrder then (c.setPass { q with act := .walkStop }).orderStop else c.walkOver q

/-- Frame `k` is walked to: it is given to the Capture Unit, where it becomes the current frame, once its entry is in the
index (R136, R159). -/
def Core.giveFrame (c : Core) (q : Pass) (k : Nat) : Core :=
  let there := decide (q.frame k ≤ c.ix.count)
  let c := c.setPass { q with act := .walking k, given := there }
  if there then c.flybyCurrent (q.frame k) (q.codeAt k = 2) else c

/-- A flyby walk runs forward at Scan Speed from where the film is (R159, R161); no Image Wait applies in it (R136). -/
def Core.walkHere (c : Core) (q : Pass) (k : Nat) : Core :=
  let q := { q with act := .walking k, st := .capturing, given := false }
  ((c.waitOff.setPass q).orderRun .forward c.prof.scanSpeed none false).giveFrame q k

/-- The run-up point of a flyby walk to a target (R159). -/
def Core.runUpPoint (c : Core) (t : Int) : Int :=
  let p := c.prof
  max (t - (brakeDistance p.accel p.scanSpeed : Nat) - (p.approach : Int)) (-(p.reverseMargin : Int))

/-- A flyby walk whose first frame is in the index starts with its run-up (R159). -/
def Core.walkFrom (c : Core) (q : Pass) (k : Nat) : Core :=
  match c.ix.entry (q.frame k) with
  | none => c
  | some e =>
    let x := c.runUpPoint (c.targetOf e)
    if c.tr.p = x then c.walkHere q k
    else
      (c.setPass { q with act := .runUp k, st := .seeking }).orderRun (if x < c.tr.p then .reverse else .forward)
        c.prof.shuttleSpeed (some x) false

/-- The pass goes on at the first frame from `k` that is not SKIPPED. With `run`, a flyby frame is walked to without a
run-up: the film is extending, or a stop-mode frame has just been done (R157 to R161). -/
def Core.passNext (c : Core) (q : Pass) (k : Nat) (run : Bool) : Core :=
  match q.seekFrame 4097 k with
  | none => c.walkEnd q
  | some j =>
    if q.frame j ≤ c.ix.count then
      if q.codeAt j = 3 then c.positionFrame q j
      else if run then c.walkHere q j
      else c.walkFrom q j
    else if c.ix.full then c.walkEnd { c.endPlan q with beyondFull := true }
    else if run && q.codeAt j != 3 && c.tr.st = .hold && decide (c.tr.p ≤ c.ix.frontier) then c.walkHere q j
    else c.passExtend q j

/-- The walk's motion lies ahead of the frontier, so that it appends nothing: later frames are extended for, as R157
gives (notes/assumptions/19.md). -/
def Core.walkAhead (c : Core) : Bool :=
  match c.ix.motion with
  | some m => m.ahead
  | none => decide (c.ix.frontier < c.tr.p)

/-- The walk goes on at the first frame from `k` that is not SKIPPED (R159, R161). It ends once its last frame has been
reported, and gives way to a stop-mode frame once every earlier frame has been (notes/assumptions/69.md). -/
def Core.walkGive (c : Core) (q : Pass) (k : Nat) : Core :=
  match q.seekFrame 4097 k with
  | none => if q.lastUnreported k then c.setPass { q with act := .walkTail k } else c.walkEnd q
  | some j =>
    if q.codeAt j = 3 && q.unreported then c.setPass { q with act := .walkTail j }
    else if q.frame j ≤ c.ix.count then
      if q.codeAt j = 3 then c.positionFrame q j else c.giveFrame q j
    else if c.ix.full then c.walkEnd { c.endPlan q with beyondFull := true }
    else if q.codeAt j = 3 || c.walkAhead then c.passExtend q j
    else c.giveFrame q j

/-- A stop-mode frame is done at its place (R158, R162). -/
def Core.frameDone (c : Core) (q : Pass) (k : Nat) : Core :=
  if q.retrying then Core.retryNext 4 c q else c.passNext q (k + 1) true

/-! ## The start of a pass (R156, R157, R160 to R163) -/

/-- The range's size, once its End Target's entry, the first from the start frame on, is found or 4096 of its frames are
in the index (R161; notes/assumptions/44.md). -/
def Core.sized (c : Core) (q : Pass) : Pass :=
  match q.size, q.start, q.req.endTarget with
  | none, some s, some t =>
    let long := { q with size := some 4096, clamps := if q.clamps.testBit 1 then q.clamps else q.clamps + 2 }
    match c.ix.findFrom s t with
    | some e => if 4096 < e - s + 1 then long else { q with size := some (e - s + 1) }
    | none => if s + 4095 ≤ c.ix.count then long else q
  | _, _, _ => q

/-- The start entry is known. -/
def Core.startFound (c : Core) (q : Pass) (n : Nat) (run : Bool) : Core :=
  let q := { q with start := some n }
  match q.req.kind with
  | .index => c.passFixed q .done Det.none
  | .probe => c.positionFrame q 0
  | _ => c.passNext (c.sized q) 0 run

/-- The start is resolved from the index as it stands; beyond a frozen frontier the pass ends (R156, R157). -/
def Core.resolveStart (c : Core) (q : Pass) : Core :=
  match c.ix.find q.req.target with
  | some n => c.startFound q n false
  | none => if c.ix.full then c.passFixed q .indexFull Det.none else c.passExtend q 0

/-- The SCAN has a Selection Map. -/
def Request.mapped (r : Request) : Bool := r.kind = .scan && r.argA != 0

/-- A positional pass begins: with a Selection Map, its read comes first (R36), unless the start lies beyond a frozen
frontier, which ends the pass at once (R156). -/
def Core.startFilm (c : Core) (q : Pass) : Core :=
  if q.req.mapped && !(c.ix.full && (c.ix.find q.req.target).isNone) then
    (c.setPass q).setPort { c.port with boardQueue := c.port.boardQueue ++
      [.selectionMap q.req.argA (mapLength q.req.endTarget.isSome q.req.count)] }
  else c.resolveStart q

/-- A map that holds code 10 needs room for 2-byte images (R36). -/
def Core.mapTooDeep (c : Core) (codes : List Nat) : Bool :=
  let p := c.prof
  codes.contains 2 && decide (c.port.setup.slotAlloc < 64 + p.width * p.height * 2 + 4)

/-- The Selection Map read ends (R36, R161). A plan that is all SKIPPED runs no walk, and its range is sized by the index as
it stands (R30). -/
def Core.mapRead (c : Core) (r : ReadEnd) : Core :=
  match c.rm.pass with
  | none => c
  | some q =>
    if q.act = .mapRead ∧ q.ending.isNone then
      match r with
      | .error => c.passFixed q .badRequest Det.readError
      | .data bs =>
        let codes := mapCodes bs (if q.req.endTarget.isSome then 4096 else q.req.count)
        if c.mapTooDeep codes then c.passFixed q .badRequest Det.mapDepth
        else
          let q := { q with codes := some codes }
          if codes.all (· == 0) then
            let q := c.sized { q with start := c.ix.find q.req.target }
            c.passEnding { q with size := q.size.or (some 0) } .walkDone
          else c.resolveStart q
    else c

/-- The record of a pass at its start. -/
def Pass.begin (kind : PassKind) (slot stamp takenAt clamps : Nat) (req : Request) (st : PassState) (act : Activity) :
    Pass where
  kind := kind
  slot := slot
  stamp := stamp
  req := req
  takenAt := takenAt
  clamps := clamps
  st := st
  act := act
  start := none
  plan := []
  codes := none
  size := if req.endTarget.isSome then none else some req.count
  retryList := []
  round := 0
  roundAt := none
  retrying := false
  captured := false
  given := false
  indexed := 0
  firstImage := 0
  lastImage := 0
  recapture := false
  strobed := false
  target := 0
  cancel := none
  ending := none
  waitStop := false
  waitProbe := false
  beyondEnd := false
  beyondFull := false
  decided := false

/-- A held request becomes the Active Pass (R12, R148, R156). -/
def Core.activate (c : Core) (p : PendReq) : Core :=
  c.setRm { c.rm with
    slots := setAt c.rm.slots p.slot (.held p.stamp .activePass)
    pendingSet := c.rm.pendingSet.map fun q => if q.slot = p.slot ∧ q.stamp = p.stamp then { q with active := true } else q }

/-- A chosen request starts (R44, R156). While a SCAN waits for its Selection Map the pass is in SEEKING
(notes/assumptions/56.md). -/
def Core.startRequest (c : Core) (p : PendReq) : Core :=
  let r := p.req
  let begin' := Pass.begin (.request r.kind) p.slot p.stamp p.takenAt p.clamps r
  let c := (c.activate p).profileSwitch (if r.kind = .mount then r.argA / 256 % 4 else 0)
  match r.kind with
  | .mount => (c.setPass (begin' .mounting .rolls)).startMount (r.argA % 256) (some r)
  | .unmount =>
    let c := c.setPass (begin' .unmounting .rolls)
    match c.roll.boundBay r.roll with
    | some b => c.startUnmount b
    | none => c.seqDone .rollAbsent Det.notBound 0
  | _ =>
    let q := begin' .seeking .mapRead
    (c.setPass q).startFilm q

/-- A request record that carries a roll only, for an automatic pass. -/
def Request.ofRoll (kind : Kind) (roll : Nat) : Request where
  kind := kind
  notify := false
  flyby := false
  retry := 0
  probeOnSoft := false
  roll := roll
  target := .none
  endTarget := none
  count := 0
  argA := 0
  argB := 0

/-- The automatic mount of a bay starts, for a recovery or a swap (R154, R155). -/
def Core.startAutoMount (c : Core) (kind : PassKind) (bay roll : Nat) : Core :=
  let c := c.profileSwitch (c.roll.bay bay).selection
  (c.setPass (Pass.begin kind 0 0 c.now 0 (Request.ofRoll .mount roll) .mounting .rolls)).startMount bay none

/-- The automatic mount of a swap starts, unless it is not to be made (R155, R182). -/
def Core.swapMount (c : Core) (w : Swap) : Core :=
  if w.noMount then c.setRm { c.rm with swap := none }
  else
    match c.roll.boundBay w.roll with
    | some b => c.startAutoMount .swapMount b w.roll
    | none => c.setRm { c.rm with swap := none }

/-- A roll swap starts for a roll (R155): with the automatic unmount when a bay is MOUNTED. -/
def Core.startSwap (c : Core) (roll : Nat) : Core :=
  let w : Swap := { roll := roll, noMount := false }
  let c := c.setRm { c.rm with swap := some w }
  match c.roll.mounted with
  | some b =>
    let c := c.profileSwitch 0
    (c.setPass (Pass.begin .swapUnmount 0 0 c.now 0 (Request.ofRoll .unmount c.mountedRoll) .unmounting .rolls)).startUnmount b
  | none => c.swapMount w

/-! ## The choice (R150 to R155) -/

/-- The held requests that have not been returned, in taking order. -/
def ReqMgr.held (m : ReqMgr) : List PendReq := m.pendingSet.filter fun q => !q.returned && !q.active

/-- MOUNT or UNMOUNT. -/
def Kind.moving : Kind → Bool
  | .mount | .unmount => true
  | _ => false

/-- The earliest eligible MOUNT or UNMOUNT: no request for the mounted roll was taken before it (R151). -/
def firstEligible (mounted : Option Nat) (seen : Bool) : List PendReq → Option PendReq
  | [] => none
  | q :: l =>
    if q.req.kind.moving && !seen then some q
    else firstEligible mounted (seen || mounted = some q.req.roll) l

/-- The positional requests that wait on no MOUNT or UNMOUNT taken before them (R151). -/
def freePositional (l : List PendReq) : List PendReq :=
  (l.takeWhile fun q => !q.req.kind.moving).filter fun q => q.req.kind.positional

/-- The resolved value R of a candidate (R152). -/
def Core.resolved (c : Core) (r : Request) : Int :=
  match c.ix.find r.target with
  | none => c.ix.frontier
  | some n =>
    if r.kind = .index then c.tr.p
    else
      match c.ix.entry n with
      | some e => c.targetOf e
      | none => c.ix.frontier

/-- The forward cost of a candidate (R152). -/
def Core.cost (c : Core) (r : Request) : Int :=
  let v := c.resolved r
  let p := c.tr.p
  let a : Int := c.prof.approach
  if p + a ≤ v then v - p else v - p + max c.ix.frontier p + 2 * (c.prof.gateOffset : Int)

/-- The candidate of least cost; of equal costs, the earliest taken (R153). -/
def Core.cheapest (c : Core) : List PendReq → Option PendReq
  | [] => none
  | q :: l =>
    match c.cheapest l with
    | some r => if c.cost r.req < c.cost q.req then some r else some q
    | none => some q

/-- Every other candidate gains 1 in its Pass-Over count, saturating at 15 (R153). -/
def Core.passOver (c : Core) (candidates : List PendReq) (chosen : PendReq) : Core :=
  let gain (q : PendReq) : PendReq :=
    if candidates.any (fun k => k.slot = q.slot) && q.slot != chosen.slot then { q with passOver := min (q.passOver + 1) 15 }
    else q
  c.setRm { c.rm with pendingSet := c.rm.pendingSet.map gain }

/-- The choice of the next pass (R150, R153). -/
def Core.choose (c : Core) : Core :=
  if c.modes.mode ≠ .run ∨ c.rm.pass.isSome ∨ c.rm.swap.isSome then c
  else
    let held := c.rm.held
    let mounted := c.roll.mounted.map fun _ => c.mountedRoll
    let free := freePositional held
    let candidates := free.filter fun q => mounted = some q.req.roll
    let unmounted := free.filter fun q =>
      match c.roll.boundBay q.req.roll with
      | some b => (c.roll.bay b).st = .bound
      | none => false
    let stranded := match c.tr.st with
      | .fault | .unreferenced | .unthreaded => true
      | _ => false
    let due := unmounted.filter fun q =>
      c.port.setup.swapAge != 0 && decide (c.port.setup.swapAge * 1000 ≤ c.now - q.takenAt)
    match firstEligible mounted false held with
    | some q => c.startRequest q
    | none =>
      match c.roll.mounted, candidates, stranded with
      | some b, _ :: _, true => c.startAutoMount .autoRecovery b c.mountedRoll
      | _, _, _ =>
        match due with
        | q :: _ => c.startSwap q.req.roll
        | [] =>
          match candidates.find? fun q => decide (c.port.setup.ageLimit ≤ q.passOver) with
          | some q => (c.passOver candidates q).startRequest q
          | none =>
            match c.cheapest candidates with
            | some q => (c.passOver candidates q).startRequest q
            | none =>
              match unmounted with
              | q :: _ => c.startSwap q.req.roll
              | [] => c

/-! ## Reports that reach the pass -/

/-- A pass that takes reports on film and frames: positional, and not ending. -/
def Core.filming (c : Core) : Option Pass := c.rm.pass.filter fun q => q.films && q.ending.isNone

/-- Plan frame `k` is waited for beyond the frontier, and its entry is in the index: the pass goes on for it (R157). -/
def Core.frameFound (c : Core) (q : Pass) (k : Nat) (run : Bool) : Core :=
  if q.req.kind = .probe ∨ q.retrying then c.positionFrame q k else c.passNext q k run

/-- Plan frame `k` lies beyond a frozen frontier (R157, R163). -/
def Core.frozen (c : Core) (q : Pass) : Core :=
  if q.req.kind = .probe then c.passFixed q .indexFull Det.none
  else c.capDrop.walkEnd { c.endPlan q with beyondFull := true }

/-- The forward walk of a FIND or SCAN has no frame left from plan frame `k` on. -/
def Pass.walked (q : Pass) (k : Nat) : Bool := q.req.kind != .probe && !q.retrying && (q.seekFrame 4097 k).isNone

/-- The reverse leg to the frontier has ended: the pass goes on for its frame, or for its start, or extends; a walk with no
frame left ends (R157, R159, R164). -/
def Core.backDone (c : Core) (q : Pass) (k : Nat) : Core :=
  match q.start with
  | some _ =>
    if q.walked k then c.walkGive q k
    else if q.frame k ≤ c.ix.count then c.frameFound q k false
    else if c.ix.full then c.frozen q
    else c.passExtend q k
  | none => c.resolveStart q

/-- ARRIVED (R157 to R159, R163). -/
def Core.passArrived (c : Core) (q : Pass) : Core :=
  match q.act with
  | .backToFrontier k => c.backDone q k
  | .positioning k =>
    if q.req.kind = .probe then
      (c.setPass { q with act := .probing k, st := .probing }).probeStart (q.frame k) q.target
    else (c.setPass { q with act := .atFrame k, st := q.capturing }).capArrived
  | .runUp k => c.walkHere q k
  | _ => c

/-- The film has ended before the start was found (R160, R161, R163). -/
def Core.endBeforeStart (c : Core) (q : Pass) : Core :=
  match q.req.kind, q.req.target with
  | .index, .none => c.passFixed q .done Det.none
  | .find, .blip _ _ _ => c.passFixed q .notFound Det.addressAbsent
  | _, _ => c.passFixed q .filmEnd Det.none

/-- A walk ends before its frames from `k` on have been reported. Those whose entries are in the index have been given to the
Capture Unit, up to the next stop-mode frame: each that has not been fired is Missed and joins the Retry List (R159). -/
def Core.missGiven (c : Core) : Nat → Pass → Nat → Pass
  | 0, q, _ => q
  | fuel + 1, q, k =>
    match q.seekFrame 4097 k with
    | none => q
    | some j =>
      if q.codeAt j = 3 ∨ c.ix.count < q.frame j then q
      else c.missGiven fuel (if c.sig.contains (.flybyFired (q.frame j)) then q else q.miss j) (j + 1)

/-- FILM_END (R157, R159, R160, R161, R163). A reverse leg toward the frontier that the reverse limit ends goes on like
one that arrived (notes/assumptions/70.md). What the reply to a capture's POSITION order leads to in a FIND or SCAN is
notes/assumptions/86.md; the frames that a walk leaves untaken there lie beyond the film's end
(notes/assumptions/99.md). -/
def Core.passFilmEnd (c : Core) (q : Pass) : Core :=
  match q.act with
  | .backToFrontier k => c.backDone q k
  | .extending _ =>
    match q.start, q.req.kind with
    | none, _ | _, .probe => c.endBeforeStart q
    | some _, _ => c.capDrop.walkOver { c.endPlan q with beyondEnd := true }
  | .runUp k =>
    if c.tr.dir = .reverse then c.walkHere q k else c.walkOver { c.endPlan q with beyondEnd := true }
  | .walking k => c.capDrop.walkOver { c.endPlan (c.missGiven 4097 q k) with beyondEnd := true }
  | .walkTail k =>
    c.capDrop.walkOver { c.endPlan q with
      beyondEnd := q.beyondEnd || q.size.isNone || (q.seekFrame 4097 k).isSome }
  | .positioning k =>
    if q.req.kind = .probe then c.passFixed q .filmEnd Det.none
    else if q.retrying then Core.retryNext 4 c.capDrop q
    else c.capDrop.walkOver { (c.endPlan q).mark k .missed with beyondEnd := true }
  | _ => c

/-- STOPPED (R159, R166). -/
def Core.passStopped (c : Core) (q : Pass) : Core :=
  if q.ending.isSome then c.setPass { q with waitStop := false }
  else
    match q.act with
    | .walkStop => c.walkOver q
    | _ => c

/-- A reply of the Transport Controller (R51, R166). -/
def Core.passReply (c : Core) (r : Reply) : Core :=
  match c.rm.pass with
  | none => c
  | some q =>
    if !q.films then c
    else
      match r with
      | .stopped => c.passStopped q
      | .arrived => if q.ending.isSome then c else c.passArrived q
      | .filmEnd => if q.ending.isSome then c else c.passFilmEnd q
      | .refused => if q.ending.isSome then c.setPass { q with waitStop := false } else c.passFixed q .transportFault Det.inFault
      | .stopMiss => if q.ending.isSome then c else c.passFixed q .transportFault Det.stopMiss
      | _ => c

/-- A safety event, told to the pass (R62, R165, R166). -/
def Core.passSafety (c : Core) (r : Reply) : Core :=
  match c.rm.pass with
  | none => c
  | some q =>
    if !q.films then c.seqSafety r
    else
      match q.ending with
      | none => c.passFixed q .transportFault r.detail
      | some (.cancelled _) =>
        if q.waitStop then c.setPass { q with ending := some (.fixed .transportFault r.detail), waitStop := false } else c
      | some _ => c.setPass { q with waitStop := false }

/-- The start is found at an append (R157). -/
def Core.appendFound (c : Core) (q : Pass) (n : Nat) : Bool :=
  match c.ix.entry n with
  | some e => q.req.target.names n e
  | none => false

/-- An append report (R157, R159, R161). A start found while the film still brakes for a reverse leg to the frontier is
kept, and the pass goes on for it when the leg has ended (notes/assumptions/82.md). -/
def Core.passAppended (c : Core) (n : Nat) : Core :=
  match c.rm.pass with
  | none => c
  | some q =>
    if !q.films then c
    else
      let q := { q with indexed := q.indexed + 1 }
      let c := c.setPass q
      if q.ending.isSome then c
      else
        let q := c.sized q
        let c := c.setPass q
        match q.act, q.start with
        | .extending _, none => if c.appendFound q n then c.startFound q n true else c
        | .extending k, some _ =>
          if q.req.kind ≠ .probe ∧ q.within k = false then c.walkEnd q
          else if q.frame k ≤ c.ix.count then c.frameFound q k true
          else c
        | .backToFrontier _, none =>
          if c.appendFound q n then
            let q := { q with start := some n }
            if q.req.kind = .index then c.passFixed q .done Det.none else c.setPass (c.sized q)
          else c
        | .walking k, some _ =>
          if q.given then c else if q.within k then c.giveFrame q k else c.walkGive q k
        | _, _ => c

/-- The flyby run from plan frame `k` on reaches beyond the index: no stop-mode frame stands before the first frame that has
not been appended. -/
def Core.runUnappended (c : Core) (q : Pass) (k : Nat) : Bool :=
  match q.seekFrame 4097 (max k (c.ix.count + 1 - q.start.getD 0)) with
  | some j => (List.range' k (j + 1 - k)).all fun i => q.codeAt i != 3
  | none => false

/-- The Full report (R157, R159, R163). A flyby run whose frames are all in the index goes on (notes/assumptions/98.md). -/
def Core.passFull (c : Core) : Core :=
  match c.filming with
  | none => c
  | some q =>
    match q.act, q.start with
    | .extending _, none => c.passFixed q .indexFull Det.none
    | .extending _, some _ => c.frozen q
    | .walking k, some _ =>
      if c.runUnappended q k then
        c.capDrop.walkEnd { c.endPlan (c.missGiven 4097 q k) with beyondFull := true }
      else c
    | .walkTail k, some _ =>
      match q.seekFrame 4097 k with
      | some j => if c.ix.count < q.frame j then c.capDrop.walkEnd { c.endPlan q with beyondFull := true } else c
      | none => c
    | _, _ => c

/-- A pass with nothing captured yet, DAMAGED captures included, whose start entry has been removed (R164). -/
def Pass.startLost (q : Pass) (first : Nat) : Bool :=
  match q.start with
  | some s => decide (first ≤ s) && !q.captured
  | none => false

/-- A truncation or discard report (R164). A walk that goes back behind the frontier goes on for the frame walked to,
unless that frame was armed or its report is on its way; one with no frame left, or that STOP is ending already, goes back
first and ends there (notes/assumptions/69.md). A range that starts afresh keeps its MAP_RANGE (notes/assumptions/92.md). -/
def Core.passTruncated (c : Core) (first : Nat) : Core :=
  match c.filming with
  | none => c
  | some q =>
    let ahead := decide (c.ix.frontier < c.tr.p)
    if q.startLost first then
      c.capDrop.resolveStart { q with
        start := none, plan := [], retryList := [], retrying := false, round := 0, roundAt := none
        beyondEnd := false, beyondFull := false
        size := if q.req.endTarget.isSome then none else some q.req.count }
    else
      match q.act with
      | .positioning k => if first ≤ q.frame k ∨ (ahead = true ∧ q.retrying = false) then c.passExtend q k else c
      | .runUp k => if first ≤ q.frame k ∨ ahead = true then c.passExtend q k else c
      | .extending k | .backToFrontier k => if ahead then c.passExtend q k else c
      | .walking k =>
        if ahead then
          let armed := c.cap.armed.isSome
          let reported := armed || c.sig.contains (.flybyFired (q.frame k)) || c.sig.contains (.flybyMissed (q.frame k))
          let q := if armed then q.miss k else q
          let c := c.capDrop
          let next := if reported then k + 1 else k
          c.passExtend q ((q.seekFrame 4097 next).getD next)
        else c
      | .walkTail k => if ahead then c.passExtend q ((q.seekFrame 4097 k).getD k) else c
      | .walkStop => if ahead = true ∧ q.retrying = false then c.passExtend q 4096 else c
      | _ => c

/-- The stop-mode strobe has fired (R158). -/
def Core.passStrobed (c : Core) (frame : Nat) : Core :=
  match c.filming with
  | none => c
  | some q =>
    match q.act, q.place frame with
    | .atFrame k, some j =>
      if j = k then
        let q := { (if q.stateAt k = .delivered then q else q.mark k .fired) with strobed := true, captured := true }
        if q.req.probeOnSoft then c.setPass q else c.frameDone q k
      else c
    | _, _ => c

/-- The strobe's check has failed (R82). -/
def Core.passOffTarget (c : Core) : Core :=
  match c.filming with
  | some q =>
    match q.act with
    | .atFrame k => c.reposition q k
    | _ => c
  | none => c

/-- A flyby frame has been taken (R136, R159). -/
def Core.passFired (c : Core) (frame : Nat) : Core :=
  match c.rm.pass with
  | none => c
  | some q =>
    match q.place frame with
    | none => c
    | some k =>
      let q := { q.mark k .fired with captured := true }
      let c := c.setPass q
      if q.ending.isNone ∧ q.act = .walking k then c.walkGive q (k + 1) else c

/-- A flyby frame has been reported LATE, NOT_FIRED or NO_SLOT (R159). -/
def Core.passMissed (c : Core) (frame : Nat) : Core :=
  match c.rm.pass with
  | none => c
  | some q =>
    match q.place frame with
    | none => c
    | some k =>
      let q := q.miss k
      let c := c.setPass q
      if q.ending.isNone ∧ q.act = .walking k then c.walkGive q (k + 1) else c

/-- A soft capture is followed by a probe and one recapture (R125, R162). -/
def Pass.probesOn (q : Pass) (k : Nat) (soft recapture : Bool) : Bool :=
  soft && !recapture && q.req.probeOnSoft && (q.req.kind = .find || q.codeAt k = 3)

/-- An image has been completed (R142, R158, R159, R162). -/
def Core.passImage (c : Core) (frame stamp : Nat) (damaged soft recapture : Bool) : Core :=
  match c.rm.pass with
  | none => c
  | some q =>
    let q := { q with firstImage := if q.firstImage = 0 then stamp else q.firstImage, lastImage := stamp }
    match q.place frame with
    | none => c.setPass q
    | some k =>
      let q := if damaged then q.miss k else { q.mark k .delivered with retryList := q.retryList.filter (· != frame) }
      let c := c.setPass q
      if q.ending.isSome then c
      else
        match q.act with
        | .atFrame j =>
          if j = k ∧ q.strobed = true ∧ q.req.probeOnSoft = true then
            if q.probesOn k soft recapture then
              (c.setPass { q with act := .probing k, st := .probing }).probeStart frame q.target
            else c.frameDone q k
          else c
        | .walkTail j => c.walkGive q j
        | .walkWait => c.walkOver q
        | .retryWait => Core.retryNext 4 c q
        | _ => c

/-- STORED (R125, R163). The recapture's PLACE carries the T of the POSITION order (notes/assumptions/62.md). -/
def Core.passProbed (c : Core) : Core :=
  match c.rm.pass with
  | none => c
  | some q =>
    if q.ending.isSome then c.setPass { q with waitProbe := false }
    else
      match q.act with
      | .probing k =>
        if q.req.kind = .probe then c.passFixed q .done Det.none
        else
          ((c.setPass { q with act := .atFrame k, st := q.capturing, recapture := true, strobed := false }).capStop
            (q.frame k) q.target (q.codeAt k = 2) true).capArrived
      | _ => c

/-- ABORTED or ABANDONED (R125, R163). -/
def Core.passUnprobed (c : Core) : Core :=
  match c.rm.pass with
  | none => c
  | some q =>
    if q.ending.isSome then c.setPass { q with waitProbe := false }
    else
      match q.act with
      | .probing k =>
        if c.tr.st ≠ .hold then c
        else if q.req.kind = .probe then c.reposition q k
        else c.frameDone q k
      | _ => c

/-- NO_ROOM (R135, R166). -/
def Core.passNoRoom (c : Core) : Core :=
  match c.filming with
  | some q => c.passEnding q .noRoom
  | none => c

/-! ## Cancel (R165) -/

/-- The detail of a cancel by the pass state. -/
def PassState.cancelDetail : PassState → Nat
  | .mounting => Det.whileMounting
  | .unmounting => Det.whileUnmounting
  | .seeking => Det.whileSeeking
  | .extending => Det.whileExtending
  | .capturing => Det.whileCapturing
  | .probing => Det.whileProbing
  | .retrying => Det.whileRetrying
  | .ending => Det.none

/-- A cancel order handed to the Active Pass (R165, R180). -/
def Core.passCancel (c : Core) : Core :=
  match c.rm.pass with
  | none => c
  | some q =>
    if q.ending.isSome || q.cancel.isSome then c
    else
      let d := q.st.cancelDetail
      let q := { q with cancel := some d }
      if q.films then
        let c := if c.focus.probe.isSome then c.probeCancel else c
        c.passEnding { q with waitProbe := c.focus.probe.isSome } (.cancelled d)
      else
        let c := c.setPass q
        match c.roll.seq with
        | some s => c.setSeq { s with cancel := true }
        | none => c

/-! ## The Roll Manager's result (R154 to R156) -/

/-- A mount or unmount sequence has ended. A request's Return is decided before any that the ending brings about (R178). -/
def Core.passRollDone (c : Core) (o : Res) (d indexed : Nat) : Core :=
  match c.rm.pass with
  | none => c
  | some q =>
    match q.kind with
    | .request _ =>
      (c.setPass { q with ending := some (.fixed o d), indexed := indexed, st := .ending, act := .idle }).tryEnd
    | .autoRecovery =>
      let c := (c.setRm { c.rm with pass := none }).trigger { passEnd := true } false
      if o = .done then c else c.returnHeld q.req.roll true o d
    | .swapUnmount =>
      let c := (c.setRm { c.rm with pass := none }).trigger { passEnd := true } false
      match c.rm.swap with
      | none => c
      | some w =>
        if o = .done then c.swapMount w
        else (c.returnHeld w.roll true o d).setRm { (c.returnHeld w.roll true o d).rm with swap := none }
    | .swapMount =>
      let c := (c.setRm { c.rm with pass := none, swap := none }).trigger { passEnd := true } false
      if o = .done then c else c.returnHeld q.req.roll true o d

end Sys2Proof.Machine
end

