-- ==== Sys2Proof/Machine/Requests.lean ====
section
/-!
DEFINITION. Taking requests (R12 to R16, R25 to R30, R32, R38, R41, R45, R46): looks, validation, the binding of a bay by
a MOUNT, and the service of immediate requests.
-/

namespace Sys2Proof.Machine

/-! ## Validation (R28) -/

/-- What the checks of R28 find: a refusal with its outcome and detail, or the copy with its COUNT clamp. -/
inductive Verdict where
  | refused (outcome : Res) (detail : Nat)
  | passed (req : Request) (clamps : Nat)
  deriving DecidableEq, Repr

/-- The copy of a request half (R25, R26); Roll ID and Count are as read. -/
def requestCopy (k : Kind) (bs : List Byte) : Request :=
  let form := byteAt bs 0x08
  let opts := byteAt bs 0x03
  let endForm := decide (k = .scan ∧ byteAt bs 0x09 = 1)
  { kind := k
    notify := opts.testBit 0
    flyby := opts.testBit 1 && (k = .find || (k = .scan && fieldAt bs 0x1C 8 = 0))
    retry := if k = .find ∨ k = .scan then opts / 4 % 4 else 0
    probeOnSoft := opts.testBit 4 && (k = .find || k = .scan)
    roll := fieldAt bs 0x04 4
    target := readTarget form bs 0x0C
    endTarget := if endForm then some (readTarget form bs 0x14) else none
    count := fieldAt bs 0x0A 2
    argA := fieldAt bs 0x1C 8
    argB := fieldAt bs 0x24 8 }

/-- Checks 4 and 5: the Extent Form and the Count of FIND and SCAN (R28). -/
def extentFault (r : Request) (extent : Nat) : Option Nat :=
  match r.kind with
  | .find => if extent ≠ 0 then some Det.badExtent else if r.count = 0 then some Det.countZero else none
  | .scan =>
    if 1 < extent then some Det.badExtent
    else if extent = 0 ∧ r.count = 0 then some Det.countZero
    else none
  | _ => none

/-- Check 6: the Target and End Target values (R26, R28); a value out of range before the order of the two
(notes/assumptions/55.md). -/
def targetFault (r : Request) : Option Nat :=
  if r.kind.positional then
    let e := r.endTarget.getD r.target
    if !r.target.valid || !e.valid then some Det.badTarget
    else if e.before r.target then some Det.endBeforeStart
    else none
  else none

/-- Check 7: the addresses in the Arguments (R29). -/
def addressFault (r : Request) : Bool :=
  match r.kind with
  | .mount => (r.argA.testBit 16 || r.argA.testBit 17) && !addressOk r.argB (36 + 24 * 16384)
  | .scan => r.argA != 0 && !addressOk r.argA (mapLength r.endTarget.isSome (min r.count 256))
  | .exportIndex => !addressOk r.argA r.argB
  | .setProfile => !addressOk r.argA 256
  | _ => false

/-- Check 8: the other Argument values of MOUNT and CANCEL (R28, R32, 02_requests CANCEL). Of several cases of a MOUNT
the first in R32's list is answered (notes/assumptions/55.md). -/
def argumentFault (c : Core) (r : Request) : Option Nat :=
  match r.kind with
  | .mount =>
    let bay := r.argA % 256
    let sel := r.argA / 256 % 4
    if r.roll = 0 ∨ sel = 3 then some Det.badArgument
    else if bay = 0 ∨ c.roll.bayCount < bay then some Det.badBay
    else
      match selectionSet sel with
      | some n => if (c.store.get n).isNone then some Det.profileEmpty else none
      | none => none
  | .cancel => if 31 < r.argA % 256 then some Det.badArgument else none
  | _ => none

/-- Check 9 for a MOUNT: its bay and its roll (R32). -/
def mountFault (c : Core) (r : Request) : Option (Res × Nat) :=
  let bay := r.argA % 256
  let b := c.roll.bay bay
  let elsewhere := match c.roll.boundBay r.roll with
    | some n => n != bay
    | none => false
  if elsewhere then some (.badRequest, Det.rollBound)
  else
    match b.st with
    | .empty => some (.rollAbsent, Det.bayEmpty)
    | .failed => some (.changerFault, Det.bayFailed)
    | .loaded => none
    | .bound | .mounted => if b.roll = some r.roll then none else some (.badRequest, Det.bayBound)

/-- Check 9 for the kinds that read Roll ID, but MOUNT: the roll resolved (R27, R38). -/
def rollOf (c : Core) (r : Request) : Verdict :=
  let mounted := c.roll.mounted
  if r.roll = 0 then
    match mounted with
    | none => .refused .rollAbsent Det.noRollMounted
    | some _ => .passed { r with roll := c.mountedRoll } 0
  else
    match c.roll.boundBay r.roll with
    | none => .refused .rollAbsent Det.notBound
    | some b => if r.kind = .exportIndex ∧ mounted ≠ some b then .refused .rollAbsent Det.notMounted else .passed r 0

/-- The Count of a FIND or SCAN by count, clamped (R30). -/
def clampCount (r : Request) : Verdict :=
  if (r.kind = .find ∨ r.kind = .scan) ∧ r.endTarget.isNone ∧ 256 < r.count then .passed { r with count := 256 } 1
  else .passed r 0

/-- Check 9 and the Count clamp. -/
def checkRoll (c : Core) (r : Request) : Verdict :=
  match r.kind with
  | .mount =>
    match mountFault c r with
    | some (o, d) => .refused o d
    | none => .passed r 0
  | .setProfile | .cancel => .passed { r with roll := 0 } 0
  | _ =>
    match rollOf c r with
    | .passed q _ => clampCount q
    | v => v

/-- R28's checks, in their order, on a request half as read. -/
def validate (c : Core) (bs : List Byte) : Verdict :=
  match kindOf (byteAt bs 0x02) with
  | none => .refused .badRequest Det.unknownKind
  | some k =>
    let r := requestCopy k bs
    if byteAt bs 0x03 / 32 ≠ 0 then .refused .badRequest Det.badOptions
    else if formAllowed k (byteAt bs 0x08) = false then .refused .badRequest Det.badTargetForm
    else
      match extentFault r (byteAt bs 0x09) with
      | some d => .refused .badRequest d
      | none =>
        match targetFault r with
        | some d => .refused .badRequest d
        | none =>
          if addressFault r then .refused .badRequest Det.badAddress
          else
            match argumentFault c r with
            | some d => .refused .badRequest d
            | none => checkRoll c r

/-! ## Service -/

/-- A MOUNT binds a LOADED bay to its roll (R32, R168). -/
def Core.bindBay (c : Core) (r : Request) : Core :=
  let bay := r.argA % 256
  let b := c.roll.bay bay
  if b.st = .loaded then
    c.setRoll (c.roll.setBay bay { Bay.reset with st := .bound, roll := some r.roll })
  else c

/-- A CANCEL's own Return (R45). -/
def Core.cancelAnswer (c : Core) (slot stamp : Nat) (r : Request) (o : Res) (d : Nat) : Core :=
  c.decideReturn (Return.plain slot stamp r.notify c.now o d)

/-- A CANCEL is served (R45, R46). A target whose Return is decided, and whose slot is still HELD with its stamp, is not
held for it (notes/assumptions/54.md). -/
def Core.serveCancel (c : Core) (slot stamp : Nat) (r : Request) : Core :=
  let m := r.argA % 256
  let t := r.argA / 65536 % 65536
  let absent := c.cancelAnswer slot stamp r .notFound Det.notHeld
  match c.rm.slots[m]? with
  | some (.held s by') =>
    if s ≠ t then absent
    else
      match by' with
      | .pendingSet =>
        match c.rm.held.find? fun q => q.slot = m && q.stamp = t with
        | some q =>
          (c.decideReturn { Return.plain m t q.req.notify q.takenAt .cancelled Det.whilePending with
            clamps := q.clamps }).cancelAnswer slot stamp r .done Det.targetPending
        | none => absent
      | .activePass => c.passCancel.cancelAnswer slot stamp r .done Det.targetActive
      | .immediate =>
        match c.rm.exportOf m t with
        | some e => (c.cancelExport e).cancelAnswer slot stamp r .done Det.targetInService
        | none =>
          match c.rm.loading with
          | some q =>
            if q.slot = m ∧ q.stamp = t then c.cancelAnswer slot stamp r .notFound Det.notCancellable else absent
          | none => absent
  | _ => absent

/-- An EXPORT enters service, WAITING (R38). -/
def Core.serveExport (c : Core) (slot stamp : Nat) (r : Request) : Core :=
  (c.setRm { c.rm with exports := c.rm.exports ++
    [{ slot := slot, stamp := stamp, roll := r.roll, address := r.argA, length := r.argB, notify := r.notify,
       takenAt := c.now }] }).askPorter (.exportFor slot stamp)

/-- A pass request joins the end of the Pending Set, with Pass-Over count 0 (R16, R148). -/
def Core.joinPending (c : Core) (slot stamp : Nat) (r : Request) (clamps : Nat) : Core :=
  c.setRm { c.rm with
    slots := setAt c.rm.slots slot (.held stamp .pendingSet)
    pendingSet := c.rm.pendingSet ++
      [{ slot := slot, stamp := stamp, req := r, passOver := 0, active := false, takenAt := c.now, clamps := clamps,
         returned := false }] }

/-- The reads of slot `n` in flight, each with whether it is a sweep's. -/
def looksInFlight (n : Nat) (flight : List BoardRead) : List (Nat × Bool) :=
  flight.filterMap fun b =>
    match b with
    | .slot m s => if m = n then some (n, s) else none
    | _ => none

/-- A look has taken slot `n`: every other look at it, in flight or waiting for its decision, is dropped (R15). -/
def Port.dropLooks (p : Port) (n : Nat) : Port :=
  { p with
    sweepEnded := p.sweepEnded.filter fun e => e.1 != n
    dropped := (p.dropped.filter fun e => e.1 != n) ++ looksInFlight n p.boardFlight }

/-- A posted slot is taken (R16): the Taken Stamp is to be written, the copy is checked, and it is returned, served or
held; the other looks at the slot are dropped (R15). The Result Writer writes the Taken Stamp, in its turn
(notes/assumptions/42.md). -/
def Core.takeSlot (c : Core) (slot : Nat) (bs : List Byte) : Core :=
  let stamp := fieldAt bs 0x00 2
  let c := (c.setRm { c.rm with slots := setAt c.rm.slots slot (.held stamp .immediate) }).setPort
    { c.port.dropLooks slot with results := c.port.results ++ [.taken slot stamp] }
  match validate c bs with
  | .refused o d => c.decideReturn (Return.plain slot stamp ((byteAt bs 0x03).testBit 0) c.now o d)
  | .passed r clamps =>
    match r.kind with
    | .setProfile => c.serveProfile slot stamp r
    | .cancel => c.serveCancel slot stamp r
    | .exportIndex => c.serveExport slot stamp r
    | .mount => (c.bindBay r).joinPending slot stamp r clamps
    | _ => c.joinPending slot stamp r clamps

/-! ## Modes and looks (R12 to R15, R206, R207) -/

/-- A return to RUN from STANDBY or DORMANT (R207). -/
def Core.toRun (c : Core) : Core :=
  match c.modes.mode with
  | .standby | .dormant =>
    let dormant := c.modes.mode = .dormant
    let c := c.setModes { c.modes with mode := .run, dormant := none, idle := none }
    let c := if dormant ∧ c.port.setup.sweepInterval ≠ 0 then c.setPort { c.port with sweepTimer := c.tick } else c
    (c.lampOn.orderWake).trigger { mode := true } true
  | _ => c

/-- A slot's entry is LOOKABLE (R12). -/
def Core.lookable (c : Core) (n : Nat) : Bool :=
  match c.rm.slots[n]? with
  | some .lookable => true
  | _ => false

/-- A look at slot `n` is decided (R12 to R15); a slot that is HELD is not looked at (R16). -/
def Core.decideLook (c : Core) (n : Nat) (bySweep : Bool) (r : ReadEnd) : Core :=
  if c.lookable n then
    match r with
    | .error => c.fault .memoryRead .systemPort n (auxSlot n 0)
    | .data bs =>
      match slotClass bs with
      | .posted => (if bySweep then c.toRun else c).takeSlot n bs
      | _ => c
  else c

/-- The first of the reads in flight that is a look at slot `n`: of two of them, the one issued first is the one that ends
(notes/assumptions/71.md). -/
def lookInFlight (n : Nat) : List BoardRead → Option Bool
  | [] => none
  | .slot m s :: l => if m = n then some s else lookInFlight n l
  | _ :: l => lookInFlight n l

/-- The end of a sweep's read joins those that wait, in slot order. -/
def insertEnded (x : Nat × ReadEnd) : List (Nat × ReadEnd) → List (Nat × ReadEnd)
  | [] => [x]
  | y :: l => if x.1 < y.1 then x :: y :: l else y :: insertEnded x l

/-- Among the reads in flight is a sweep's read of a slot below `n`. -/
def sweepBelow (flight : List BoardRead) (n : Nat) : Bool :=
  flight.any fun b =>
    match b with
    | .slot m true => decide (m < n)
    | _ => false

/-- The sweep's looks that wait for no lower slot's read are decided, in slot order (R13). -/
def Core.sweepDecide (c : Core) : Core :=
  let due := c.port.sweepEnded.takeWhile fun e => !sweepBelow c.port.boardFlight e.1
  due.foldl (fun c e => c.decideLook e.1 true e.2)
    (c.setPort { c.port with sweepEnded := c.port.sweepEnded.drop due.length })

/-- A read of slot `n` ends (R12). One that was issued while the slot was HELD, or that another look has overtaken, is
dropped (R15, R16). A POST write's look is decided at once; the sweep's are decided in slot order, so that one whose read
ends before a lower slot's waits for it (R13; notes/assumptions/41.md). -/
def Core.lookDone (c : Core) (n : Nat) (r : ReadEnd) : Core :=
  match lookInFlight n c.port.boardFlight with
  | some bySweep =>
    let c := c.setPort { c.port with boardFlight := removeFirst (· == .slot n bySweep) c.port.boardFlight }
    let c :=
      if c.port.dropped.contains (n, bySweep) then
        c.setPort { c.port with dropped := removeFirst (· == (n, bySweep)) c.port.dropped }
      else if bySweep then c.setPort { c.port with sweepEnded := insertEnded (n, r) c.port.sweepEnded }
      else c.decideLook n false r
    if bySweep then c.sweepDecide else c
  | none => c

/-- The reads a POST write asks for: the named slots that are LOOKABLE, in ascending order (R14). -/
def Core.postReads (c : Core) (bits : Word32) : List BoardRead :=
  ((List.range 32).filter fun n => bits.toNat.testBit n && c.lookable n).map fun n => .slot n false

/-- A POST write in RUN, STANDBY or DORMANT (R14). -/
def Core.postWrite (c : Core) (bits : Word32) : Core :=
  let c := c.toRun
  c.setPort { c.port with boardQueue := c.port.boardQueue ++ c.postReads bits }

/-- A read of the Board Reader belongs to a sweep. -/
def BoardRead.sweeping : BoardRead → Bool
  | .slot _ s => s
  | _ => false

/-- The reads of a sweep: all 32 slots, in slot order (R13). -/
def sweepReads : List BoardRead := (List.range 32).map fun n => .slot n true

/-- The sweep timer expires (R13): a sweep begins unless one is in progress, and the timer reloads. -/
def Core.sweepExpiry (c : Core) : Core :=
  match c.port.sweepTimer with
  | none => c
  | some _ =>
    let busy := c.port.boardQueue.any BoardRead.sweeping || c.port.boardFlight.any BoardRead.sweeping
    c.setPort { c.port with
      sweepTimer := c.tick, boardQueue := if busy then c.port.boardQueue else c.port.boardQueue ++ sweepReads }

/-! ## Setup acceptance (R9 to R11, R204) -/

/-- The hardware in use, in the layout of the Expected Hardware field (R204). -/
def Core.hardwareFound (c : Core) : Nat :=
  c.roll.bayCount % 16 + 16 * c.cap.lamp.present.toNat + 32 * c.roll.changer.toNat

/-- The comparison with the hardware expected (R204). -/
def Core.compareHardware (c : Core) : Core :=
  let expected := c.port.setup.expected % 64
  if c.hardwareFound = expected then c
  else c.fault .configMismatch .systemPort (c.hardwareFound + 256 * expected) 0

/-- The Initial Profile becomes Set A and active, when both sets are empty (R11). -/
def Core.loadInitial (c : Core) (p : Profile) : Core :=
  if c.store.setA.isNone ∧ c.store.setB.isNone then
    (c.setStore { c.store with setA := some p, active := some .a, pending := none }).copyGeometry.focusPark
  else c

/-- A setup is accepted (R11): its changes take effect together. -/
def Core.acceptSetup (c : Core) (base : Nat) (block ext : List Byte) (p : Profile) : Core :=
  let s := setupFields block
  let c := c.setPort { c.port with
    setupRead := none, workArea := some base, setup := s
    sweepTimer := if s.sweepInterval = 0 then none else c.tick }
  let c := (c.setTr { c.tr with reelTypes := reelExtension ext }).setCap { c.cap with cursor := 0 }
  let c := (c.linkAccept.loadInitial p).lampOn
  let c := c.setModes { c.modes with mode := .run, progress := 0x81, idle := none, dormant := none }
  (c.trigger { setup := true, mode := true } true).compareHardware

/-- A setup is refused (R8): nothing read is kept. -/
def Core.refuseSetup (c : Core) (reason : Nat) : Core :=
  ((c.setPort { c.port with setupRead := none, boardQueue := c.port.boardQueue.filter fun b =>
      match b with
      | .setup _ => false
      | _ => true }).send (.setupRefused reason)).fault .setupBad .systemPort reason 0

/-- Both reads of a setup have ended with data: the checks of R8, and their result. -/
def Core.judgeSetup (c : Core) (base : Nat) (block ext : List Byte) : Core :=
  match setupReason base c.store block ext with
  | some reason => c.refuseSetup reason
  | none =>
    match checkProfile (setupFields block).slotAlloc (reelExtension ext) (initialProfile block) with
    | .passed p _ => c.acceptSetup base block ext p
    | .refused _ => c.refuseSetup 7

/-- A setup read begins at the latched base (R7). -/
def Core.beginSetup (c : Core) (base : Nat) : Core :=
  c.setPort { c.port with
    setupRead := some { base := base, block := none, extension := none }
    boardQueue := c.port.boardQueue ++ [.setup .block, .setup .extension] }

/-- A read of the setup ends (R7). -/
def Core.setupReadDone (c : Core) (part : SetupPart) (r : ReadEnd) : Core :=
  if c.port.boardFlight.contains (.setup part) then
    let c := c.setPort { c.port with boardFlight := removeFirst (· == .setup part) c.port.boardFlight }
    match c.port.setupRead, part, r with
    | none, _, _ => c
    | some _, _, .error =>
      (c.setPort { c.port with boardFlight := c.port.boardFlight.filter fun b =>
        match b with
        | .setup _ => false
        | _ => true }).refuseSetup 8
    | some q, _, .data bs =>
      let q : SetupRead := match part with
        | .block => { q with block := some bs }
        | .extension => { q with extension := some bs }
      match q.block, q.extension with
      | some block, some ext => c.judgeSetup q.base block ext
      | _, _ => c.setPort { c.port with setupRead := some q }
  else c

end Sys2Proof.Machine
end

