-- ==== Sys2Proof/Machine/Cascade.lean ====
section
/-!
DEFINITION. What one command brings about beyond its first effect: the reports between blocks are taken in the order
they are made, an end that is due is made, the idle count and the Image Writer's escalation follow, and what
was sent to the front takes effect. Then the memory port's grant (R144).
-/

namespace Sys2Proof.Machine

/-- What a command answers. -/
abbrev Answer := Host.Outcome State Fault Refusal

/-! ## Reports -/

/-- A result of the start-up requester's transaction: the changer's answer, or the lamp driver's (R169, R196, R197). -/
def Core.startUpResult (c : Core) (msg : LinkMsg) (bytes : List Byte) (d : Option LinkDetail) : Core :=
  match msg with
  | .lampStatus _ =>
    (c.setModes { c.modes with linkResult := some d.isNone }).setCap
      { c.cap with lamp := { c.cap.lamp with present := d.isNone } }
  | .survey =>
    let good := d.isNone && !surveyBad bytes
    let r := if good then c.roll.surveyed c.pins.strapBays bytes else c.roll.single
    (c.setModes { c.modes with linkResult := some good }).setRoll { r with checked := true }
  | _ => c

/-- A link transaction's result reaches its requester (R186). -/
def Core.deliver (c : Core) (item : LinkItem) (bytes : List Byte) (d : Option LinkDetail) : Core :=
  match item.by' with
  | .rollManager => c.rollLink item.msg bytes d
  | .captureUnit => c.lampResult item.msg bytes d.isSome
  | .startUp => c.startUpResult item.msg bytes d

/-- One report takes effect. A merge and a match change nothing at the Request Manager: a merge adds nothing to Frames
Indexed, and no rule of the passes acts on a match (R108, R157). -/
def Core.handle (c : Core) : Signal → Core
  | .passReply r => c.passReply r
  | .safety r => c.passSafety r
  | .rollReply r => c.seqReply r
  | .modeReply r => c.setModes { c.modes with reply := some r }
  | .appended n => c.passAppended n
  | .merged _ => c
  | .matched _ => c
  | .truncated first => (c.porterTruncated first).passTruncated first
  | .indexFull => c.passFull
  | .noRoom => c.passNoRoom
  | .strobed frame => c.passStrobed frame
  | .offTarget => c.passOffTarget
  | .flybyFired frame => c.passFired frame
  | .flybyMissed frame => c.passMissed frame
  | .imageDone frame stamp damaged soft recapture => c.passImage frame stamp damaged soft recapture
  | .probeStored => c.passProbed
  | .probeAborted => c.passUnprobed
  | .probeAbandoned => c.passUnprobed
  | .tryStrobe => c.tryStrobe
  | .rollDone outcome detail indexed => c.passRollDone outcome detail indexed
  | .saved => c.seqSaved
  | .imported rejected => c.seqImported rejected
  | .exportEnded => c.seqExportEnded
  | .returnHeld roll positionalOnly outcome detail => c.returnHeld roll positionalOnly outcome detail
  | .linkResult item bytes d => c.deliver item bytes d

/-- The reports are taken, oldest first, with those they bring about behind them; then an end that is due is made. A
step takes at most `fuel` reports (notes/assumptions/18.md). -/
def Core.settleFrom : Nat → Core → Core
  | 0, c => c.tryEnd
  | fuel + 1, c =>
    match c.sig with
    | [] => c.tryEnd
    | x :: rest => Core.settleFrom fuel ({ c with sig := rest }.handle x)

/-- The conditions of the idle count (R206). A SET PROFILE is in service while its load state is LOADING
(notes/assumptions/90.md). -/
def Core.idling (c : Core) : Bool :=
  c.modes.mode = .run && c.rm.pendingSet.isEmpty && c.rm.pass.isNone && c.rm.exports.isEmpty && c.rm.loading.isNone
    && (c.tr.steady || c.tr.st = .unthreaded)

/-- The idle count runs while its conditions hold, and restarts from 0 when any ceases (R206). -/
def Core.idleFollow (c : Core) : Core :=
  c.setModes { c.modes with
    idle := if c.idling then (if c.modes.idle.isSome then c.modes.idle else c.tick) else none }

/-- The Image Writer's escalation follows the Line FIFO's fill (R144). -/
def Core.escalationFollow (c : Core) : Core :=
  c.setPort { c.port with
    escalated := if 196608 ≤ c.cap.fill then true else if c.cap.fill < 65536 then false else c.port.escalated }

/-- Everything the command's first effect brings about (R144, R206). -/
def Core.settle (c : Core) : Core := (Core.settleFrom 65536 c).idleFollow.escalationFollow

/-- The parts of the block other than the front act, and what they sent reaches the front; a part held in a full reset
does nothing (R202). -/
def State.runCore (s : State) (f : Core → Core) : State :=
  if s.core.modes.mode = .held then s else State.flush { s with core := (f s.core).settle }

/-! ## The memory port (R144) -/

/-- The circle of R144 from a requester's successor on. -/
def circleAfter : Requester → List Requester
  | .imageWriter =>
    [.boardReader, .resultWriter, .indexPorter, .statusWriter, .reservationReader, .imageWriter]
  | .boardReader =>
    [.resultWriter, .indexPorter, .statusWriter, .reservationReader, .imageWriter, .boardReader]
  | .resultWriter =>
    [.indexPorter, .statusWriter, .reservationReader, .imageWriter, .boardReader, .resultWriter]
  | .indexPorter =>
    [.statusWriter, .reservationReader, .imageWriter, .boardReader, .resultWriter, .indexPorter]
  | .statusWriter =>
    [.reservationReader, .imageWriter, .boardReader, .resultWriter, .indexPorter, .statusWriter]
  | .reservationReader =>
    [.imageWriter, .boardReader, .resultWriter, .indexPorter, .statusWriter, .reservationReader]

/-- The address and the length of a read of the Board Reader (01_the_work_area, The Work Area and its setup). -/
def Core.boardAddress (c : Core) : BoardRead → Nat × Nat
  | .setup .block => (addr ((c.port.setupRead.map (·.base)).getD 0) 0, 1024)
  | .setup .extension => (addr ((c.port.setupRead.map (·.base)).getD 0) 0x800, 112)
  | .slot n _ => (slotAddress (c.port.workArea.getD 0) n 0, 128)
  | .profile a => (a, 256)
  | .selectionMap a n => (a, n)

/-- The address of the head stamp the reservation read reads (R134). -/
def Core.cursorAddress (c : Core) : Nat := c.port.setup.ringBase + c.cap.cursor * c.port.setup.slotAlloc

/-- The transaction a requester offers, if it has one ready (R144). -/
def State.offer (s : State) : Requester → Option Transaction
  | .imageWriter => (s.core.cap.imageWrite s.core.stampInForce).map fun w => .write .imageWriter w.1 w.2
  | .boardReader =>
    s.core.port.boardQueue.head?.map fun b =>
      .read .boardReader (s.core.boardAddress b).1 (s.core.boardAddress b).2
  | .resultWriter => s.core.resultPrepare.resultWrite.map fun w => .write .resultWriter w.1 w.2
  | .indexPorter => s.core.porterNext
  | .statusWriter =>
    s.front.snapshotWrite.map fun w =>
      .write .statusWriter (addr (s.core.port.workArea.getD 0) (0x400 + w.1)) w.2
  | .reservationReader =>
    if s.core.cap.reservation = .queued then some (.read .reservationReader s.core.cursorAddress 4) else none

/-- The first of the given requesters with a transaction ready. -/
def State.firstReady (s : State) : List Requester → Option (Requester × Transaction)
  | [] => none
  | r :: l =>
    match s.offer r with
    | some t => some (r, t)
    | none => s.firstReady l

/-- The arbiter's choice: an escalated Image Writer with a write ready, or round robin (R144). -/
def State.arbitrate (s : State) : Option (Requester × Transaction) :=
  s.firstReady ((if s.core.port.escalated then [.imageWriter] else []) ++ circleAfter s.core.port.last)

/-- A read issued now is no look: it is that of a slot that is HELD (R13, R16; notes/assumptions/41.md). -/
def Core.noLook (c : Core) : BoardRead → List (Nat × Bool)
  | .slot n s => if c.lookable n then [] else [(n, s)]
  | _ => []

/-- The Board Reader's read at the head of its queue has been issued. -/
def Core.boardIssued (c : Core) : Core :=
  match c.port.boardQueue with
  | b :: rest => c.setPort { c.port with
      boardQueue := rest, boardFlight := c.port.boardFlight ++ [b], dropped := c.port.dropped ++ c.noLook b }
  | [] => c

/-- What the issue of a requester's transaction does in its block. -/
def Core.issued (c : Core) : Requester → Core
  | .imageWriter => c.imageIssued
  | .boardReader => c.boardIssued
  | .resultWriter => c.resultPrepare.resultIssued
  | .indexPorter => c.porterIssued
  | .statusWriter => c
  | .reservationReader => c.setCap { c.cap with reservation := .flight }

/-- A grant to a requester: the port issues its transaction, and the block goes on. -/
def State.grant (s : State) (r : Requester) (t : Transaction) : State :=
  let s : State := { s with core := s.core.setPort { s.core.port with last := r, issued := some t } }
  let s : State := if r = .statusWriter then { s with front := s.front.snapshotIssued s.core } else s
  s.runCore fun c => c.issued r

/-! ## Reads that end -/

/-- The profile read in flight. -/
def BoardRead.isProfile : BoardRead → Bool
  | .profile _ => true
  | _ => false

/-- The Selection Map read in flight. -/
def BoardRead.isMap : BoardRead → Bool
  | .selectionMap _ _ => true
  | _ => false

/-- A Board Reader read of a kind ends, when one is in flight (R6). -/
def Core.boardEnd (c : Core) (kind : BoardRead → Bool) (f : Core → Core) : Core :=
  if c.port.boardFlight.any kind then
    f (c.setPort { c.port with boardFlight := removeFirst kind c.port.boardFlight })
  else c

/-- The profile record read ends (R43). -/
def Core.profileReadDone (c : Core) (r : ReadEnd) : Core := c.boardEnd BoardRead.isProfile fun c => c.profileRead r

/-- The Selection Map read ends (R36). -/
def Core.mapReadDone (c : Core) (r : ReadEnd) : Core := c.boardEnd BoardRead.isMap fun c => c.mapRead r

/-- The named read ends (R6). -/
def Core.readEnds (c : Core) (tag : ReadTag) (r : ReadEnd) : Core :=
  match tag with
  | .setup part => c.setupReadDone part r
  | .slot n => c.lookDone n r
  | .profile => c.profileReadDone r
  | .selectionMap => c.mapReadDone r
  | .importRecord => c.importRead r
  | .reservation => c.reservationDone r

end Sys2Proof.Machine
end

