-- ==== Sys2Proof/Machine/Board.lean ====
section
/-!
DEFINITION. The commands of host memory: the ends of reads, the sweep, the choice of the next pass, grants of the
memory port, the Return Delay and the Index Porter (R6, R7, R12, R13, R20, R36, R38, R43, R111, R144, R150).
-/

namespace Sys2Proof.Machine

/-- SETUP_READ_DONE (R7). -/
def execSetupReadDone (part : SetupPart) (r : ReadEnd) (s : State) : Answer :=
  .next (s.runCore fun c => c.setupReadDone part r)

/-- HOST_READ_TIMEOUT (R6): the named read ends as a read error. -/
def execHostReadTimeout (tag : ReadTag) (s : State) : Answer := .next (s.runCore fun c => c.readEnds tag .error)

/-- SWEEP_TIMER_EXPIRY (R13). -/
def execSweepTimerExpiry (s : State) : Answer := .next (s.runCore Core.sweepExpiry)

/-- SLOT_LOOK (R12). -/
def execSlotLook (n : Nat) (r : ReadEnd) (s : State) : Answer := .next (s.runCore fun c => c.lookDone n r)

/-- PROFILE_READ_DONE (R43). -/
def execProfileReadDone (r : ReadEnd) (s : State) : Answer := .next (s.runCore fun c => c.profileReadDone r)

/-- PASS_CHOICE (R150). -/
def execPassChoice (s : State) : Answer := .next (s.runCore Core.choose)

/-- SELECTION_MAP_READ_DONE (R36). -/
def execSelectionMapReadDone (r : ReadEnd) (s : State) : Answer := .next (s.runCore fun c => c.mapReadDone r)

/-- MEMORY_PORT_GRANT (R144): no effect while no requester has a transaction ready. -/
def execMemoryPortGrant (s : State) : Answer :=
  if s.core.modes.mode = .held then .next s
  else
    match s.arbitrate with
    | some (r, t) => .next (s.grant r t)
    | none => .next s

/-- RETURN_DELAY_EXPIRY (R20). -/
def execReturnDelayExpiry (s : State) : Answer := .next (s.runCore Core.returnDelayOver)

/-- INDEX_TRANSFER_START (R38). -/
def execIndexTransferStart (s : State) : Answer := .next (s.runCore Core.porterStart)

/-- IMPORT_READ_DONE (R111). -/
def execImportReadDone (r : ReadEnd) (s : State) : Answer := .next (s.runCore fun c => c.importRead r)

end Sys2Proof.Machine
end

