-- ==== Sys2Proof/Machine/Film.lean ====
section
/-!
DEFINITION. The commands of the film: counts and pulses, the profile timer, tension, Film Present and EXT_STOP, and the
transport's counts and limits (R49 to R71). A count's expiry has no effect while the count does not run.
-/

namespace Sys2Proof.Machine

/-- `f` acts when `b` holds. -/
def Core.when (c : Core) (b : Bool) (f : Core → Core) : Core := if b then f c else c

/-- METERING_COUNT (R50). -/
def execMeteringCount (dir : Dir) (image blip edge : Nat) (s : State) : Answer :=
  .next (s.runCore fun c => c.count dir image blip edge)

/-- TACHOMETER_PULSE (R60, R63). -/
def execTachometerPulse (reel : Side) (s : State) : Answer := .next (s.runCore fun c => c.tach reel)

/-- PROFILE_TIMER_EXPIRY (R53). -/
def execProfileTimerExpiry (s : State) : Answer := .next (s.runCore Core.profileTimer)

/-- SETTLE_TIMEOUT (R56). -/
def execSettleTimeout (s : State) : Answer := .next (s.runCore Core.settleOver)

/-- TENSION_REGULATOR_PERIOD (R57). -/
def execTensionRegulatorPeriod (supply takeUp : Nat) (s : State) : Answer :=
  .next (s.runCore fun c => c.when c.tr.regulating fun c => c.regulate supply takeUp)

/-- TENSION_ESTABLISHED (R57). -/
def execTensionEstablished (s : State) : Answer :=
  .next (s.runCore fun c => c.when (c.tr.regulating && !c.tr.established && c.tr.inBand.isSome) Core.tensionSet)

/-- OUT_OF_BAND_EXPIRY (R58). -/
def execOutOfBandExpiry (dancer : Side) (s : State) : Answer := .next (s.runCore fun c => c.outOfBand dancer)

/-- REEL_STALL (R60). -/
def execReelStall (reel : Side) (s : State) : Answer := .next (s.runCore fun c => c.stalled reel)

/-- FILM_PRESENT_CHANGE (R59); in a full reset only the input's level changes. -/
def execFilmPresentChange (present : Bool) (s : State) : Answer :=
  if s.core.modes.mode = .held then
    .next { s with core := s.core.setPins { s.core.pins with filmPresent := present } }
  else .next (s.runCore fun c => c.filmLevel present)

/-- EXT_STOP_ASSERT (R49, R61); in a full reset only the input's level changes. -/
def execExtStopAssert (s : State) : Answer :=
  if s.core.modes.mode = .held then .next { s with core := s.core.setPins { s.core.pins with extStop := true } }
  else .next (s.runCore Core.extAsserted)

/-- EXT_STOP_RELEASE (R49): the brake output is the brake demand again. -/
def execExtStopRelease (s : State) : Answer :=
  .next { s with core := s.core.setPins { s.core.pins with extStop := false } }

/-- THREAD_FEED_TIMEOUT (R66). -/
def execThreadFeedTimeout (s : State) : Answer :=
  .next (s.runCore fun c =>
    c.when (c.tr.st = .threading && c.tr.threadStep = .feed && c.tr.feedCount.isSome) fun c => c.threadFail 10000)

/-- FIRST_FRAME_SEARCH_LIMIT (R66). -/
def execFirstFrameSearchLimit (s : State) : Answer := .next (s.runCore Core.searchLimit)

/-- UNTHREAD_TRAVEL_LIMIT (R68). -/
def execUnthreadTravelLimit (s : State) : Answer := .next (s.runCore Core.unthreadLimit)

/-- WAKE_TIMEOUT (R70). -/
def execWakeTimeout (s : State) : Answer :=
  .next (s.runCore fun c => c.when c.tr.wakeCount.isSome Core.tensionMissing)

/-- RECOVERY_TENSION_TIMEOUT (R71). -/
def execRecoveryTensionTimeout (s : State) : Answer :=
  .next (s.runCore fun c => c.when c.tr.testCount.isSome Core.tensionMissing)

/-- RELAX_RAMP_END (R69). -/
def execRelaxRampEnd (s : State) : Answer := .next (s.runCore fun c => c.when c.tr.relaxRamp.isSome Core.relaxEnd)

end Sys2Proof.Machine
end

