-- ==== Sys2Proof/Machine/Imaging.lean ====
section
/-!
DEFINITION. The commands of the lens, the reservations, the camera and the lamp's own counts (R115, R116, R134 to R140,
R146).
-/

namespace Sys2Proof.Machine

/-- FOCUS_STEP_TICK (R115, R117). -/
def execFocusStepTick (s : State) : Answer := .next (s.runCore fun c => c.when c.focus.stepping Core.focusTick)

/-- FOCUS_SETTLE_DONE (R116). -/
def execFocusSettleDone (s : State) : Answer :=
  .next (s.runCore fun c => c.when c.focus.settle.isSome Core.focusSettled)

/-- RESERVATION_READ_DONE (R134). -/
def execReservationReadDone (r : ReadEnd) (s : State) : Answer := .next (s.runCore fun c => c.reservationDone r)

/-- 1 ms after a read that did not reserve, the slot is read again (R135). -/
def Core.reread (c : Core) : Core := (c.setCap { c.cap with reread := none }).wantSlot

/-- RESERVATION_REREAD_TIMER (R135). -/
def execReservationRereadTimer (s : State) : Answer := .next (s.runCore fun c => c.when c.cap.reread.isSome Core.reread)

/-- IMAGE_WAIT_EXPIRY (R135). -/
def execImageWaitExpiry (s : State) : Answer :=
  .next (s.runCore fun c => c.when c.cap.imageWait.isSome Core.imageWaitOver)

/-- CAMERA_LINE (R139). -/
def execCameraLine (pixels : List Pixel) (s : State) : Answer := .next (s.runCore fun c => c.cameraLine pixels)

/-- CAMERA_TIMEOUT (R137). -/
def execCameraTimeout (s : State) : Answer := .next (s.runCore Core.cameraTimeout)

/-- FLYBY_HOLD_LIMIT (R140). -/
def execFlybyHoldLimit (s : State) : Answer := .next (s.runCore Core.flybyTruncate)

/-- LAMP STATUS is submitted again (R146), with lamp control ABSENT too, where it fails with LINK_DOWN and starts the fixed
warm-up (notes/assumptions/103.md). -/
def Core.lampAgain (c : Core) : Core :=
  (c.setCap { c.cap with lamp := { c.cap.lamp with pollTimer := none } }).lampPoll

/-- LAMP_POLL_TIMER (R146). -/
def execLampPollTimer (s : State) : Answer :=
  .next (s.runCore fun c => c.when c.cap.lamp.pollTimer.isSome Core.lampAgain)

/-- The lamp has not been found ready (R146). -/
def Core.lampLate (c : Core) : Core := (c.fault .lampTimeout .captureUnit c.cap.lamp.lastSent 0).lampReady

/-- LAMP_TIMEOUT (R146). -/
def execLampTimeout (s : State) : Answer :=
  .next (s.runCore fun c => c.when c.cap.lamp.pollLimit.isSome Core.lampLate)

/-- FIXED_WARM_UP_END (R146). -/
def execFixedWarmUpEnd (s : State) : Answer :=
  .next (s.runCore fun c => c.when c.cap.lamp.fixed.isSome Core.lampReady)

end Sys2Proof.Machine
end

