-- ==== Sys2Proof/Machine/Registers.lean ====
section
/-!
DEFINITION. The commands of the register window: writes to WA_BASE, CONTROL, POST and FAULT_TOP, reads of STATUS, and
writes without effect (R1 to R5, R14, R19, R200, R205, R207).
-/

namespace Sys2Proof.Machine

/-! ## CONTROL -/

/-- The base a setup read latches (R2). -/
def Front.base (f : Front) : Nat := f.waBaseHi.toNat * 2 ^ 32 + f.waBaseLo.toNat

/-- A setup read begins (R7): SETUP_BAD and Setup Reason are cleared, and the base is latched. -/
def State.setupBegin (s : State) : State :=
  let s : State := { s with front := { s.front with setupBad := false, setupReason := 0 } }
  s.runCore fun c => c.beginSetup s.front.base

/-- The ENABLE field (R3): the latch takes the written value in START-UP, and in CONFIG WAIT while no setup read is in
progress; a rise in CONFIG WAIT begins a setup read. -/
def State.enableField (s : State) (bit : Bool) : State :=
  let t : State := { s with front := { s.front with enable := bit } }
  match s.core.modes.mode with
  | .startUp => t
  | .configWait =>
    if s.core.port.setupRead.isSome then s else if bit && !s.front.enable then t.setupBegin else t
  | _ => s

/-- The HOLD_CLEAR field (R3, R19). -/
def State.holdClearField (s : State) (bit : Bool) : State :=
  if bit then { s with front := s.front.holdClear s.core } else s

/-- The WAKE field (R3, R207): no effect outside STANDBY and DORMANT. -/
def State.wakeField (s : State) (bit : Bool) : State :=
  match s.core.modes.mode with
  | .standby | .dormant => if bit then s.runCore Core.toRun else s
  | _ => s

/-- The front after a soft reset (R19, R22, R23, R205). -/
def Front.softReset (f : Front) : Front :=
  { f with
    enable := false, setupBad := false, setupReason := 0, causeReturn := false, causeFault := false,
    causeSnapshot := false, hold := false, faults := [], overflow := false, discards := 0, snapMark := .idle }

/-- The port after a soft reset: reads and writes not yet issued are abandoned, those in flight will be discarded, the
latched base is discarded, and the round-robin position is kept (R6, R147, R205). -/
def Port.softReset (p : Port) : Port :=
  { p with
    setupRead := none, workArea := none, sweepTimer := none, boardQueue := [], boardFlight := [], sweepEnded := [],
    dropped := [], results := [], escalated := false }

/-- The modes after a soft reset (R205). -/
def Modes.softReset (m : Modes) : Modes :=
  { m with mode := .configWait, progress := 0x80, resetCause := .soft, idle := none, dormant := none }

/-- Every block but the front acts as its own reset rule gives (R72, R114, R133, R147, R167, R184, R198). Reports and
faults of that moment reach nobody: their receivers are reset too. -/
def Core.softReset (c : Core) : Core :=
  let c := c.endMotion.transportReset
  let c := (c.setIx c.ix.softReset).focusSoftReset
  let c := ((c.setCap c.cap.softReset).setRoll c.roll.softReset).setLink (c.link.softReset c.now)
  let c := ((c.setRm ReqMgr.reset).setStore { c.store with load := none }).setPorter Porter.reset
  let c := (c.setPort c.port.softReset).setModes c.modes.softReset
  { c with sig := [], out := [] }

/-- A soft reset is ordered (R205): ignored in START-UP, FAILED and a full reset. -/
def State.softReset (s : State) : State :=
  match s.core.modes.mode with
  | .configWait | .run | .standby | .dormant =>
    { s with front := s.front.softReset, core := s.core.softReset }
  | _ => s

/-- A write of the word `w` to CONTROL (R3): SOFT_RESET goes before the other fields, which act together. -/
def State.controlWrite (s : State) (w : Word32) : State :=
  match s.core.modes.mode with
  | .held | .failed => s
  | _ =>
    if w.getLsbD 1 then s.softReset
    else ((s.enableField (w.getLsbD 0)).holdClearField (w.getLsbD 2)).wakeField (w.getLsbD 3)

/-! ## The commands -/

/-- WA_BASE_WRITE (R1, R2): bits 11..0 of WA_BASE_LO are discarded. -/
def execWaBaseWrite (high : Bool) (value : Word32) (s : State) : Answer :=
  match s.core.modes.mode with
  | .held | .failed => .next s
  | _ =>
    if high then .next { s with front := { s.front with waBaseHi := value } }
    else .next { s with front := { s.front with waBaseLo := value &&& 0xFFFFF000#32 } }

/-- ENABLE (R3). -/
def execEnable (w : Word32) (s : State) : Answer := .next (s.controlWrite w)

/-- SOFT_RESET (R205). -/
def execSoftReset (w : Word32) (s : State) : Answer := .next (s.controlWrite w)

/-- HOLD_CLEAR (R19). -/
def execHoldClear (w : Word32) (s : State) : Answer := .next (s.controlWrite w)

/-- WAKE (R207). -/
def execWake (w : Word32) (s : State) : Answer := .next (s.controlWrite w)

/-- POST (R14): no effect outside RUN, STANDBY and DORMANT. -/
def execPost (bits : Word32) (s : State) : Answer :=
  match s.core.modes.mode with
  | .run | .standby | .dormant => .next (s.runCore fun c => c.postWrite bits)
  | _ => .next s

/-- STATUS_READ (R4): the word is answered, and each cause returned as 1 is cleared. -/
def execStatusRead (s : State) : Answer :=
  if s.core.modes.mode = .held then .next s
  else
    .next { s with front := { s.front with
      busReply := statusWord s.front s.core.modes, causeReturn := false, causeFault := false, causeSnapshot := false } }

/-- FAULT_TOP_POP (R200): no effect in START-UP and FAILED (R1). -/
def execFaultTopPop (_w : Word32) (s : State) : Answer :=
  match s.core.modes.mode with
  | .held | .failed | .startUp => .next s
  | _ => .next { s with front := s.front.pop s.core }

/-- REGISTER_WRITE_IGNORED (R1). -/
def execRegisterWriteIgnored (_offset : Nat) (_whole : Bool) (_w : Word32) (s : State) : Answer := .next s

end Sys2Proof.Machine
end

