-- ==== Sys2Proof/Machine/StartUp.lean ====
section
/-!
DEFINITION. The full reset, START-UP and its self-test, and the changes of device mode with time (R202, R203, R206,
R207).
-/

namespace Sys2Proof.Machine

/-- Every block in its reset state, with the endpoint silent and the brake on (R202). The pins keep the levels at their
inputs; the drives give no torque. -/
def State.hold (s : State) (powerOn : Bool) : State :=
  let c := s.core
  let r := Core.reset { c.pins with torqueSupply := 0, torqueTakeUp := 0 } c.now c.free
  let again := c.modes.mode = .held && c.modes.powerOn
  { s with
    front := { Front.reset with msiSent := s.front.msiSent }
    core := r.setModes { Modes.reset with mode := .held, powerOn := powerOn || again } }

/-- FULL_RESET (R202). -/
def execFullReset (powerOn : Bool) (s : State) : Answer := .next (s.hold powerOn)

/-- START_UP (R202): the self-test begins at test 01h. -/
def execStartUp (s : State) : Answer :=
  if s.core.modes.mode = .held then
    .next { s with core := s.core.setModes { Modes.reset with
      resetCause := if s.core.modes.powerOn then .power else .pin } }
  else .next s

/-! ## The self-test (R203) -/

/-- The test of a progress code begins. The link check waits for a free bus (R198); tests 06h and 07h submit their reads
(R169, R197). -/
def Core.beginTest (c : Core) (code : Nat) : Core :=
  let c := c.setModes { c.modes with progress := code, linkResult := none }
  if code = 5 then c.setLink { c.link with freeCount := c.tick }
  else if code = 6 then c.submit { msg := .lampStatus 0, by' := .startUp }
  else if code = 7 then c.submit { msg := .survey, by' := .startUp }
  else c

/-- A fatal failure: FAILED, with the failing code (R203). -/
def Core.fatal (c : Core) : Core :=
  (c.setModes { c.modes with mode := .failed }).fault .selftest .selfTest c.modes.progress 0

/-- A converter channel reads within 32 codes of mid-scale. -/
def nearMid (mid reading : Nat) : Bool := decide (mid ≤ reading + 32 ∧ reading ≤ mid + 32)

/-- A test passes, or fails without being fatal: the next one begins. -/
def Core.testOver (c : Core) (ok : Bool) : Core :=
  let code := c.modes.progress
  (if ok then c else c.fault .selftest .selfTest code 0).beginTest (code + 1)

/-- Test 08h ends, and with it the self-test: CONFIG WAIT. -/
def Core.lastTest (c : Core) : Core :=
  (c.setTr { c.tr with st := if c.pins.filmPresent then .unreferenced else .unthreaded }).setModes
    { c.modes with mode := .configWait, progress := 0x80, linkResult := none }

/-- The running test ends; an end that is not of the running test has no effect. -/
def Core.testDone (c : Core) (e : TestEnd) : Core :=
  if c.modes.mode = .startUp then
    match e with
    | .memory ok =>
      if 1 ≤ c.modes.progress ∧ c.modes.progress ≤ 3 then (if ok then c.testOver true else c.fatal) else c
    | .references image blip edge supply takeUp =>
      if c.modes.progress = 4 then
        if nearMid 512 image && nearMid 512 blip && nearMid 512 edge && nearMid 2048 supply && nearMid 2048 takeUp then
          c.testOver true
        else c.fatal
      else c
    | .link =>
      match c.modes.linkResult with
      | some ok =>
        if c.modes.progress = 5 then (c.setLink { c.link with opened := true }).testOver ok
        else if c.modes.progress = 6 ∨ c.modes.progress = 7 then c.testOver ok
        else c
      | none => c
    | .film => if c.modes.progress = 8 then c.lastTest else c
  else c

/-- SELFTEST_TEST_DONE (R203); on entry to CONFIG WAIT with the Enable latch set, a setup read begins (R7). -/
def execSelftestTestDone (e : TestEnd) (s : State) : Answer :=
  let t := s.runCore fun c => c.testDone e
  if s.core.modes.mode = .startUp ∧ t.core.modes.mode = .configWait ∧ t.front.enable = true then .next t.setupBegin
  else .next t

/-! ## Idle and dormant -/

/-- The device mode goes from RUN to STANDBY (R206). -/
def Core.toStandby (c : Core) : Core :=
  if c.modes.mode = .run ∧ c.modes.idle.isSome = true then
    let c := c.setModes { c.modes with mode := .standby, idle := none, dormant := c.tick }
    (c.orderRelax.lampOffEvent.focusPark).trigger { mode := true } true
  else c

/-- The device mode goes from STANDBY to DORMANT (R13, R207). -/
def Core.toDormant (c : Core) : Core :=
  if c.modes.mode = .standby ∧ c.modes.dormant.isSome = true ∧ c.port.setup.dormantTime ≠ 0 then
    let c := c.setModes { c.modes with mode := .dormant, dormant := none }
    (c.setPort { c.port with sweepTimer := none }).trigger { mode := true } true
  else c

/-- IDLE_TIME_EXPIRY (R206). -/
def execIdleTimeExpiry (s : State) : Answer := .next (s.runCore Core.toStandby)

/-- DORMANT_TIME_EXPIRY (R207). -/
def execDormantTimeExpiry (s : State) : Answer := .next (s.runCore Core.toDormant)

end Sys2Proof.Machine
end

