-- ==== Sys2Proof/Machine/Wire.lean ====
section
/-!
DEFINITION. The commands of the accessory link and of the changer's counts (R169, R174, R181, R187 to R198).
-/

namespace Sys2Proof.Machine

/-- `f` acts on a link that takes part in the bus: from the self-test's link check on, outside FAILED and DOWN
(R192, R198). -/
def Core.onLink (c : Core) (f : Core → Core) : Core := c.when (c.link.opened && !c.linkDead) f

/-- The self-test's link check is running and undecided (R198, R203). -/
def Core.linkCheck (c : Core) : Bool :=
  c.modes.mode = .startUp && c.modes.progress = 5 && c.modes.linkResult.isNone

/-! ## Ends of the part's transactions -/

/-- An EXCHANGE message. -/
def LinkMsg.isExchange : LinkMsg → Bool
  | .exchange _ _ => true
  | _ => false

/-- A changer STATUS message. -/
def LinkMsg.isStatus : LinkMsg → Bool
  | .status _ => true
  | _ => false

/-- A SURVEY message. -/
def LinkMsg.isSurvey : LinkMsg → Bool
  | .survey => true
  | _ => false

/-- A LAMP SET message. -/
def LinkMsg.isLampSet : LinkMsg → Bool
  | .lampSet _ => true
  | _ => false

/-- A LAMP OFF message. -/
def LinkMsg.isLampOff : LinkMsg → Bool
  | .lampOff => true
  | _ => false

/-- A LAMP STATUS message. -/
def LinkMsg.isLampStatus : LinkMsg → Bool
  | .lampStatus _ => true
  | _ => false

/-- EXCHANGE (R174, R189). -/
def execExchange (refused : Option Nat) (s : State) : Answer :=
  .next (s.runCore fun c => c.onLink fun c => c.linkWrite LinkMsg.isExchange refused)

/-- CHANGER_POLL_TIMER (R174). -/
def execChangerPollTimer (s : State) : Answer := .next (s.runCore Core.pollChanger)

/-- STATUS (R196). -/
def execStatus (bytes : List Byte) (s : State) : Answer :=
  .next (s.runCore fun c => c.onLink fun c => c.linkRead LinkMsg.isStatus bytes)

/-- EXCHANGE_TIMEOUT (R174). -/
def execExchangeTimeout (s : State) : Answer := .next (s.runCore Core.exchangeOver)

/-- SURVEY (R169). -/
def execSurvey (bytes : List Byte) (s : State) : Answer :=
  .next (s.runCore fun c => c.onLink fun c => c.linkRead LinkMsg.isSurvey bytes)

/-- LAMP_SET (R145). -/
def execLampSet (refused : Option Nat) (s : State) : Answer :=
  .next (s.runCore fun c => c.onLink fun c => c.linkWrite LinkMsg.isLampSet refused)

/-- LAMP_OFF (R145). -/
def execLampOff (refused : Option Nat) (s : State) : Answer :=
  .next (s.runCore fun c => c.onLink fun c => c.linkWrite LinkMsg.isLampOff refused)

/-- LAMP_STATUS (R146, R197). -/
def execLampStatus (bytes : List Byte) (s : State) : Answer :=
  .next (s.runCore fun c => c.onLink fun c => c.linkRead LinkMsg.isLampStatus bytes)

/-! ## The target side -/

/-- A message taken in TARGET ends, and a Bay Event goes to the Roll Manager (R181, R194). -/
def Core.takeMessage (c : Core) (bytes : List Byte) : Core :=
  match c.linkMessage bytes with
  | (c, some (bay, occupancy)) => c.bayEvent bay occupancy
  | (c, none) => c

/-- BAY_EVENT (R181). -/
def execBayEvent (bytes : List Byte) (s : State) : Answer :=
  .next (s.runCore fun c => c.onLink fun c => c.takeMessage bytes)

/-- WATCHED_ADDRESS_BYTE (R194). -/
def execWatchedAddressByte (address : Nat) (write : Bool) (s : State) : Answer :=
  .next (s.runCore fun c => c.onLink fun c => c.linkWatch address write)

/-- FOREIGN_STOP_CONDITION (R190). -/
def execForeignStopCondition (s : State) : Answer := .next (s.runCore fun c => c.onLink Core.linkForeignStop)

/-! ## The wires -/

/-- The bus is free (R187): the self-test's link check passes, or the link goes on. -/
def Core.busFree (c : Core) : Core :=
  if c.linkCheck then c.setModes { c.modes with linkResult := some true } else c.onLink Core.linkBusFree

/-- BUS_FREE (R187). -/
def execBusFree (s : State) : Answer := .next (s.runCore Core.busFree)

/-- RETRY_WAIT_END (R188). -/
def execRetryWaitEnd (s : State) : Answer :=
  .next (s.runCore fun c => c.onLink fun c => c.when c.link.retryWait.isSome Core.linkRetry)

/-- CLOCK_STRETCH_LIMIT (R191). -/
def execClockStretchLimit (moved : Option Nat) (s : State) : Answer :=
  .next (s.runCore fun c => c.onLink fun c => c.linkStretch moved)

/-- A wire has been low for 35 ms (R192, R198): in the self-test's link check the recovery decides it, with no fault of
its own. -/
def Core.lowLine (c : Core) (sclHigh scl sda : Bool) : Core :=
  if c.linkCheck then
    (c.linkRecover true sclHigh scl sda).setModes { c.modes with linkResult := some (scl && sda) }
  else c.onLink fun c => c.linkRecover false sclHigh scl sda

/-- LOW_LINE_LIMIT (R192). -/
def execLowLineLimit (sclHigh sclAfter sdaAfter : Bool) (s : State) : Answer :=
  .next (s.runCore fun c => c.lowLine sclHigh sclAfter sdaAfter)

/-- ADDRESS_NOT_ACKNOWLEDGED (R188). -/
def execAddressNotAcknowledged (s : State) : Answer := .next (s.runCore fun c => c.onLink Core.linkNak)

/-- LOST_ARBITRATION (R190). -/
def execLostArbitration (moved : Option Nat) (s : State) : Answer :=
  .next (s.runCore fun c => c.onLink fun c => c.linkLost moved)

end Sys2Proof.Machine
end

