-- ==== Sys2Proof/Machine/Dispatch.lean ====
section
/-! DEFINITION. One arm for each command of the 760: the command's meaning, on everything but the queue. -/

namespace Sys2Proof.Machine

def exec (i : Instr) (s : State) : Host.Outcome State Fault Refusal :=
  match i with
  | .waBaseWrite high value => Sys2Proof.Machine.execWaBaseWrite high value s
  | .enable w => Sys2Proof.Machine.execEnable w s
  | .softReset w => Sys2Proof.Machine.execSoftReset w s
  | .holdClear w => Sys2Proof.Machine.execHoldClear w s
  | .wake w => Sys2Proof.Machine.execWake w s
  | .post bits => Sys2Proof.Machine.execPost bits s
  | .statusRead => Sys2Proof.Machine.execStatusRead s
  | .faultTopPop w => Sys2Proof.Machine.execFaultTopPop w s
  | .registerWriteIgnored offset whole w => Sys2Proof.Machine.execRegisterWriteIgnored offset whole w s
  | .fullReset powerOn => Sys2Proof.Machine.execFullReset powerOn s
  | .startUp => Sys2Proof.Machine.execStartUp s
  | .selftestTestDone e => Sys2Proof.Machine.execSelftestTestDone e s
  | .setupReadDone part r => Sys2Proof.Machine.execSetupReadDone part r s
  | .hostReadTimeout tag => Sys2Proof.Machine.execHostReadTimeout tag s
  | .sweepTimerExpiry => Sys2Proof.Machine.execSweepTimerExpiry s
  | .slotLook n r => Sys2Proof.Machine.execSlotLook n r s
  | .profileReadDone r => Sys2Proof.Machine.execProfileReadDone r s
  | .passChoice => Sys2Proof.Machine.execPassChoice s
  | .selectionMapReadDone r => Sys2Proof.Machine.execSelectionMapReadDone r s
  | .memoryPortGrant => Sys2Proof.Machine.execMemoryPortGrant s
  | .returnDelayExpiry => Sys2Proof.Machine.execReturnDelayExpiry s
  | .meteringCount dir image blip edge => Sys2Proof.Machine.execMeteringCount dir image blip edge s
  | .tachometerPulse reel => Sys2Proof.Machine.execTachometerPulse reel s
  | .profileTimerExpiry => Sys2Proof.Machine.execProfileTimerExpiry s
  | .settleTimeout => Sys2Proof.Machine.execSettleTimeout s
  | .tensionRegulatorPeriod supply takeUp => Sys2Proof.Machine.execTensionRegulatorPeriod supply takeUp s
  | .tensionEstablished => Sys2Proof.Machine.execTensionEstablished s
  | .outOfBandExpiry dancer => Sys2Proof.Machine.execOutOfBandExpiry dancer s
  | .reelStall reel => Sys2Proof.Machine.execReelStall reel s
  | .filmPresentChange present => Sys2Proof.Machine.execFilmPresentChange present s
  | .extStopAssert => Sys2Proof.Machine.execExtStopAssert s
  | .extStopRelease => Sys2Proof.Machine.execExtStopRelease s
  | .threadFeedTimeout => Sys2Proof.Machine.execThreadFeedTimeout s
  | .firstFrameSearchLimit => Sys2Proof.Machine.execFirstFrameSearchLimit s
  | .unthreadTravelLimit => Sys2Proof.Machine.execUnthreadTravelLimit s
  | .wakeTimeout => Sys2Proof.Machine.execWakeTimeout s
  | .recoveryTensionTimeout => Sys2Proof.Machine.execRecoveryTensionTimeout s
  | .relaxRampEnd => Sys2Proof.Machine.execRelaxRampEnd s
  | .indexTransferStart => Sys2Proof.Machine.execIndexTransferStart s
  | .importReadDone r => Sys2Proof.Machine.execImportReadDone r s
  | .exchange refused => Sys2Proof.Machine.execExchange refused s
  | .changerPollTimer => Sys2Proof.Machine.execChangerPollTimer s
  | .status bytes => Sys2Proof.Machine.execStatus bytes s
  | .exchangeTimeout => Sys2Proof.Machine.execExchangeTimeout s
  | .survey bytes => Sys2Proof.Machine.execSurvey bytes s
  | .bayEvent bytes => Sys2Proof.Machine.execBayEvent bytes s
  | .focusStepTick => Sys2Proof.Machine.execFocusStepTick s
  | .focusSettleDone => Sys2Proof.Machine.execFocusSettleDone s
  | .reservationReadDone r => Sys2Proof.Machine.execReservationReadDone r s
  | .reservationRereadTimer => Sys2Proof.Machine.execReservationRereadTimer s
  | .imageWaitExpiry => Sys2Proof.Machine.execImageWaitExpiry s
  | .cameraLine pixels => Sys2Proof.Machine.execCameraLine pixels s
  | .cameraTimeout => Sys2Proof.Machine.execCameraTimeout s
  | .flybyHoldLimit => Sys2Proof.Machine.execFlybyHoldLimit s
  | .lampSet refused => Sys2Proof.Machine.execLampSet refused s
  | .lampOff refused => Sys2Proof.Machine.execLampOff refused s
  | .lampStatus bytes => Sys2Proof.Machine.execLampStatus bytes s
  | .lampPollTimer => Sys2Proof.Machine.execLampPollTimer s
  | .lampTimeout => Sys2Proof.Machine.execLampTimeout s
  | .fixedWarmUpEnd => Sys2Proof.Machine.execFixedWarmUpEnd s
  | .busFree => Sys2Proof.Machine.execBusFree s
  | .retryWaitEnd => Sys2Proof.Machine.execRetryWaitEnd s
  | .clockStretchLimit moved => Sys2Proof.Machine.execClockStretchLimit moved s
  | .lowLineLimit sclHigh sclAfter sdaAfter => Sys2Proof.Machine.execLowLineLimit sclHigh sclAfter sdaAfter s
  | .idleTimeExpiry => Sys2Proof.Machine.execIdleTimeExpiry s
  | .dormantTimeExpiry => Sys2Proof.Machine.execDormantTimeExpiry s
  | .addressNotAcknowledged => Sys2Proof.Machine.execAddressNotAcknowledged s
  | .lostArbitration moved => Sys2Proof.Machine.execLostArbitration moved s
  | .watchedAddressByte address write => Sys2Proof.Machine.execWatchedAddressByte address write s
  | .foreignStopCondition => Sys2Proof.Machine.execForeignStopCondition s

end Sys2Proof.Machine
end

