-- ==== Sys2Proof/Machine/Step.lean ====
section
/-!
DEFINITION. One step of the block: the command at the front of the queue takes effect; with no command waiting, the
model's clock advances by one millisecond (notes/assumptions/1.md).
-/

namespace Sys2Proof.Machine

/-- Nothing is commanded: a millisecond passes, and nothing else changes. -/
def State.idle (s : State) : State := { s with core := { s.core with now := s.core.now + 1 } }

/-- One step. -/
def step (s : State) : Host.Outcome State Fault Refusal :=
  match s.pending with
  | [] => .next s.idle
  | i :: rest => exec i { s with pending := rest }

/-- The state with the command a word spells at the front of its queue; no word spells one. -/
def State.withFetchWord (s : State) (nbits w : Nat) : State :=
  match decodeTableWord nbits w with
  | some i => { s with pending := i :: s.pending }
  | none => s

end Sys2Proof.Machine
end

