-- ==== Sys2Proof/Safety.lean ====
section
/-!
DEFINITION. What claims about the 760 are stated in: a block with nothing left to settle, the bounds its registers and
queues keep in every step, when the film is held still, and what an index record must hold.
-/

namespace Sys2Proof.Machine

/-- Between two steps of a run: no report between blocks is left, nothing waits to reach the front, and no end is due. -/
def Core.calm (c : Core) : Bool := c.sig.isEmpty && c.out.isEmpty && !c.endDue

/-- A part that is not held in a full reset, calm between two steps. -/
def State.ready (s : State) : Bool := s.core.modes.mode != .held && s.core.calm

/-- What a command leaves whose effect on the core is `c`, with every report settled: besides `c`, only the idle count
(R206) and the Image Writer's escalation (R144) follow, and what `c` sent takes effect on the front, in order. -/
def State.leaves (s : State) (c : Core) : State := State.flush { s with core := c.idleFollow.escalationFollow }

/-- The Fault Queue after a fault `e` has been raised on the front `f` (R199). -/
def Front.queued (f : Front) (e : FaultEntry) : List FaultEntry :=
  if f.faults.length < 16 ∧ f.overflow = false then f.faults ++ [e] else f.faults

/-- The bounds of the front's registers and queues: WA_BASE_LO's low 12 bits are 0 (R2), the Fault Queue holds at most
16 entries and the discard count at most 16,777,215 (R199), and the Snapshot Stamp is at most 4,294,967,295 (R23). -/
def Front.bounded (f : Front) : Bool :=
  decide (f.waBaseLo &&& 0xFFF#32 = 0) && decide (f.faults.length ≤ 16) && decide (f.discards ≤ 16777215)
    && decide (f.snapStamp ≤ 4294967295)

/-- The invariant of the block: the front is bounded, everything the core sent has reached the front, and the Return of
an ending pass whose waits are over has been decided (R166). -/
def State.sound (s : State) : Bool := s.front.bounded && s.core.out.isEmpty && !s.core.endDue

/-- Nothing would strobe now: no stop-mode capture has arrived at its frame, no flyby frame is current and no probe runs
(R82, R84, R127). -/
def Core.strobeless (c : Core) : Bool :=
  !((c.cap.stop.map (·.arrived)).getD false) && c.cap.flyby.isNone && c.focus.probe.isNone

/-- No compare is armed and no forward motion is under way, so that coming to rest reports nothing (R84, R87). -/
def Core.unmoved (c : Core) : Bool := c.cap.armed.isNone && c.ix.motion.isNone

/-- The accessory link takes part in the bus, and the transfer of `item`, the head of its queue, is on the wire (R186). -/
def Core.onWire (c : Core) (item : LinkItem) : Bool :=
  c.link.opened && c.modes.mode != .failed && c.link.st == .address && c.link.queue.head? == some item

/-- The core once the head of the link's queue has left with its result (R185, R186). -/
def Core.linkFreed (c : Core) : Core :=
  c.setLink { c.link.dropHead with st := c.link.dropHead.resting, freeCount := some c.now }

/-- The next end of a read of slot `n` is that of a POST write's (`bySweep` false), or of a sweep's that waits for no read of
a lower slot and that no end waits for, and the read is a look: it is decided at once and alone (R13, R14). -/
def Core.looksAlone (c : Core) (n : Nat) (bySweep : Bool) : Bool :=
  lookInFlight n c.port.boardFlight == some bySweep
    && (!bySweep || !sweepBelow c.port.boardFlight n && c.port.sweepEnded.isEmpty)
    && !c.port.dropped.contains (n, bySweep)

/-- A forward count now brings the Index Unit a kept mark-sensor sample in MOVE, with no compare and no SETTLE to act on the
count as well (R50, R84, R87). -/
def Core.sampling (c : Core) : Bool :=
  c.tr.st == .move && c.tr.phase != .settle && decide (c.tr.p < 16000000) && decide ((c.tr.p + 1) % 4 = 0)
    && c.cap.armed.isNone && c.cap.flyby.isNone

/-- No frame is looked for in what the Index Unit reports: no pass that films runs, or it is ending, or it is an INDEX
without a target that extends (R157, R160). -/
def Core.indexesOn (c : Core) : Bool :=
  match c.rm.pass with
  | none => true
  | some q =>
    !q.films || q.ending.isSome ||
      (match q.act with
        | .extending _ => q.start.isNone && q.req.target == .none && q.req.endTarget.isNone
        | _ => false)

/-- At a forward sample at `pos` the motion in progress is in EXTEND: past the frontier, in one motion (R92). -/
def IndexUnit.inExtend (x : IndexUnit) (pos : Int) : Bool :=
  !x.begins && !x.full && !x.lost && decide (x.frontier < pos)
    && (match x.motion with
      | some m => m.extending && !m.ahead
      | none => false)

/-- At a forward sample at `pos` the motion in progress is in VERIFY: at or below the frontier (R92). -/
def IndexUnit.inVerify (x : IndexUnit) (pos : Int) : Bool :=
  !x.begins && decide (pos ≤ x.frontier)
    && (match x.motion with
      | some m => !m.extending && !m.ahead
      | none => false)

/-- No pulse is in progress on the Blip Lane or the Edge Lane, and neither level is marked (R88, R99, R101). -/
def Core.lanesQuiet (c : Core) (blip edge : Nat) : Bool :=
  c.ix.blipPulse.isNone && c.ix.edgePulse.isNone && !differs c.prof.edgeThreshold c.ix.refBlip blip
    && !differs c.prof.edgeThreshold c.ix.refEdge edge

/-- The film is held: the brake is on and the drives are off (R48, R49). -/
def Core.filmHeld (c : Core) : Bool := c.brake && !c.tr.drives

/-! ## The checks of an index record (R111)

Each on the header `h` and the body `bs`, which holds the entries, 24 bytes each, and then the tail stamp. -/

/-- STAMP: the head and tail Export Stamps are equal, and not 0. -/
abbrev stampsAgree (h bs : List Byte) : Prop := fieldAt h 0 4 ≠ 0 ∧ fieldAt bs (24 * fieldAt h 8 4) 4 = fieldAt h 0 4

/-- NUMBERING: each entry holds its own Frame Number. -/
abbrev framesNumbered (h bs : List Byte) : Prop := ∀ i, i < fieldAt h 8 4 → fieldAt bs (24 * i) 2 = i + 1

/-- ORDER: the first Leading Position is 0 or above, and each other is above its predecessor's. -/
abbrev leadsRise (h bs : List Byte) : Prop :=
  ∀ i, i < fieldAt h 8 4 → (if i = 0 then -1 else signedAt bs (24 * (i - 1) + 4) 4) < signedAt bs (24 * i + 4) 4

/-- FIELD: no Length is 0, no Origin above 2, no Blip Class above 3, and the last trailing edge is at most 16,000,000. -/
abbrev fieldsInRange (h bs : List Byte) : Prop :=
  (∀ i, i < fieldAt h 8 4 →
    fieldAt bs (24 * i + 8) 4 ≠ 0 ∧ byteAt bs (24 * i + 2) ≤ 2 ∧ byteAt bs (24 * i + 3) ≤ 3) ∧
  (0 < fieldAt h 8 4 →
    signedAt bs (24 * (fieldAt h 8 4 - 1) + 4) 4 + (fieldAt bs (24 * (fieldAt h 8 4 - 1) + 8) 4 : Int) ≤ 16000000)

end Sys2Proof.Machine
end

