-- ==== Sys2Proof/WellFormed.lean ====
section
/-!
DEFINITION. The operands a command can carry: converter codes in their width, slot numbers of the Request Board, window
offsets, link bytes and addresses in their ranges. A meaning does not rely on it; what it excludes cannot come from the
pins, the window or the link.
-/

namespace Sys2Proof

/-- A mark sensor level is 0 to 1023 (R87). -/
def levelOk (x : Nat) : Bool := decide (x ≤ 1023)

/-- A dancer code is 0 to 4095 (R57). -/
def codeOk (x : Nat) : Bool := decide (x ≤ 4095)

/-- A byte `k` of a message of `n` bytes that is answered NAK (R189). -/
def refusedOk (n : Nat) : Option Nat → Bool
  | none => true
  | some k => decide (1 ≤ k ∧ k ≤ n)

/-- The data of a read of `n` bytes (R6). -/
def readOk (n : Nat) : ReadEnd → Bool
  | .data bytes => decide (bytes.length = n)
  | .error => true

/-- A named read: the Request Board has 32 slots (R12). -/
def ReadTag.wf : ReadTag → Bool
  | .slot n => decide (n < 32)
  | .setup _ | .profile | .selectionMap | .importRecord | .reservation => true

/-- The ends of self-test tests: converter readings in their width (R203). -/
def TestEnd.wf : TestEnd → Bool
  | .references image blip edge supply takeUp =>
    levelOk image && levelOk blip && levelOk edge && codeOk supply && codeOk takeUp
  | .memory _ | .link | .film => true

/-- The bytes of a setup part (R7). -/
def SetupPart.length : SetupPart → Nat
  | .block => 1024
  | .extension => 112

/-- The well-formed commands. -/
def Instr.wf : Instr → Bool
  | .waBaseWrite _ _ => true
  | .enable w => !w.getLsbD 1
  | .softReset w => w.getLsbD 1
  | .holdClear w => w.getLsbD 2 && !w.getLsbD 1
  | .wake w => w.getLsbD 3 && !w.getLsbD 1
  | .post _ => true
  | .statusRead => true
  | .faultTopPop _ => true
  | .registerWriteIgnored offset whole _ =>
    decide (offset < 32) && (!whole || decide (offset = 0x10 ∨ offset = 0x18 ∨ offset = 0x1C))
  | .fullReset _ => true
  | .startUp => true
  | .selftestTestDone e => e.wf
  | .setupReadDone part r => readOk part.length r
  | .hostReadTimeout tag => tag.wf
  | .sweepTimerExpiry => true
  | .slotLook n r => decide (n < 32) && readOk 128 r
  | .profileReadDone r => readOk 256 r
  | .passChoice => true
  | .selectionMapReadDone _ => true
  | .memoryPortGrant => true
  | .returnDelayExpiry => true
  | .meteringCount _ image blip edge => levelOk image && levelOk blip && levelOk edge
  | .tachometerPulse _ => true
  | .profileTimerExpiry => true
  | .settleTimeout => true
  | .tensionRegulatorPeriod supply takeUp => codeOk supply && codeOk takeUp
  | .tensionEstablished => true
  | .outOfBandExpiry _ => true
  | .reelStall _ => true
  | .filmPresentChange _ => true
  | .extStopAssert => true
  | .extStopRelease => true
  | .threadFeedTimeout => true
  | .firstFrameSearchLimit => true
  | .unthreadTravelLimit => true
  | .wakeTimeout => true
  | .recoveryTensionTimeout => true
  | .relaxRampEnd => true
  | .indexTransferStart => true
  | .importReadDone _ => true
  | .exchange refused => refusedOk 2 refused
  | .changerPollTimer => true
  | .status bytes => decide (bytes.length = 3)
  | .exchangeTimeout => true
  | .survey bytes => decide (bytes.length = 5)
  | .bayEvent _ => true
  | .focusStepTick => true
  | .focusSettleDone => true
  | .reservationReadDone r => readOk 4 r
  | .reservationRereadTimer => true
  | .imageWaitExpiry => true
  | .cameraLine pixels => decide (pixels.length ≤ 8192)
  | .cameraTimeout => true
  | .flybyHoldLimit => true
  | .lampSet refused => refusedOk 2 refused
  | .lampOff refused => refusedOk 1 refused
  | .lampStatus bytes => decide (bytes.length = 2)
  | .lampPollTimer => true
  | .lampTimeout => true
  | .fixedWarmUpEnd => true
  | .busFree => true
  | .retryWaitEnd => true
  | .clockStretchLimit moved => decide (moved.getD 0 ≤ 32)
  | .lowLineLimit _ _ _ => true
  | .idleTimeExpiry => true
  | .dormantTimeExpiry => true
  | .addressNotAcknowledged => true
  | .lostArbitration moved => decide (moved.getD 0 ≤ 32)
  | .watchedAddressByte address _ => decide (address < 128)
  | .foreignStopCondition => true

end Sys2Proof
end

