-- ==== Sys2Proof/Certificates/Slice0/Obligations.lean ====
section
/-!
DEFINITION. The statements about the 760 for the provers. A completion statement gives the state a command leaves, most
often as `s.leaves c`: the core `c` it writes out, with the idle count and the escalation that follow every command and
with what `c` sent taken by the front. A hypothesis names only the state and the operands.
-/

open Sys2Proof Sys2Proof.Machine

/-! ## The block and its queue -/

/-- With a command at the front of its queue, a step is that command's effect with the queue's rest. -/
def Obligations.StepRunsFrontCommand : Prop :=
  ∀ (i : Instr) (rest : List Instr) (s : State), s.pending = i :: rest → step s = exec i { s with pending := rest }

/-- No command stops the block: each answers a next state, and leaves the queue to the step. The model's reading of the
table's rows, in which a command without its condition has no effect (notes/assumptions/2.md). -/
def Obligations.CommandsNeverStop : Prop :=
  ∀ (i : Instr) (s : State), ∃ t, exec i s = .next t ∧ t.pending = s.pending

/-- The invariant of the block is kept by every step: WA_BASE_LO's low 12 bits are 0, the Fault Queue holds at most 16
entries and the discard count at most 16,777,215, the Snapshot Stamp is at most 4,294,967,295, nothing sent to the front
is left, and an ending pass whose waits are over has its Return decided. -/
def Obligations.SoundKeptByEveryStep : Prop :=
  ∀ s t : State, s.sound = true → step s = .next t → t.sound = true

/-- The invariant holds after a full reset. -/
def Obligations.SoundAtReset : Prop := State.reset.sound = true

/-- A part held in a full reset takes no command but START_UP and a further FULL_RESET: only the levels of Film Present
and EXT_STOP follow their inputs, every other command leaves the part as it is, and the brake output stays on. That
another command arising here has no effect, and that the two inputs' levels are kept, are the model's reading
(notes/assumptions/2.md, notes/assumptions/8.md). -/
def Obligations.HeldPartDoesNothing : Prop :=
  ∀ (i : Instr) (s : State), s.core.modes.mode = .held → i ≠ .startUp → (∀ p, i ≠ .fullReset p) →
    ∀ p : Pins, (p = match i with
      | .filmPresentChange b => { s.core.pins with filmPresent := b }
      | .extStopAssert => { s.core.pins with extStop := true }
      | .extStopRelease => { s.core.pins with extStop := false }
      | _ => s.core.pins) →
    exec i s = .next { s with core := s.core.setPins p } ∧ (s.core.setPins p).brake = true

/-! ## The register window -/

/-- WA_BASE_HI takes the word written, WA_BASE_LO its bits 31..12, at once and in every mode but FAILED. R1's writes
without effect: to STATUS, FAULT_AUX and offset 1Ch and those that are not whole words in any mode, every write in
FAILED, and POST and FAULT_TOP in START-UP. -/
def Obligations.WindowWritesStoreOrDoNothing : Prop :=
  (∀ (v : Word32) (s : State), s.core.modes.mode ≠ .held → s.core.modes.mode ≠ .failed →
    exec (.waBaseWrite true v) s = .next { s with front := { s.front with waBaseHi := v } } ∧
    ∃ u : Word32, exec (.waBaseWrite false v) s = .next { s with front := { s.front with waBaseLo := u } } ∧
      ∀ i : Nat, i < 32 → u.getLsbD i = (decide (12 ≤ i) && v.getLsbD i)) ∧
  (∀ (o : Nat) (b : Bool) (w : Word32) (s : State), exec (.registerWriteIgnored o b w) s = .next s) ∧
  (∀ (h : Bool) (w : Word32) (s : State), s.core.modes.mode = .failed →
    exec (.waBaseWrite h w) s = .next s ∧ exec (.enable w) s = .next s ∧ exec (.softReset w) s = .next s ∧
    exec (.holdClear w) s = .next s ∧ exec (.wake w) s = .next s ∧ exec (.post w) s = .next s ∧
    exec (.faultTopPop w) s = .next s) ∧
  (∀ (w : Word32) (s : State), s.core.modes.mode = .startUp →
    exec (.post w) s = .next s ∧ exec (.faultTopPop w) s = .next s ∧
    (w.getLsbD 1 = true → exec (.softReset w) s = .next s))

/-- The ENABLE field: the latch takes the bit in START-UP; a rise in CONFIG WAIT with no setup read in progress begins
one, with the base latched and SETUP_BAD and Setup Reason cleared; elsewhere the field is ignored. -/
def Obligations.EnableBeginsSetupRead : Prop :=
  ∀ (w : Word32) (s : State), w.getLsbD 1 = false → w.getLsbD 2 = false →
    (s.core.modes.mode = .configWait → s.ready = true → s.core.port.setupRead = none → s.front.enable = false →
      w.getLsbD 0 = true →
      exec (.enable w) s = .next (State.leaves
        { s with front := { s.front with enable := true, setupBad := false, setupReason := 0 } }
        (s.core.setPort { s.core.port with
          setupRead := some {
            base := s.front.waBaseHi.toNat * 2 ^ 32 + s.front.waBaseLo.toNat, block := none, extension := none }
          boardQueue := s.core.port.boardQueue ++ [.setup .block, .setup .extension] }))) ∧
    (s.core.modes.mode = .startUp →
      exec (.enable w) s = .next { s with front := { s.front with enable := w.getLsbD 0 } }) ∧
    (s.core.modes.mode = .configWait → s.core.port.setupRead ≠ none → exec (.enable w) s = .next s) ∧
    (s.core.modes.mode = .run → exec (.enable w) s = .next s) ∧
    ((s.core.modes.mode = .standby ∨ s.core.modes.mode = .dormant) → w.getLsbD 3 = false →
      exec (.enable w) s = .next s)

/-- A soft reset in CONFIG WAIT, RUN, STANDBY or DORMANT. It enters CONFIG WAIT with Reset Cause SOFT, and clears the
latch, Hold, the causes, the Fault Queue, the snapshot mark, the Work Area in use, the reads and Returns waiting, the
requests, the Index Porter, the probe, the images, the sequence, the motion and the link's queue; it keeps WA_BASE, the
stamps, the profile sets, P, the reels' lengths, radii and the regulator's sums, the Focus Map and step counter, the
capture counter, the ring cursor and the bays, a link that is DOWN, and a message being taken, whose rest is discarded. A
moving transport brakes to HOLD, or is in HOLD at once from a creep or a settle; a wake in HOLD goes on; a threading or an
unthreading brakes; a tension test is abandoned with the drives off; the other states stay. Of the Frame Index it keeps
the entries, the frontier, the drift, the pitch, the gap, the references, the import, the predicted run, LOST, Full, the
splice mark and the wake mark, and drops the open run, the open frame, the pulses and the staged import; here with no frame
that is closed and still waits for its blip, which the end of the motion appends. That a link in LISTEN is IDLE at once is
the model's choice (notes/assumptions/89.md). -/
def Obligations.SoftResetClearsAndKeeps : Prop :=
  ∀ (w : Word32) (s : State), w.getLsbD 1 = true →
    (s.core.modes.mode = .configWait ∨ s.core.modes.mode = .run ∨ s.core.modes.mode = .standby ∨
      s.core.modes.mode = .dormant) →
    ∃ t, exec (.softReset w) s = .next t ∧
      (t.core.modes.mode = .configWait ∧ t.core.modes.progress = 0x80 ∧ t.core.modes.resetCause = .soft ∧
        t.core.modes.idle = none ∧ t.core.modes.dormant = none) ∧
      (t.front.enable = false ∧ t.front.hold = false ∧ t.front.causeReturn = false ∧ t.front.causeFault = false ∧
        t.front.causeSnapshot = false ∧ t.front.setupBad = false ∧ t.front.setupReason = 0 ∧ t.front.faults = [] ∧
        t.front.overflow = false ∧ t.front.discards = 0 ∧ t.front.snapMark = .idle) ∧
      (t.front.waBaseLo = s.front.waBaseLo ∧ t.front.waBaseHi = s.front.waBaseHi ∧
        t.front.snapStamp = s.front.snapStamp) ∧
      (t.core.port.workArea = none ∧ t.core.port.setupRead = none ∧ t.core.port.sweepTimer = none ∧
        t.core.port.boardQueue = [] ∧ t.core.port.boardFlight = [] ∧ t.core.port.sweepEnded = [] ∧
        t.core.port.dropped = [] ∧ t.core.port.results = [] ∧ t.core.port.last = s.core.port.last) ∧
      (t.core.rm = ReqMgr.reset ∧ t.core.porter = Porter.reset) ∧
      (t.core.store.setA = s.core.store.setA ∧ t.core.store.setB = s.core.store.setB ∧
        t.core.store.active = s.core.store.active ∧ t.core.store.pending = s.core.store.pending ∧
        t.core.store.load = none) ∧
      (t.core.tr.p = s.core.tr.p ∧ t.core.tr.reelTypes = s.core.tr.reelTypes ∧ t.core.tr.geometry = s.core.tr.geometry ∧
        t.core.tr.supply.radius = s.core.tr.supply.radius ∧ t.core.tr.supply.length = s.core.tr.supply.length ∧
        t.core.tr.takeUp.radius = s.core.tr.takeUp.radius ∧ t.core.tr.takeUp.length = s.core.tr.takeUp.length ∧
        t.core.tr.supplyDancer.sum = s.core.tr.supplyDancer.sum ∧
        t.core.tr.takeUpDancer.sum = s.core.tr.takeUpDancer.sum ∧
        t.core.tr.waiting = none ∧ t.core.tr.waitingUnthread = false ∧ t.core.tr.rollWaits = false) ∧
      (s.core.tr.st = .move → t.core.tr.plan = none ∧
        (s.core.tr.phase = .creep ∨ s.core.tr.phase = .settle ∨ s.core.tr.phase = .brake .creepEnd →
          t.core.tr.st = .hold ∧ t.core.tr.tensioning = false ∧ t.core.tr.vRef = 0) ∧
        (∀ g, s.core.tr.phase = .accel ∨ s.core.tr.phase = .cruise ∨ s.core.tr.phase = .brake g ∧ g ≠ .creepEnd →
          0 < s.core.tr.vRef →
          t.core.tr.st = .move ∧ t.core.tr.phase = .brake .softReset ∧ t.core.tr.vRef = s.core.tr.vRef)) ∧
      (s.core.tr.st = .hold → t.core.tr.st = .hold ∧ t.core.tr.tensioning = s.core.tr.tensioning ∧
        t.core.tr.wakeCount = s.core.tr.wakeCount) ∧
      (s.core.tr.st = .threading ∨ s.core.tr.st = .unthreading →
        t.core.tr.st = s.core.tr.st ∧ t.core.tr.resetBraking = true ∧ t.core.tr.vRef = s.core.tr.vRef) ∧
      (s.core.tr.st = .unreferenced → t.core.tr.st = .unreferenced ∧ t.core.tr.tensionTest = false ∧
        t.core.tr.testCount = none ∧ t.core.tr.drives = false ∧ t.core.tr.brakeDemand = true) ∧
      (s.core.tr.st = .unthreaded ∨ s.core.tr.st = .relaxed ∨ s.core.tr.st = .fault →
        t.core.tr = s.core.tr.abandon ∧ t.core.tr.st = s.core.tr.st ∧ t.core.tr.vRef = s.core.tr.vRef) ∧
      (t.core.focus.map = s.core.focus.map ∧ t.core.focus.counter = s.core.focus.counter ∧
        t.core.focus.probe = none ∧ t.core.focus.placement = none ∧ t.core.focus.held = []) ∧
      (t.core.cap.counter = s.core.cap.counter ∧ t.core.cap.cursor = s.core.cap.cursor ∧ t.core.cap.inHand = none ∧
        t.core.cap.filling = [] ∧ t.core.cap.fifo = [] ∧ t.core.cap.camHold = false ∧ t.core.cap.lamp.st = .off ∧
        t.core.cap.lamp.present = s.core.cap.lamp.present) ∧
      (t.core.roll.bays = s.core.roll.bays ∧ t.core.roll.cassette = s.core.roll.cassette ∧ t.core.roll.seq = none) ∧
      (t.core.link.queue = [] ∧ t.core.link.waiting = [] ∧ t.core.link.address = s.core.link.address ∧
        t.core.link.fast = s.core.link.fast ∧ (s.core.link.st = .down → t.core.link.st = .down) ∧
        (s.core.link.st = .target → t.core.link.st = .target ∧ t.core.link.dropMessage = true) ∧
        (s.core.link.st ≠ .down → s.core.link.st ≠ .target → t.core.link.st = .idle)) ∧
      (t.core.ix.motion = none ∧ t.core.ix.staged = none ∧ t.core.ix.exportStamp = s.core.ix.exportStamp ∧
        t.core.ix.unit = .off ∧ t.core.ix.openFrame = none ∧ t.core.ix.waitingFrame = none ∧
        t.core.ix.detector.run = none) ∧
      (s.core.ix.waitingFrame = none → t.core.ix = { s.core.ix with
        detector := { s.core.ix.detector with run := none }, unit := .off, motion := none, openFrame := none
        blipPulse := none, pendingPulse := none, edgePulse := none, staged := none, searching := false
        begins := false })

/-- R19: raising a cause sets it, and sends the message and sets Hold when Hold is clear, in the modes that send; while
Hold is set, and in START-UP and FAILED, the cause only stays pending. HOLD_CLEAR clears Hold and sends again when a
cause is pending. -/
def Obligations.InterruptMessageAndHold : Prop :=
  (∀ (c : Core) (f : Front),
    (f.raiseReturn c).causeReturn = true ∧ (f.raiseFaultCause c).causeFault = true ∧
    (f.raiseSnapshot c).causeSnapshot = true) ∧
  (∀ (c : Core) (f : Front), c.modes.mode.sends = true → f.hold = false →
    (f.raiseReturn c).hold = true ∧ (f.raiseFaultCause c).hold = true ∧ (f.raiseSnapshot c).hold = true ∧
    (f.raiseReturn c).msiSent = (if c.pins.msiEnabled then f.msiSent + 1 else f.msiSent) ∧
    (f.raiseFaultCause c).msiSent = (if c.pins.msiEnabled then f.msiSent + 1 else f.msiSent) ∧
    (f.raiseSnapshot c).msiSent = (if c.pins.msiEnabled then f.msiSent + 1 else f.msiSent)) ∧
  (∀ (c : Core) (f : Front), f.hold = true ∨ c.modes.mode = .startUp ∨ c.modes.mode = .failed →
    f.raiseReturn c = { f with causeReturn := true } ∧ f.raiseFaultCause c = { f with causeFault := true } ∧
    f.raiseSnapshot c = { f with causeSnapshot := true }) ∧
  (∀ (w : Word32) (s : State), w.getLsbD 1 = false → w.getLsbD 2 = true → w.getLsbD 3 = false →
    (s.core.modes.mode = .run ∨ s.core.modes.mode = .standby ∨ s.core.modes.mode = .dormant ∨
      s.core.modes.mode = .configWait ∧ (s.core.port.setupRead ≠ none ∨ w.getLsbD 0 = s.front.enable)) →
    exec (.holdClear w) s = .next { s with front := { s.front with
      hold := s.front.causeReturn || s.front.causeFault || s.front.causeSnapshot
      msiSent :=
        if (s.front.causeReturn || s.front.causeFault || s.front.causeSnapshot) && s.core.pins.msiEnabled then
          s.front.msiSent + 1
        else s.front.msiSent } })

/-- A write of CONTROL with WAKE, or any write to POST, returns the part from STANDBY or DORMANT to RUN: the dormant
count stops, the sweep timer is loaded on a return from DORMANT, the lamp is warming, a RELAXED transport is in its
wake, and a snapshot with trigger MODE and its signal flag set is begun. HOLD_CLEAR in the same word acts as well; the
POST write asks for the reads of its named LOOKABLE slots, and the CONTROL write for none. A transport in FAULT refuses
the wake. -/
def Obligations.WakeEventsReturnToRun : Prop :=
  ∀ (i : Instr) (s : State), s.ready = true →
    (s.core.modes.mode = .standby ∨ s.core.modes.mode = .dormant) →
    ((∃ w : Word32, i = .wake w ∧ w.getLsbD 1 = false ∧ w.getLsbD 3 = true) ∨ ∃ b, i = .post b) →
    s.core.cap.stop = none → s.core.cap.flyby = none → s.core.focus.probe = none →
    ∃ t, exec i s = .next t ∧ t.core.modes.mode = .run ∧ t.core.modes.dormant = none ∧
      (s.core.modes.mode = .dormant → s.core.port.setup.sweepInterval ≠ 0 → t.core.port.sweepTimer = some s.core.now) ∧
      t.core.cap.lamp.st = .warming ∧
      (s.core.tr.st = .relaxed → t.core.tr.st = .hold ∧ t.core.tr.tensioning = true ∧
        t.core.tr.wakeCount = some s.core.now ∧ t.core.tr.wakeWaits = true) ∧
      (s.core.tr.st = .fault → t.core.tr = s.core.tr ∧ t.core.modes.reply = some .refused) ∧
      (s.core.tr.st = .unthreaded → t.core.tr = s.core.tr ∧ t.core.modes.reply = some .awake) ∧
      (s.core.port.workArea.isSome = true → s.front.snapMark = .idle →
        t.front.snapStamp = nextStamp 4294967295 s.front.snapStamp ∧
        t.front.snapMark = .writing
          (snapshotWrites s.front t.core (nextStamp 4294967295 s.front.snapStamp) { mode := true } true) true none) ∧
      (∀ w : Word32, i = .wake w → t.core.port.boardQueue = s.core.port.boardQueue ∧
        (w.getLsbD 2 = false → t.front.hold = s.front.hold ∧ t.front.msiSent = s.front.msiSent) ∧
        (w.getLsbD 2 = true → t.front.hold = (s.front.causeReturn || s.front.causeFault || s.front.causeSnapshot))) ∧
      (∀ b, i = .post b → ∃ l : List Nat,
        t.core.port.boardQueue = s.core.port.boardQueue ++ l.map (fun n => .slot n false) ∧ l.Pairwise (· < ·) ∧
        ∀ n, n ∈ l ↔ n < 32 ∧ b.getLsbD n = true ∧ s.core.rm.slots[n]? = some .lookable) ∧
      t.front.causeReturn = s.front.causeReturn ∧ t.front.causeFault = s.front.causeFault ∧
      t.front.causeSnapshot = s.front.causeSnapshot ∧
      t.core.ix = s.core.ix ∧ t.core.focus = s.core.focus ∧ t.core.roll = s.core.roll ∧ t.core.rm = s.core.rm

/-- A POST write in RUN asks for a read of each named slot that is LOOKABLE, in ascending slot order, and of no other;
in CONFIG WAIT it has no effect. -/
def Obligations.PostReadsNamedLookableSlots : Prop :=
  (∀ (b : Word32) (s : State), s.core.modes.mode = .run → s.ready = true →
    ∃ l : List Nat, exec (.post b) s = .next (s.leaves (s.core.setPort { s.core.port with
        boardQueue := s.core.port.boardQueue ++ l.map fun n => .slot n false })) ∧
      l.Pairwise (· < ·) ∧
      ∀ n, n ∈ l ↔ n < 32 ∧ b.getLsbD n = true ∧ s.core.rm.slots[n]? = some .lookable) ∧
  (∀ (b : Word32) (s : State), s.core.modes.mode = .configWait → exec (.post b) s = .next s)

/-- Reads of the register window. A read of STATUS answers the word of the present state, and clears the three cause fields
and nothing else. WA_BASE reads as its two words, FAULT_TOP and FAULT_AUX as the oldest entry of the Fault Queue or 0, and
every other offset, and an access that is no whole word, as 0. The STATUS word's fields: Progress in bits 7..0, Mode in
10..8, Reset Cause in 12..11, Hold, the three causes, Fault Count in 21..17, Overflow, SETUP_BAD and Setup Reason in
27..24. -/
def Obligations.StatusReadAnswersAndClears : Prop :=
  (∀ s : State, s.core.modes.mode ≠ .held →
    exec .statusRead s = .next { s with front := { s.front with
      busReply := statusWord s.front s.core.modes, causeReturn := false, causeFault := false,
      causeSnapshot := false } }) ∧
  (∀ (f : Front) (m : Modes), m.progress < 256 → f.faults.length ≤ 16 → f.setupReason < 16 →
    ((statusWord f m).extractLsb' 0 8).toNat = m.progress ∧
    ((statusWord f m).extractLsb' 8 3).toNat = m.mode.code ∧
    ((statusWord f m).extractLsb' 11 2).toNat = m.resetCause.code ∧
    (statusWord f m).getLsbD 13 = f.hold ∧
    (statusWord f m).getLsbD 14 = f.causeReturn ∧
    (statusWord f m).getLsbD 15 = f.causeFault ∧
    (statusWord f m).getLsbD 16 = f.causeSnapshot ∧
    ((statusWord f m).extractLsb' 17 5).toNat = f.faults.length ∧
    (statusWord f m).getLsbD 22 = f.overflow ∧
    (statusWord f m).getLsbD 23 = f.setupBad ∧
    ((statusWord f m).extractLsb' 24 4).toNat = f.setupReason ∧
    ((statusWord f m).extractLsb' 28 4).toNat = 0) ∧
  (∀ (f : Front) (m : Modes),
    readWindow f m 0x00 true = f.waBaseLo ∧ readWindow f m 0x04 true = f.waBaseHi ∧
    readWindow f m 0x10 true = statusWord f m ∧
    (f.faults = [] → readWindow f m 0x14 true = 0 ∧ readWindow f m 0x18 true = 0) ∧
    (∀ e l, f.faults = e :: l →
      (readWindow f m 0x14 true).extractLsb' 0 24 = e.info ∧
      ((readWindow f m 0x14 true).extractLsb' 24 8).toNat = e.name.code ∧
      (readWindow f m 0x18 true).extractLsb' 0 28 = e.aux ∧
      ((readWindow f m 0x18 true).extractLsb' 28 4).toNat = e.source.code) ∧
    (∀ o, o ≠ 0x00 → o ≠ 0x04 → o ≠ 0x10 → o ≠ 0x14 → o ≠ 0x18 → readWindow f m o true = 0) ∧
    ∀ o, readWindow f m o false = 0)

/-! ## The Fault Queue -/

/-- R200: what a write to FAULT_TOP does, with the two orders of a pop and a newly raised fault. -/
def Obligations.FaultTopPopRemovesOldest : Prop :=
  (∀ (w : Word32) (s : State), s.core.modes.mode ≠ .held → s.core.modes.mode ≠ .failed →
    s.core.modes.mode ≠ .startUp →
    exec (.faultTopPop w) s = .next { s with front := s.front.pop s.core }) ∧
  (∀ (w : Word32) (s : State), s.core.modes.mode = .failed ∨ s.core.modes.mode = .startUp →
    exec (.faultTopPop w) s = .next s) ∧
  (∀ (c : Core) (f : Front), 2 ≤ f.faults.length → f.pop c = { f with faults := f.faults.tail }) ∧
  (∀ (c : Core) (f : Front), f.faults.length ≤ 1 → f.overflow = false ∨ f.discards = 0 →
    f.pop c = { f with faults := [], overflow := false }) ∧
  (∀ (c : Core) (f : Front), f.faults.length ≤ 1 → f.overflow = true → 0 < f.discards →
    (f.pop c).faults = [⟨.faultsDiscarded, .faultQueue, BitVec.ofNat 24 f.discards, 0⟩]
      ∧ (f.pop c).overflow = false ∧ (f.pop c).discards = 0 ∧ (f.pop c).causeFault = true) ∧
  (∀ (c : Core) (f : Front), f.faults = [] → f.overflow = false → f.pop c = f) ∧
  (∀ (c : Core) (f : Front) (e : FaultEntry), f.faults.length ≤ 1 → f.overflow = true → 0 < f.discards →
    ((f.pop c).raiseFault c e).faults =
      [⟨.faultsDiscarded, .faultQueue, BitVec.ofNat 24 f.discards, 0⟩, e]) ∧
  (∀ (c : Core) (f : Front) (e : FaultEntry), f.overflow = false → f.faults.length ≤ 16 →
    ((f.pop c).raiseFault c e).faults = f.faults.tail ++ [e] ∧ ((f.pop c).raiseFault c e).overflow = false ∧
    ((f.pop c).raiseFault c e).causeFault = true) ∧
  (∀ (c : Core) (f : Front) (e : FaultEntry), 16 ≤ f.faults.length ∨ f.overflow = true → 2 ≤ f.faults.length →
    (f.raiseFault c e).pop c = { f.raiseFault c e with faults := f.faults.tail } ∧
    (f.raiseFault c e).discards = min (f.discards + 1) 16777215) ∧
  (∀ (c : Core) (f : Front) (e : FaultEntry), f.faults.length ≤ 1 → f.overflow = true →
    ((f.raiseFault c e).pop c).faults =
      [⟨.faultsDiscarded, .faultQueue, BitVec.ofNat 24 (min (f.discards + 1) 16777215), 0⟩] ∧
    ((f.raiseFault c e).pop c).discards = 0) ∧
  (∀ (c : Core) (f : Front) (e : FaultEntry), f.faults.length < 16 → f.overflow = false →
    ((f.raiseFault c e).pop c).faults = (f.faults ++ [e]).tail)

/-- R21: FAULT is raised by each entry that joins and by no discarded fault, and SNAPSHOT by each completed snapshot
whose signal flag is set. A snapshot is written head stamp first, tail stamp last, with the fields of R23's record as they
stand when its first write begins; a trigger that meets a write in progress is merged into its follow-up, whose triggers
are the union of those held and whose signal flag is set if one of theirs is, and which begins, sampled afresh, when the
write in progress is completed. -/
def Obligations.FaultAndSnapshotCauses : Prop :=
  (∀ (c : Core) (f : Front) (e : FaultEntry), f.faults.length < 16 → f.overflow = false →
    (f.raiseFault c e).faults = f.faults ++ [e] ∧ (f.raiseFault c e).causeFault = true) ∧
  (∀ (c : Core) (f : Front) (e : FaultEntry), 16 ≤ f.faults.length ∨ f.overflow = true →
    (f.raiseFault c e).faults = f.faults ∧ (f.raiseFault c e).causeFault = f.causeFault ∧
    (f.raiseFault c e).overflow = true ∧ (f.raiseFault c e).discards = min (f.discards + 1) 16777215) ∧
  (∀ (c : Core) (f : Front) (x : Nat × List Byte) (u : Option (Triggers × Bool)), f.snapMark = .writing [x] true u →
    (f.snapshotIssued c).causeSnapshot = true) ∧
  (∀ (c : Core) (f : Front) (x : Nat × List Byte) (u : Option (Triggers × Bool)), f.snapMark = .writing [x] false u →
    (f.snapshotIssued c).causeSnapshot = f.causeSnapshot) ∧
  (∀ (c : Core) (f : Front) (x y : Nat × List Byte) (l : List (Nat × List Byte)) (b : Bool)
    (u : Option (Triggers × Bool)), f.snapMark = .writing (x :: y :: l) b u →
    f.snapshotIssued c = { f with snapMark := .writing (y :: l) b u }) ∧
  (∀ (c : Core) (f : Front) (g : Triggers) (b : Bool), c.port.workArea = none → f.trigger c g b = f) ∧
  (∀ (c : Core) (f : Front) (g : Triggers) (b d : Bool) (left : List (Nat × List Byte)), c.port.workArea ≠ none →
    f.snapMark = .writing left d none → f.trigger c g b = { f with snapMark := .writing left d (some (g, b)) }) ∧
  (∀ (c : Core) (f : Front) (g h : Triggers) (a b d : Bool) (left : List (Nat × List Byte)), c.port.workArea ≠ none →
    f.snapMark = .writing left d (some (h, a)) → f.trigger c g b = { f with
      snapMark := .writing left d (some ({
        setup := h.setup || g.setup, mode := h.mode || g.mode, mountDone := h.mountDone || g.mountDone
        unmountDone := h.unmountDone || g.unmountDone, passEnd := h.passEnd || g.passEnd, fault := h.fault || g.fault
        mapEmptied := h.mapEmptied || g.mapEmptied }, a || b)) }) ∧
  (∀ (c : Core) (f : Front) (x : Nat × List Byte) (g : Triggers) (a b : Bool) (stamp : Nat),
    f.snapMark = .writing [x] b (some (g, a)) →
    stamp = (if 4294967295 ≤ f.snapStamp then 1 else f.snapStamp + 1) →
    (f.snapshotIssued c).snapStamp = stamp ∧
    (f.snapshotIssued c).snapMark = .writing (snapshotWrites f c stamp g a) a none) ∧
  (∀ (c : Core) (f : Front) (x : Nat × List Byte) (b : Bool), f.snapMark = .writing [x] b none →
    (f.snapshotIssued c).snapStamp = f.snapStamp ∧ (f.snapshotIssued c).snapMark = .idle) ∧
  (∀ (c : Core) (f : Front) (g : Triggers) (b : Bool) (stamp : Nat), c.port.workArea ≠ none → f.snapMark = .idle →
    stamp = (if 4294967295 ≤ f.snapStamp then 1 else f.snapStamp + 1) →
    ∃ body : List Byte,
      f.trigger c g b = { f with
        snapStamp := stamp
        snapMark := .writing [(0x00, bytesOf 4 stamp), (0x04, body), (0x20, bytesOf 4 c.cap.counter),
          (0xFC, bytesOf 4 stamp)] b none } ∧
      body.length = 26 ∧
      ((fieldAt body 0 2).testBit 0 = g.setup ∧ (fieldAt body 0 2).testBit 1 = g.mode ∧
        (fieldAt body 0 2).testBit 2 = g.mountDone ∧ (fieldAt body 0 2).testBit 3 = g.unmountDone ∧
        (fieldAt body 0 2).testBit 4 = g.passEnd ∧ (fieldAt body 0 2).testBit 5 = g.fault ∧
        (fieldAt body 0 2).testBit 6 = g.mapEmptied ∧ (fieldAt body 0 2).testBit 15 = b) ∧
      fieldAt body 2 1 = c.modes.mode.code ∧ fieldAt body 3 1 = c.tr.st.code ∧
      (-2147483648 ≤ c.tr.p → c.tr.p ≤ 2147483647 → signedAt body 4 4 = c.tr.p) ∧
      (∀ d, c.roll.mounted = some d → d < 256 → fieldAt body 8 1 = d) ∧ (c.roll.mounted = none → fieldAt body 8 1 = 0) ∧
      (c.prof.id < 256 → fieldAt body 9 1 = c.prof.id) ∧ (c.modes.progress < 256 → fieldAt body 10 1 = c.modes.progress) ∧
      (f.faults.length ≤ 16 → fieldAt body 11 1 = f.faults.length + (if f.overflow then 128 else 0)) ∧
      (c.mountedRoll < 4294967296 → fieldAt body 12 4 = c.mountedRoll) ∧
      (-2147483648 ≤ c.ix.frontier → c.ix.frontier ≤ 2147483647 → signedAt body 16 4 = c.ix.frontier) ∧
      (c.ix.entries.length < 65536 → fieldAt body 20 2 = c.ix.entries.length) ∧
      (-32768 ≤ c.ix.drift → c.ix.drift ≤ 32767 → signedAt body 22 2 = c.ix.drift) ∧
      (c.rm.pendingSet.length < 256 → fieldAt body 24 1 = c.rm.pendingSet.length) ∧
      (c.rm.pass = none → fieldAt body 25 1 = 255) ∧
      (∀ p, c.rm.pass = some p → p.slot < 256 →
        fieldAt body 25 1 = (match p.kind with | .request _ => p.slot | _ => 255)))

/-! ## Resets and start-up -/

/-- A full reset holds the part with the brake on, and START-UP begins the self-test: the latches, causes and queues are
clear, and each block holds its full-reset values: no Work Area is in use and no read waits or is in flight, no bay is
in use, every bay record is EMPTY with its fields absent, no cassette is at the transport and no sequence runs, and the
Index Porter is free. The bay count of 0 and SINGLE mode before the changer check are the model's values, and so is the
lamp's ABSENT (notes/assumptions/39.md). Reset Cause is POWER when power-on was part of the reset. -/
def Obligations.FullResetThenStartUp : Prop :=
  ∀ (p : Bool) (s : State), ∃ t u,
    exec (.fullReset p) s = .next t ∧ t.core.modes.mode = .held ∧ t.core.brake = true ∧ t.core.tr.drives = false ∧
    exec .startUp t = .next u ∧ u.core.modes.mode = .startUp ∧ u.core.modes.progress = 1 ∧
    u.core.modes.resetCause =
      (if p || (decide (s.core.modes.mode = .held) && s.core.modes.powerOn) then .power else .pin) ∧
    (u.front.faults = [] ∧ u.front.overflow = false ∧ u.front.discards = 0 ∧ u.front.enable = false ∧
      u.front.hold = false ∧ u.front.causeReturn = false ∧ u.front.causeFault = false ∧
      u.front.causeSnapshot = false ∧ u.front.waBaseLo = 0 ∧ u.front.waBaseHi = 0) ∧
    (u.core.tr.p = 0 ∧ u.core.tr.st = .unthreaded ∧ u.core.tr.vRef = 0 ∧ u.core.tr.supply.radius = none ∧
      u.core.tr.takeUp.radius = none ∧ u.core.tr.geometry = none) ∧
    (u.core.ix.entries = [] ∧ u.core.ix.frontier = 0 ∧ u.core.ix.drift = 0 ∧ u.core.ix.exportStamp = 1) ∧
    (u.core.focus.counter = 0 ∧ u.core.focus.homing = 4096 ∧ u.core.focus.st = .moving .park ∧
      u.core.focus.map = List.replicate 128 none) ∧
    (u.core.cap.counter = 1 ∧ u.core.cap.cursor = 0 ∧ u.core.cap.filling = [] ∧ u.core.cap.lamp.st = .off) ∧
    (u.core.store.setA = none ∧ u.core.store.setB = none ∧ u.core.store.active = none ∧ u.core.store.pending = none) ∧
    (u.core.roll.bays.length = 8 ∧
      (∀ b ∈ u.core.roll.bays, b.st = .empty ∧ b.roll = none ∧ b.saveAddress = none ∧ b.saved = none) ∧
      u.core.roll.bayCount = 0 ∧ u.core.roll.changer = false ∧ u.core.roll.checked = false ∧
      u.core.roll.cassette = none ∧ u.core.roll.seq = none ∧ u.core.cap.lamp.present = false) ∧
    (u.core.porter.waiting = [] ∧ u.core.porter.job = .idle) ∧
    (u.core.port.workArea = none ∧ u.core.port.setupRead = none ∧ u.core.port.sweepTimer = none ∧
      u.core.port.boardQueue = [] ∧ u.core.port.boardFlight = [] ∧ u.core.port.sweepEnded = [] ∧
      u.core.port.dropped = [] ∧ u.core.port.results = [] ∧ u.core.port.escalated = false) ∧
    u.core.rm = ReqMgr.reset ∧ u.core.link.fast = false ∧ u.core.link.queue = [] ∧
    u.core.link.address = 0x40 + s.core.pins.strapAddress

/-- The self-test's tests and their ends. A test that passes brings the next one; a failure of 01h to 04h is fatal: FAILED
with the failing code and its SELFTEST fault, and no message. A failure of 05h to 07h queues SELFTEST with its code, and
the next test begins. The link is open from the end of 05h on, LAMP STATUS is submitted for 06h and SURVEY for 07h, which
fail at once on a link that is DOWN. Test 08h enters CONFIG WAIT with the film found, and with the Enable latch set a
setup read begins. A link test that is undecided does not end. -/
def Obligations.SelfTestAdvancesOrFails : Prop :=
  ∀ s : State, s.core.modes.mode = .startUp → s.ready = true →
    (1 ≤ s.core.modes.progress → s.core.modes.progress ≤ 3 →
      exec (.selftestTestDone (.memory true)) s = .next (s.leaves (s.core.setModes { s.core.modes with
        progress := s.core.modes.progress + 1, linkResult := none })) ∧
      ∃ t, exec (.selftestTestDone (.memory false)) s = .next t ∧ t.core.modes.mode = .failed ∧
        t.core.modes.progress = s.core.modes.progress ∧ t.core.tr = s.core.tr ∧
        t.front.faults = s.front.queued
          ⟨.selftest, .selfTest, BitVec.ofNat 24 s.core.modes.progress, 0⟩ ∧
        t.front.msiSent = s.front.msiSent) ∧
    (s.core.modes.progress = 4 → ∀ a b d e f : Nat,
      (480 ≤ a ∧ a ≤ 544 ∧ 480 ≤ b ∧ b ≤ 544 ∧ 480 ≤ d ∧ d ≤ 544 ∧ 2016 ≤ e ∧ e ≤ 2080 ∧ 2016 ≤ f ∧ f ≤ 2080 →
        exec (.selftestTestDone (.references a b d e f)) s = .next (s.leaves ((s.core.setModes { s.core.modes with
          progress := 5, linkResult := none }).setLink { s.core.link with freeCount := some s.core.now }))) ∧
      (¬(480 ≤ a ∧ a ≤ 544 ∧ 480 ≤ b ∧ b ≤ 544 ∧ 480 ≤ d ∧ d ≤ 544 ∧ 2016 ≤ e ∧ e ≤ 2080 ∧ 2016 ≤ f ∧ f ≤ 2080) →
        ∃ t, exec (.selftestTestDone (.references a b d e f)) s = .next t ∧ t.core.modes.mode = .failed ∧
          t.core.modes.progress = 4 ∧ t.core.tr = s.core.tr ∧
          t.front.faults = s.front.queued ⟨.selftest, .selfTest, 4#24, 0⟩ ∧ t.front.msiSent = s.front.msiSent)) ∧
    (∀ (n : Nat) (ok : Bool), (n = 5 ∨ n = 6 ∨ n = 7) → s.core.modes.progress = n → s.core.modes.linkResult = some ok →
      ∃ t, exec (.selftestTestDone .link) s = .next t ∧ t.core.modes.mode = .startUp ∧ t.core.modes.progress = n + 1 ∧
        t.core.tr = s.core.tr ∧ t.front.msiSent = s.front.msiSent ∧
        t.front.faults = (if ok then s.front.faults
          else s.front.queued ⟨.selftest, .selfTest, BitVec.ofNat 24 n, 0⟩) ∧
        (n = 5 → t.core.link.opened = true) ∧
        (n = 7 → t.core.link = s.core.link ∧ t.core.roll = s.core.roll ∧ t.core.modes.linkResult = none) ∧
        (n ≠ 7 → s.core.link.st = .idle → s.core.link.queue = [] →
          t.core.modes.linkResult = none ∧ t.core.roll = s.core.roll ∧ t.core.cap = s.core.cap ∧
          t.core.link.st = .waitFree ∧
          t.core.link.queue = [{ msg := if n = 5 then .lampStatus 0 else .survey, by' := .startUp }]) ∧
        (n ≠ 7 → s.core.link.st = .down →
          t.core.modes.linkResult = some false ∧ t.core.link.st = .down ∧ t.core.link.queue = s.core.link.queue ∧
          (n = 5 → t.core.cap.lamp.present = false ∧ t.core.roll = s.core.roll) ∧
          (n = 6 → t.core.roll.changer = false ∧ t.core.roll.bayCount = 1 ∧ t.core.cap = s.core.cap))) ∧
    (s.core.modes.linkResult = none → exec (.selftestTestDone .link) s = .next (s.leaves s.core)) ∧
    (s.core.modes.progress = 8 → s.front.enable = false →
      exec (.selftestTestDone .film) s = .next (s.leaves ((s.core.setTr { s.core.tr with
          st := if s.core.pins.filmPresent then .unreferenced else .unthreaded }).setModes { s.core.modes with
        mode := .configWait, progress := 0x80, linkResult := none }))) ∧
    (s.core.modes.progress = 8 → s.front.enable = true →
      ∃ t, exec (.selftestTestDone .film) s = .next t ∧ t.core.modes.mode = .configWait ∧
        t.core.modes.progress = 0x80 ∧
        t.core.tr.st = (if s.core.pins.filmPresent then .unreferenced else .unthreaded) ∧
        t.core.port.setupRead = some {
          base := s.front.waBaseHi.toNat * 2 ^ 32 + s.front.waBaseLo.toNat, block := none, extension := none } ∧
        t.core.port.boardQueue = s.core.port.boardQueue ++ [.setup .block, .setup .extension] ∧
        t.front.setupBad = false ∧ t.front.setupReason = 0 ∧ t.front.enable = true)

/-- The idle count's expiry takes the part to STANDBY: the transport relaxes, the lamp goes off, with LAMP OFF submitted
where lamp control is PRESENT, the dormant count starts, and a snapshot with trigger MODE and its signal flag set is
begun. The dormant count's expiry takes it to DORMANT, and the sweep timer stops; with a Dormant Time of 0 it stays in
STANDBY. -/
def Obligations.IdleAndDormantExpiries : Prop :=
  (∀ s : State, s.core.modes.mode = .run → s.ready = true → s.core.modes.idle ≠ none →
    (s.core.cap.lamp.present = true → s.core.link.st ≠ .down ∧ s.core.link.queue.length < 8) →
    ∃ t, exec .idleTimeExpiry s = .next t ∧ t.core.modes.mode = .standby ∧
      t.core.modes.progress = s.core.modes.progress ∧ t.core.modes.dormant = some s.core.now ∧
      t.core.cap.lamp.st = .off ∧ t.core.cap.lamp.fixed = none ∧ t.core.cap.lamp.polling = false ∧
      (s.core.cap.lamp.present = false → t.core.link = s.core.link) ∧
      (s.core.cap.lamp.present = true → t.core.link = { s.core.link with
        queue := s.core.link.queue ++ [{ msg := .lampOff, by' := .captureUnit }]
        st := if s.core.link.st = .idle then .waitFree else s.core.link.st }) ∧
      (s.core.tr.steady = true → t.core.tr = { s.core.tr with relaxRamp := some s.core.now }) ∧
      (s.core.tr.st = .unthreaded → t.core.tr = s.core.tr ∧ t.core.modes.reply = some .relaxed) ∧
      t.core.rm = s.core.rm ∧ t.core.roll = s.core.roll ∧ t.core.ix = s.core.ix ∧
      t.front.faults = s.front.faults ∧
      (s.core.port.workArea.isSome = true → s.front.snapMark = .idle →
        t.front.snapMark = .writing
          (snapshotWrites s.front t.core (nextStamp 4294967295 s.front.snapStamp) { mode := true } true) true none)) ∧
  (∀ s : State, s.core.modes.mode = .standby → s.ready = true → s.core.modes.dormant ≠ none →
    s.core.port.setup.dormantTime ≠ 0 →
    exec .dormantTimeExpiry s = .next (s.leaves (((s.core.setModes { s.core.modes with
      mode := .dormant, dormant := none }).setPort { s.core.port with sweepTimer := none }).trigger
        { mode := true } true))) ∧
  (∀ s : State, s.core.modes.mode = .standby → s.ready = true → s.core.port.setup.dormantTime = 0 →
    exec .dormantTimeExpiry s = .next (s.leaves s.core))

/-! ## Setup -/

/-- Setup reads and refusals. A setup read that ends with data while the other is outstanding keeps its data. One that
ends as a read error refuses the setup with reason READ_ERROR; with the data of both, the first of R8's checks that
fails refuses it with its reason. A refusal sets SETUP_BAD and Setup Reason, clears the Enable latch and queues
SETUP_BAD; the mode and the Work Area in use stay as they are. -/
def Obligations.SetupReadsAreKeptOrRefuse : Prop :=
  (∀ (part : SetupPart) (bs : List Byte) (q : SetupRead) (s : State), s.ready = true →
    s.core.port.setupRead = some q → BoardRead.setup part ∈ s.core.port.boardFlight →
    (part = .block → q.extension = none) → (part = .extension → q.block = none) →
    ∃ l, exec (.setupReadDone part (.data bs)) s = .next (s.leaves (s.core.setPort { s.core.port with
      boardFlight := l
      setupRead := some (match part with
        | .block => { q with block := some bs }
        | .extension => { q with extension := some bs }) }))) ∧
  (∀ (part : SetupPart) (s : State), s.ready = true → s.core.port.setupRead ≠ none →
    BoardRead.setup part ∈ s.core.port.boardFlight →
    ∃ t, exec (.setupReadDone part .error) s = .next t ∧ exec (.hostReadTimeout (.setup part)) s = .next t ∧
      t.front.setupBad = true ∧ t.front.setupReason = 8 ∧ t.front.enable = false ∧
      t.front.faults = s.front.queued ⟨.setupBad, .systemPort, 8, 0⟩ ∧
      t.core.port.setupRead = none ∧ t.core.port.workArea = s.core.port.workArea ∧
      t.core.port.setup = s.core.port.setup ∧ t.core.store = s.core.store ∧ t.core.tr = s.core.tr ∧
      t.core.modes.mode = s.core.modes.mode ∧
      (∀ p, BoardRead.setup p ∉ t.core.port.boardQueue) ∧ (∀ p, BoardRead.setup p ∉ t.core.port.boardFlight)) ∧
  (∀ (part : SetupPart) (bs block ext : List Byte) (q : SetupRead) (reason : Nat) (s : State), s.ready = true →
    s.core.port.setupRead = some q → BoardRead.setup part ∈ s.core.port.boardFlight →
    (part = .block ∧ bs = block ∧ q.extension = some ext ∨ part = .extension ∧ bs = ext ∧ q.block = some block) →
    setupReason q.base s.core.store block ext = some reason →
    ∃ t, exec (.setupReadDone part (.data bs)) s = .next t ∧ t.front.setupBad = true ∧ t.front.setupReason = reason ∧
      t.front.enable = false ∧
      t.front.faults = s.front.queued ⟨.setupBad, .systemPort, BitVec.ofNat 24 reason, 0⟩ ∧
      t.core.port.setupRead = none ∧ t.core.port.workArea = s.core.port.workArea ∧
      t.core.port.setup = s.core.port.setup ∧ t.core.store = s.core.store ∧ t.core.tr = s.core.tr ∧
      t.core.modes.mode = s.core.modes.mode) ∧
  (∀ (base : Nat) (store : Store) (block ext : List Byte) (ring count alloc : Nat),
    ring = fieldAt block 0x008 8 → count = fieldAt block 0x014 2 → alloc = fieldAt block 0x010 4 →
    (setupReason base store block ext = some 1 ↔ fieldAt block 0 4 ≠ fieldAt block 0x3FC 4) ∧
    (fieldAt block 0 4 = fieldAt block 0x3FC 4 →
      (setupReason base store block ext = some 3 ↔ ring % 4096 ≠ 0) ∧
      (ring % 4096 = 0 →
        (setupReason base store block ext = some 4 ↔ count < 2 ∨ 256 < count) ∧
        (2 ≤ count → count ≤ 256 →
          (setupReason base store block ext = some 5 ↔ alloc < 65536 ∨ 67108864 < alloc ∨ alloc % 4096 ≠ 0) ∧
          (65536 ≤ alloc → alloc ≤ 67108864 → alloc % 4096 = 0 →
            (setupReason base store block ext = some 6 ↔ 2 ^ 64 < ring + count * alloc) ∧
            (ring + count * alloc ≤ 2 ^ 64 → base < 2 ^ 64 →
              (setupReason base store block ext = some 2 ↔
                ∃ i j, i < count * alloc ∧ j < 12288 ∧ ring + i = (base + j) % 2 ^ 64) ∧
              ((∀ i j, i < count * alloc → j < 12288 → ring + i ≠ (base + j) % 2 ^ 64) →
                (setupReason base store block ext = some 7 ↔
                  (∃ d, checkProfile alloc (reelExtension ext) ((block.drop 0x100).take 256) = .refused d) ∨
                  ∃ p, (store.setA = some p ∨ store.setB = some p) ∧
                    ((reelType (reelExtension ext) p.reelType).isSome = false ∨ imageOk alloc p = false)) ∧
                (setupReason base store block ext = none ∨ setupReason base store block ext = some 7))))))))

/-- When both reads of a setup have ended with data and every check passes, the setup is accepted: RUN with Progress
81h, the base in use, the fields, each brought into its range, the reel types, the ring's slot 0, the sweep timer, the
link's speed and its target address, which is the strap address for a value of 0, the changer's or the lamp driver's, and,
with both sets empty, the Initial Profile in Set A and active. CONFIG_MISMATCH is queued with the hardware found and
expected exactly when the two differ. -/
def Obligations.SetupAcceptanceTakesEffect : Prop :=
  (∀ (part : SetupPart) (bs block ext : List Byte) (q : SetupRead) (s : State), s.core.modes.mode = .configWait →
    s.ready = true → s.core.port.setupRead = some q → BoardRead.setup part ∈ s.core.port.boardFlight →
    (part = .block ∧ bs = block ∧ q.extension = some ext ∨ part = .extension ∧ bs = ext ∧ q.block = some block) →
    setupReason q.base s.core.store block ext = none →
    s.core.cap.stop = none → s.core.cap.flyby = none → s.core.focus.probe = none →
    ∃ t, exec (.setupReadDone part (.data bs)) s = .next t ∧ t.core.modes.mode = .run ∧
      t.core.modes.progress = 0x81 ∧ t.core.port.workArea = some q.base ∧ t.core.port.setup = setupFields block ∧
      t.core.port.setupRead = none ∧ t.core.tr.reelTypes = reelExtension ext ∧ t.core.cap.cursor = 0 ∧
      t.core.port.sweepTimer = (if (setupFields block).sweepInterval = 0 then none else some s.core.now) ∧
      t.core.link.st ≠ .down ∧ t.core.link.fast = decide ((setupFields block).linkSpeed = 1) ∧
      t.core.link.address =
        (if (setupFields block).linkAddress = 0 ∨ (setupFields block).linkAddress = 0x24 ∨
            (setupFields block).linkAddress = 0x2A then 0x40 + s.core.pins.strapAddress
          else (setupFields block).linkAddress) ∧
      (∀ found expected : Nat,
        found = s.core.roll.bayCount % 16 + 16 * s.core.cap.lamp.present.toNat + 32 * s.core.roll.changer.toNat →
        expected = fieldAt block 0x026 2 % 64 →
        (found = expected → t.front.faults = s.front.faults) ∧
        (found ≠ expected → t.front.faults = s.front.queued ⟨.configMismatch, .systemPort,
          BitVec.ofNat 24 (found + 256 * expected), 0⟩)) ∧
      t.core.roll = s.core.roll ∧ t.core.cap.lamp.present = s.core.cap.lamp.present ∧
      (s.core.store.setA = none → s.core.store.setB = none →
        ∃ p, checkProfile (setupFields block).slotAlloc (reelExtension ext) (initialProfile block) =
            .passed p (clampFlags (profileRaw (initialProfile block)) p) ∧
          t.core.store.setA = some p ∧ t.core.store.setB = none ∧ t.core.store.active = some .a ∧
          t.core.store.pending = none) ∧
      (s.core.store.setA ≠ none ∨ s.core.store.setB ≠ none → t.core.store = s.core.store) ∧
      (s.front.snapMark = .idle →
        ∃ left, (t.front.snapMark = .writing left true none ∨
          ∃ u, t.front.snapMark = .writing left true (some u)))) ∧
  (∀ (block : List Byte) (x : Setup), x = setupFields block →
    x.ringBase = fieldAt block 0x008 8 ∧ x.slotAlloc = fieldAt block 0x010 4 ∧ x.slotCount = fieldAt block 0x014 2 ∧
    x.sweepInterval = min (fieldAt block 0x016 2) 1000 ∧
    x.returnCount = max 1 (min (fieldAt block 0x018 1) 32) ∧
    x.ageLimit = max 1 (min (fieldAt block 0x019 1) 15) ∧
    x.returnDelay = min (fieldAt block 0x01A 2) 100 ∧
    x.idleTime = max 1 (min (fieldAt block 0x01C 2) 3600) ∧
    x.linkSpeed = (if fieldAt block 0x01E 1 = 1 then 1 else 0) ∧
    x.linkAddress = min (fieldAt block 0x01F 1) 127 ∧
    x.dormantTime = min (fieldAt block 0x020 4) 86400 ∧
    x.swapAge = min (fieldAt block 0x024 2) 600 ∧ x.expected = fieldAt block 0x026 2)

/-! ## Looks and requests -/

/-- A sweep timer's expiry asks for a read of all 32 slots, in slot order, and reloads the timer; with a sweep in
progress it only reloads; with no timer running it does nothing. The sweep's posted slots are taken in slot order: of two
reads that are left, here of requests of an unknown kind, the higher slot's that ends first waits for the lower's. That
such a result waits for its decision is the model's choice (notes/assumptions/41.md), and so is the Taken Stamp's place
among the Result Writer's writes (notes/assumptions/42.md). -/
def Obligations.SweepReadsEverySlot : Prop :=
  ∀ s : State, s.ready = true →
    (∀ t, s.core.port.sweepTimer = some t →
      (∀ n, .slot n true ∉ s.core.port.boardQueue ∧ .slot n true ∉ s.core.port.boardFlight) →
      exec .sweepTimerExpiry s = .next (s.leaves (s.core.setPort { s.core.port with
        sweepTimer := some s.core.now
        boardQueue := s.core.port.boardQueue ++ (List.range 32).map fun n => .slot n true }))) ∧
    (∀ t n, s.core.port.sweepTimer = some t →
      .slot n true ∈ s.core.port.boardQueue ∨ .slot n true ∈ s.core.port.boardFlight →
      exec .sweepTimerExpiry s = .next (s.leaves (s.core.setPort { s.core.port with sweepTimer := some s.core.now }))) ∧
    (s.core.port.sweepTimer = none → exec .sweepTimerExpiry s = .next (s.leaves s.core)) ∧
    (∀ m n bs, m < n → s.core.port.boardFlight = [.slot m true, .slot n true] → s.core.port.sweepEnded = [] →
      s.core.port.dropped = [] →
      exec (.slotLook n (.data bs)) s = .next (s.leaves (s.core.setPort { s.core.port with
        boardFlight := [.slot m true], sweepEnded := [(n, .data bs)] }))) ∧
    (∀ m n as bs, m < n → s.core.port.boardFlight = [.slot m true] → s.core.port.sweepEnded = [(n, .data bs)] →
      s.core.port.dropped = [] → s.core.modes.mode = .run → slotClass as = .posted → slotClass bs = .posted →
      kindOf (byteAt as 2) = none → kindOf (byteAt bs 2) = none →
      s.core.rm.slots[m]? = some .lookable → s.core.rm.slots[n]? = some .lookable →
      ∃ t, exec (.slotLook m (.data as)) s = .next t ∧ t.core.port.sweepEnded = [] ∧ t.core.port.boardFlight = [] ∧
        t.core.port.results = s.core.port.results ++
          [.taken m (fieldAt as 0 2),
           .result (Return.plain m (fieldAt as 0 2) ((byteAt as 3).testBit 0) s.core.now .badRequest 0x01),
           .taken n (fieldAt bs 0 2),
           .result (Return.plain n (fieldAt bs 0 2) ((byteAt bs 3).testBit 0) s.core.now .badRequest 0x01)])

/-- A slot's read that ends with a read error queues MEMORY_READ with the slot, and takes nothing; one that ends with
data that are not posted, or of a slot that is HELD, only leaves the reads in flight. Here the read is a POST write's, or
a sweep's that waits for no lower slot's. A read that was issued while the slot was HELD, or that was in flight when
another look took the slot, is dropped however it ends, whatever the slot is by then (notes/assumptions/41.md). A read that
is not in flight does nothing (notes/assumptions/2.md). -/
def Obligations.LooksThatTakeNothing : Prop :=
  ∀ (n : Nat) (s : State), s.ready = true →
    (∀ b, s.core.looksAlone n b = true →
      ∃ l : List BoardRead, l.length + 1 = s.core.port.boardFlight.length ∧
        (∀ r, r ∈ l → r ∈ s.core.port.boardFlight) ∧
        (∀ bs, slotClass bs ≠ .posted ∨ s.core.rm.slots[n]? ≠ some .lookable →
          exec (.slotLook n (.data bs)) s = .next (s.leaves (s.core.setPort { s.core.port with boardFlight := l }))) ∧
        (s.core.rm.slots[n]? ≠ some .lookable →
          exec (.slotLook n .error) s = .next (s.leaves (s.core.setPort { s.core.port with boardFlight := l }))) ∧
        (s.core.rm.slots[n]? = some .lookable →
          ∃ t, exec (.slotLook n .error) s = .next t ∧ t.core.rm = s.core.rm ∧
            t.core.port.results = s.core.port.results ∧ t.core.port.boardFlight = l ∧
            t.front.faults = s.front.queued
              ⟨.memoryRead, .systemPort, BitVec.ofNat 24 n, BitVec.ofNat 28 (n % 32 * 65536)⟩)) ∧
    (∀ b l d, s.core.port.boardFlight = .slot n b :: l → s.core.port.dropped = (n, b) :: d →
      s.core.port.sweepEnded = [] →
      ∀ r, exec (.slotLook n r) s = .next (s.leaves (s.core.setPort { s.core.port with boardFlight := l, dropped := d }))) ∧
    ((∀ b, .slot n b ∉ s.core.port.boardFlight) → ∀ r, exec (.slotLook n r) s = .next (s.leaves s.core))

/-- 50 ms after its request a named read ends as a read error: each tag's expiry is that read's completion with an
error. With the profile read in flight it returns the SET PROFILE with BAD_REQUEST and READ_ERROR. -/
def Obligations.HostReadTimeoutIsReadError : Prop :=
  (∀ (p : SetupPart) (n : Nat) (s : State),
    exec (.hostReadTimeout (.setup p)) s = exec (.setupReadDone p .error) s ∧
    exec (.hostReadTimeout (.slot n)) s = exec (.slotLook n .error) s ∧
    exec (.hostReadTimeout .profile) s = exec (.profileReadDone .error) s ∧
    exec (.hostReadTimeout .selectionMap) s = exec (.selectionMapReadDone .error) s ∧
    exec (.hostReadTimeout .importRecord) s = exec (.importReadDone .error) s ∧
    exec (.hostReadTimeout .reservation) s = exec (.reservationReadDone .error) s) ∧
  (∀ (a : Nat) (q : Served) (s : State), s.ready = true → s.core.port.boardFlight = [.profile a] →
    s.core.rm.loading = some q →
    exec (.hostReadTimeout .profile) s = .next (s.leaves ((s.core.setPort { s.core.port with boardFlight := [] }).decideReturn
      (Return.plain q.slot q.stamp q.notify q.takenAt .badRequest 0x0E))))

/-- R28's checks in their order, each reached when those before it pass, with the targets of R26, the addresses of R29 (a
nonzero multiple of 64 whose bytes reached end at or below 2^64), the rolls of R27 and R38, the bays of R32, and the
clamp of a Count above 256. The map's length is that of the Count in force (notes/assumptions/24.md). The order of the
cases inside check 6, BAD_TARGET before END_BEFORE_START, and inside check 8 of a MOUNT, BAD_ARGUMENT, BAD_BAY,
PROFILE_EMPTY, is the model's reading (notes/assumptions/55.md). -/
def Obligations.AddressesOfRequests : Prop :=
  (∀ r : Request,
    (r.kind = .mount → (addressFault r = true ↔ (r.argA.testBit 16 = true ∨ r.argA.testBit 17 = true) ∧
      ¬(r.argB % 64 = 0 ∧ r.argB ≠ 0 ∧ r.argB + 36 + 24 * 16384 ≤ 2 ^ 64))) ∧
    (r.kind = .setProfile → (addressFault r = true ↔ ¬(r.argA % 64 = 0 ∧ r.argA ≠ 0 ∧ r.argA + 256 ≤ 2 ^ 64))) ∧
    (r.kind = .exportIndex → (addressFault r = true ↔ ¬(r.argA % 64 = 0 ∧ r.argA ≠ 0 ∧ r.argA + r.argB ≤ 2 ^ 64))) ∧
    (r.kind = .scan → r.argA = 0 → addressFault r = false) ∧
    (r.kind = .scan → r.argA ≠ 0 → r.endTarget ≠ none →
      (addressFault r = true ↔ ¬(r.argA % 64 = 0 ∧ r.argA + 1024 ≤ 2 ^ 64))) ∧
    (r.kind = .scan → r.argA ≠ 0 → r.endTarget = none →
      (addressFault r = true ↔ ¬(r.argA % 64 = 0 ∧ r.argA + (min r.count 256 + 3) / 4 ≤ 2 ^ 64))) ∧
    (r.kind = .find ∨ r.kind = .index ∨ r.kind = .probe ∨ r.kind = .unmount ∨ r.kind = .cancel →
      addressFault r = false)) ∧
  (∀ (c : Core) (bs : List Byte), kindOf (byteAt bs 2) = none → validate c bs = .refused .badRequest 0x01) ∧
  (∀ (c : Core) (bs : List Byte) (k : Kind) (r : Request), kindOf (byteAt bs 2) = some k → r = requestCopy k bs →
    (32 ≤ byteAt bs 3 → validate c bs = .refused .badRequest 0x02) ∧
    (byteAt bs 3 < 32 →
      (formAllowed k (byteAt bs 8) = false → validate c bs = .refused .badRequest 0x03) ∧
      (formAllowed k (byteAt bs 8) = true →
        (k = .find ∧ byteAt bs 9 ≠ 0 ∨ k = .scan ∧ 1 < byteAt bs 9 → validate c bs = .refused .badRequest 0x04) ∧
        (k = .find ∨ k = .scan → byteAt bs 9 = 0 → r.count = 0 → validate c bs = .refused .badRequest 0x05) ∧
        (extentFault r (byteAt bs 9) = none →
          (∀ n, k.positional = true → r.target = .frame n → n = 0 ∨ 16384 < n →
            validate c bs = .refused .badRequest 0x06) ∧
          (∀ x, k.positional = true → r.target = .position x → x < -400000 ∨ 16000000 < x →
            validate c bs = .refused .badRequest 0x06) ∧
          (∀ e, k = .scan → r.endTarget = some e → r.target.valid = true → e.valid = false →
            validate c bs = .refused .badRequest 0x06) ∧
          (∀ e, k = .scan → r.endTarget = some e → r.target.valid = true → e.valid = true →
            e.before r.target = true → validate c bs = .refused .badRequest 0x07) ∧
          (targetFault r = none →
            (addressFault r = true → validate c bs = .refused .badRequest 0x08) ∧
            (addressFault r = false →
              (k = .mount → r.roll = 0 ∨ r.argA / 256 % 4 = 3 → validate c bs = .refused .badRequest 0x09) ∧
              (k = .cancel → 31 < r.argA % 256 → validate c bs = .refused .badRequest 0x09) ∧
              (k = .mount → r.roll ≠ 0 → r.argA / 256 % 4 ≠ 3 →
                r.argA % 256 = 0 ∨ c.roll.bayCount < r.argA % 256 → validate c bs = .refused .badRequest 0x0A) ∧
              (k = .mount → r.roll ≠ 0 → 1 ≤ r.argA % 256 → r.argA % 256 ≤ c.roll.bayCount →
                (r.argA / 256 % 4 = 1 ∧ c.store.setA = none ∨ r.argA / 256 % 4 = 2 ∧ c.store.setB = none) →
                validate c bs = .refused .badRequest 0x0D) ∧
              (argumentFault c r = none →
                (∀ b, k = .mount → c.roll.boundBay r.roll = some b → b ≠ r.argA % 256 →
                  validate c bs = .refused .badRequest 0x0C) ∧
                (k = .mount → c.roll.boundBay r.roll = none ∨ c.roll.boundBay r.roll = some (r.argA % 256) →
                  ((c.roll.bay (r.argA % 256)).st = .empty → validate c bs = .refused .rollAbsent 0x1B) ∧
                  ((c.roll.bay (r.argA % 256)).st = .failed → validate c bs = .refused .changerFault 0x52) ∧
                  ((c.roll.bay (r.argA % 256)).st = .loaded → validate c bs = .passed r 0) ∧
                  ((c.roll.bay (r.argA % 256)).st = .bound ∨ (c.roll.bay (r.argA % 256)).st = .mounted →
                    validate c bs = (if (c.roll.bay (r.argA % 256)).roll = some r.roll then .passed r 0
                      else .refused .badRequest 0x0B))) ∧
                (k = .setProfile ∨ k = .cancel → validate c bs = .passed { r with roll := 0 } 0) ∧
                (k.positional = true ∨ k = .unmount ∨ k = .exportIndex →
                  (r.roll = 0 → c.roll.mounted = none → validate c bs = .refused .rollAbsent 0x19) ∧
                  (r.roll ≠ 0 → c.roll.boundBay r.roll = none → validate c bs = .refused .rollAbsent 0x18) ∧
                  (∀ b, k = .exportIndex → r.roll ≠ 0 → c.roll.boundBay r.roll = some b → c.roll.mounted ≠ some b →
                    validate c bs = .refused .rollAbsent 0x1A) ∧
                  (∀ roll, (r.roll = 0 ∧ c.roll.mounted ≠ none ∧ roll = c.mountedRoll ∨
                      r.roll ≠ 0 ∧ roll = r.roll ∧ c.roll.boundBay r.roll ≠ none ∧
                        (k = .exportIndex → c.roll.boundBay r.roll = c.roll.mounted)) →
                    validate c bs =
                      (if (k = .find ∨ k = .scan) ∧ r.endTarget = none ∧ 256 < r.count then
                        .passed { r with roll := roll, count := 256 } 1
                      else .passed { r with roll := roll } 0))))))))))

/-- A posted slot's request is taken: the slot is HELD with its stamp, the Taken Stamp is to be written, and every other
look at the slot, in flight or waiting for its decision, is dropped. A request of a pass that passes the checks joins the
end of the Pending Set, and a MOUNT binds its LOADED bay; one that fails them is returned with the outcome and detail
found. That the looks are dropped, and a sweep's waits, is the model's choice (notes/assumptions/41.md), and so is the
Taken Stamp's place among the Result Writer's writes (notes/assumptions/42.md). -/
def Obligations.PostedRequestsAreTaken : Prop :=
  ∀ (n : Nat) (b : Bool) (bs : List Byte) (s : State), s.ready = true → s.core.modes.mode = .run →
    s.core.looksAlone n b = true → s.core.rm.slots[n]? = some .lookable → slotClass bs = .posted →
    (∀ r k, validate s.core bs = .passed r k → r.kind.positional = true ∨ r.kind = .unmount ∨ r.kind = .mount →
      ∃ t, exec (.slotLook n (.data bs)) s = .next t ∧
        t.core.rm.slots[n]? = some (.held (fieldAt bs 0 2) .pendingSet) ∧
        t.core.rm.pendingSet = s.core.rm.pendingSet ++
          [{ slot := n, stamp := fieldAt bs 0 2, req := r, passOver := 0, active := false, takenAt := s.core.now,
             clamps := k, returned := false }] ∧
        t.core.port.results = s.core.port.results ++ [.taken n (fieldAt bs 0 2)] ∧
        t.core.rm.pass = s.core.rm.pass ∧ t.core.tr = s.core.tr ∧ t.core.store = s.core.store ∧ t.core.ix = s.core.ix ∧
        t.front = s.front ∧ (∀ e, e ∈ t.core.port.sweepEnded → e.1 ≠ n) ∧
        (∀ w, .slot n w ∈ t.core.port.boardFlight → (n, w) ∈ t.core.port.dropped) ∧
        (r.kind ≠ .mount → t.core.roll = s.core.roll) ∧
        (∀ m, m ≠ n → t.core.rm.slots[m]? = s.core.rm.slots[m]?) ∧
        (r.kind = .mount → 1 ≤ r.argA % 256 → r.argA % 256 ≤ s.core.roll.bays.length →
          (s.core.roll.bay (r.argA % 256)).st = .loaded →
          (t.core.roll.bay (r.argA % 256)).st = .bound ∧ (t.core.roll.bay (r.argA % 256)).roll = some r.roll)) ∧
    (∀ o d, validate s.core bs = .refused o d →
      ∃ t, exec (.slotLook n (.data bs)) s = .next t ∧
        t.core.rm.slots[n]? = some (.held (fieldAt bs 0 2) .immediate) ∧
        t.core.port.results = s.core.port.results ++ [.taken n (fieldAt bs 0 2),
          .result (Return.plain n (fieldAt bs 0 2) ((byteAt bs 3).testBit 0) s.core.now o d)] ∧
        (∀ e, e ∈ t.core.port.sweepEnded → e.1 ≠ n) ∧
        (∀ w, .slot n w ∈ t.core.port.boardFlight → (n, w) ∈ t.core.port.dropped) ∧
        t.core.roll = s.core.roll ∧ t.core.rm.pendingSet.length = s.core.rm.pendingSet.length ∧
        t.core.store = s.core.store ∧ t.core.rm.exports = s.core.rm.exports ∧ t.front = s.front)

/-- Immediate requests are served as they are taken: a SET PROFILE has its record read, or is returned PROFILE_BUSY
while a set is pending or loading; an EXPORT waits for the Index Porter; a CANCEL returns a request that waits as
CANCELLED with WHILE_PENDING and the Clamp flags of its taking, and itself as DONE with TARGET_PENDING, or finds nothing
held. One whose target is the active pass is DONE with TARGET_ACTIVE: the film is stopped and the pass ends CANCELLED with the detail of its state, or
the sequence has its cancel mark. An EXPORT that waits or is written is returned CANCELLED, and the CANCEL DONE with
TARGET_IN_SERVICE; a SET PROFILE that is loading is NOT_CANCELLABLE. The Taken Stamp's place among the Result Writer's
writes is the model's choice (notes/assumptions/42.md). -/
def Obligations.ImmediateRequestsAreServed : Prop :=
  ∀ (n k : Nat) (b : Bool) (bs : List Byte) (r : Request) (s : State), s.ready = true → s.core.modes.mode = .run →
    s.core.looksAlone n b = true → s.core.rm.slots[n]? = some .lookable → slotClass bs = .posted →
    validate s.core bs = .passed r k →
    (r.kind = .setProfile → s.core.store.pending = none → s.core.store.load = none →
      ∃ t, exec (.slotLook n (.data bs)) s = .next t ∧
        t.core.store = { s.core.store with
          load := some { slot := n, stamp := fieldAt bs 0 2, address := r.argA } } ∧
        t.core.rm.loading = some { slot := n, stamp := fieldAt bs 0 2, notify := r.notify, takenAt := s.core.now } ∧
        t.core.port.boardQueue = s.core.port.boardQueue ++ [.profile r.argA] ∧
        t.core.port.results = s.core.port.results ++ [.taken n (fieldAt bs 0 2)]) ∧
    (r.kind = .setProfile → s.core.store.pending ≠ none ∨ s.core.store.load ≠ none →
      ∃ t, exec (.slotLook n (.data bs)) s = .next t ∧ t.core.store = s.core.store ∧
        t.core.port.boardQueue = s.core.port.boardQueue ∧
        t.core.port.results = s.core.port.results ++ [.taken n (fieldAt bs 0 2),
          .result (Return.plain n (fieldAt bs 0 2) r.notify s.core.now .profileBusy 0)]) ∧
    (r.kind = .exportIndex →
      ∃ t, exec (.slotLook n (.data bs)) s = .next t ∧
        t.core.rm.exports = s.core.rm.exports ++
          [{ slot := n, stamp := fieldAt bs 0 2, roll := r.roll, address := r.argA, length := r.argB,
             notify := r.notify, takenAt := s.core.now }] ∧
        t.core.porter.waiting = s.core.porter.waiting ++ [.exportFor n (fieldAt bs 0 2)] ∧
        t.core.porter.job = s.core.porter.job) ∧
    (∀ q : PendReq, r.kind = .cancel → r.argA % 256 ≠ n → q.slot = r.argA % 256 → q.stamp = r.argA / 65536 % 65536 →
      s.core.rm.pendingSet = [q] → q.active = false → q.returned = false →
      s.core.rm.slots[q.slot]? = some (.held q.stamp .pendingSet) →
      ∃ t, exec (.slotLook n (.data bs)) s = .next t ∧
        t.core.port.results = s.core.port.results ++ [.taken n (fieldAt bs 0 2),
          .result { Return.plain q.slot q.stamp q.req.notify q.takenAt .cancelled 0x28 with clamps := q.clamps },
          .result (Return.plain n (fieldAt bs 0 2) r.notify s.core.now .done 0x20)]) ∧
    (r.kind = .cancel → r.argA % 256 ≠ n → s.core.rm.slots[r.argA % 256]? = some .lookable →
      ∃ t, exec (.slotLook n (.data bs)) s = .next t ∧
        t.core.port.results = s.core.port.results ++ [.taken n (fieldAt bs 0 2),
          .result (Return.plain n (fieldAt bs 0 2) r.notify s.core.now .notFound 0x23)]) ∧
    (∀ (m stamp : Nat) (q : Pass), r.kind = .cancel → m = r.argA % 256 → stamp = r.argA / 65536 % 65536 → m ≠ n →
      s.core.rm.slots[m]? = some (.held stamp .activePass) → s.core.rm.pass = some q → q.ending = none →
      q.cancel = none →
      (∀ d, q.films = true → s.core.focus.probe = none → s.core.cap.armed = none → s.core.tr.st = .move →
        s.core.tr.phase ≠ .settle → 0 < s.core.tr.vRef →
        (q.st = .seeking ∧ d = 0x29 ∨ q.st = .extending ∧ d = 0x2A ∨ q.st = .capturing ∧ d = 0x2B ∨
          q.st = .retrying ∧ d = 0x2D) →
        ∃ t w, exec (.slotLook n (.data bs)) s = .next t ∧
          t.core.port.results = s.core.port.results ++ [.taken n (fieldAt bs 0 2),
            .result (Return.plain n (fieldAt bs 0 2) r.notify s.core.now .done 0x21)] ∧
          t.core.rm.pass = some w ∧ w.slot = q.slot ∧ w.stamp = q.stamp ∧ w.ending = some (.cancelled d) ∧
          w.st = .ending ∧ w.waitStop = true ∧ t.core.tr.phase = .brake .stop ∧ t.core.tr.stopWaits = true ∧
          t.core.cap.stop = none ∧ t.core.cap.flyby = none ∧ t.core.cap.imageWait = none ∧
          t.core.cap.inHand = s.core.cap.inHand) ∧
      (∀ x, q.films = false → s.core.roll.seq = some x →
        ∃ t, exec (.slotLook n (.data bs)) s = .next t ∧
          t.core.port.results = s.core.port.results ++ [.taken n (fieldAt bs 0 2),
            .result (Return.plain n (fieldAt bs 0 2) r.notify s.core.now .done 0x21)] ∧
          t.core.roll.seq = some { x with cancel := true } ∧ t.core.tr = s.core.tr)) ∧
    (∀ (m stamp : Nat) (e : Export), r.kind = .cancel → m = r.argA % 256 → stamp = r.argA / 65536 % 65536 → m ≠ n →
      s.core.rm.slots[m]? = some (.held stamp .immediate) → s.core.rm.exports = [e] → e.slot = m → e.stamp = stamp →
      s.core.roll.seq = none →
      (s.core.porter.job = .idle → s.core.porter.waiting = [.exportFor m stamp] →
        ∃ t, exec (.slotLook n (.data bs)) s = .next t ∧ t.core.rm.exports = [] ∧ t.core.porter.waiting = [] ∧
          t.core.port.results = s.core.port.results ++ [.taken n (fieldAt bs 0 2),
            .result (Return.plain m stamp e.notify e.takenAt .cancelled 0x2E),
            .result (Return.plain n (fieldAt bs 0 2) r.notify s.core.now .done 0x22)]) ∧
      (∀ j, s.core.porter.job = .writing j → j.transfer = .exportFor m stamp →
        ∃ t, exec (.slotLook n (.data bs)) s = .next t ∧ t.core.rm.exports = [] ∧ t.core.porter.job = .idle ∧
          t.core.port.results = s.core.port.results ++ [.taken n (fieldAt bs 0 2),
            .result { Return.plain m stamp e.notify e.takenAt .cancelled 0x2F with
              indexed := min (j.issued - 3) j.count },
            .result (Return.plain n (fieldAt bs 0 2) r.notify s.core.now .done 0x22)])) ∧
    (∀ (m stamp : Nat) (q : Served), r.kind = .cancel → m = r.argA % 256 → stamp = r.argA / 65536 % 65536 → m ≠ n →
      s.core.rm.slots[m]? = some (.held stamp .immediate) → s.core.rm.exports = [] → s.core.rm.loading = some q →
      q.slot = m → q.stamp = stamp →
      ∃ t, exec (.slotLook n (.data bs)) s = .next t ∧ t.core.rm.loading = some q ∧ t.core.store = s.core.store ∧
        t.core.port.results = s.core.port.results ++ [.taken n (fieldAt bs 0 2),
          .result (Return.plain n (fieldAt bs 0 2) r.notify s.core.now .notFound 0x24)])

/-- A SET PROFILE whose record passes the checks loads the inactive set, Set B while none is active, makes it pending
and returns DONE with its Clamp flags; one that fails them changes neither set. -/
def Obligations.ProfileReadLoadsInactiveSet : Prop :=
  ∀ (a : Nat) (bs : List Byte) (q : Served) (s : State), s.ready = true → s.core.port.boardFlight = [.profile a] →
    s.core.rm.loading = some q →
    (∀ p k, checkProfile s.core.port.setup.slotAlloc s.core.tr.reelTypes bs = .passed p k →
      ∃ t, exec (.profileReadDone (.data bs)) s = .next t ∧
        t.core.store.active = s.core.store.active ∧ t.core.store.load = none ∧ t.core.rm.loading = none ∧
        (s.core.store.active = some .b → t.core.store.setA = some p ∧ t.core.store.setB = s.core.store.setB ∧
          t.core.store.pending = some .a) ∧
        (s.core.store.active ≠ some .b → t.core.store.setB = some p ∧ t.core.store.setA = s.core.store.setA ∧
          t.core.store.pending = some .b) ∧
        t.core.port.results = s.core.port.results ++
          [.result { Return.plain q.slot q.stamp q.notify q.takenAt .done 0 with clamps := k }] ∧
        t.core.tr = s.core.tr ∧ t.core.cap = s.core.cap ∧ t.core.focus = s.core.focus) ∧
    (∀ d, checkProfile s.core.port.setup.slotAlloc s.core.tr.reelTypes bs = .refused d →
      ∃ t, exec (.profileReadDone (.data bs)) s = .next t ∧ t.core.store = s.core.store ∧
        t.core.port.results = s.core.port.results ++
          [.result (Return.plain q.slot q.stamp q.notify q.takenAt .badRequest d)])

/-- What passes the checks of a profile record is in range: its stamps agree, its ID is not 0, its reel type is a used
entry, its image fits a slot, every clamped field is in the range of the record table, the order check holds and the
Focus Window lies in the image. -/
def Obligations.CheckedProfilesAreInRange : Prop :=
  ∀ (alloc : Nat) (ext : List (Option ReelType)) (bs : List Byte) (p : Profile) (k : Nat),
    checkProfile alloc ext bs = .passed p k →
    fieldAt bs 0 4 = fieldAt bs 0xFC 4 ∧ p.id ≠ 0 ∧ (reelType ext p.reelType).isSome = true ∧
    (64 ≤ p.width ∧ p.width ≤ 8192 ∧ p.width % 8 = 0 ∧ 64 ≤ p.height ∧ p.height ≤ 8192 ∧
      (p.depth = 1 ∨ p.depth = 2) ∧ 64 + p.width * p.height * p.depth + 4 ≤ alloc) ∧
    (2 ≤ p.confirmCount ∧ p.confirmCount ≤ 64) ∧ (4000 ≤ p.gateOffset ∧ p.gateOffset ≤ 60000) ∧
    (500 ≤ p.accel ∧ p.accel ≤ 8000) ∧ (50 ≤ p.shuttleSpeed ∧ p.shuttleSpeed ≤ 6000) ∧
    (50 ≤ p.scanSpeed ∧ p.scanSpeed ≤ 1500) ∧ (50 ≤ p.indexSpeed ∧ p.indexSpeed ≤ 1500) ∧
    (5 ≤ p.creepSpeed ∧ p.creepSpeed ≤ 100) ∧ (400 ≤ p.approach ∧ p.approach ≤ 20000) ∧
    (5 ≤ p.stopTolerance ∧ p.stopTolerance ≤ 200) ∧ p.strobeLatency ≤ 500 ∧
    (20000 ≤ p.endMargin ∧ p.endMargin ≤ 1000000) ∧ (20000 ≤ p.reverseMargin ∧ p.reverseMargin ≤ 400000) ∧
    (50 ≤ p.driftWindow ∧ p.driftWindow ≤ 4000) ∧ (256 ≤ p.tensionSetpoint ∧ p.tensionSetpoint ≤ 3840) ∧
    (16 ≤ p.tensionBand ∧ p.tensionBand ≤ 1024) ∧ (1 ≤ p.kp ∧ p.kp ≤ 255) ∧ p.ki ≤ 255 ∧
    (400 ≤ p.minPitch ∧ p.minPitch ≤ p.nominalPitch ∧ 1000 ≤ p.nominalPitch ∧ p.nominalPitch ≤ 200000) ∧
    (400 ≤ p.minLength ∧ p.minLength ≤ p.maxLength ∧ p.maxLength ≤ 200000) ∧
    (8 ≤ p.edgeThreshold ∧ p.edgeThreshold ≤ 1023) ∧ p.blipLead ≤ 20000 ∧
    (4 ≤ p.smallMax ∧ p.smallMax < p.mediumMax ∧ p.mediumMax ≤ 20000) ∧
    (40 ≤ p.spliceMin ∧ p.spliceMin ≤ p.spliceMax ∧ p.spliceMax ≤ 40000) ∧
    (p.focusMin ≤ p.defaultStep ∧ p.defaultStep ≤ p.focusMax ∧ p.focusMax ≤ 4095) ∧
    (4 ≤ p.probeStep ∧ p.probeStep ≤ 128) ∧ (2000 ≤ p.bandLength ∧ p.bandLength ≤ 1000000) ∧
    (1 ≤ p.softRatio ∧ p.softRatio ≤ 255) ∧ p.scoreShift ≤ 31 ∧ p.lampIntensity ≤ 255 ∧
    (3 ≤ p.windowWidth ∧ p.windowX + p.windowWidth ≤ p.width) ∧
    (2 ≤ p.windowHeight ∧ p.windowY + p.windowHeight ≤ p.height) ∧ p.imageWait ≤ 10000

/-! ## Passes -/

/-- The Request Manager's choice with one request of a pass held for the mounted roll. With a pass or a swap under way,
or outside RUN, none is made. An INDEX whose target is in the index ends DONE at once; a start beyond the frontier ends
the pass with INDEX_FULL when the index is full, and otherwise extends from where the film is, or first runs back to the
frontier; a SCAN with a Selection Map reads it first; a FIND or SCAN in stop mode is positioned at its start's target,
with the frame's PLACE and its capture wanted; a PROBE is positioned there with neither; and a flyby walk first runs to its
run-up point. -/
def Obligations.PassChoiceStartsIndex : Prop :=
  (∀ s : State, s.ready = true →
    s.core.modes.mode ≠ .run ∨ s.core.rm.pass ≠ none ∨ s.core.rm.swap ≠ none ∨
      s.core.rm.held = [] →
    exec .passChoice s = .next (s.leaves s.core)) ∧
  (∀ (q : PendReq) (b : Nat) (s : State), s.ready = true → s.core.modes.mode = .run → s.core.rm.pass = none →
    s.core.rm.swap = none → s.core.rm.held = [q] → q.req.kind.positional = true → s.core.store.pending = none →
    s.core.roll.mounted = some b → s.core.roll.boundBay q.req.roll = some b → q.req.roll = s.core.mountedRoll →
    s.core.tr.steady = true → s.core.tr.waiting = none → s.core.cap.idle = true → s.core.ix.motion = none →
    s.core.cap.stop = none → s.core.cap.flyby = none → s.core.focus.probe = none → s.core.focus.st ≠ .probing →
    q.slot < s.core.rm.slots.length →
    (∀ n, q.req.kind = .index → s.core.ix.find q.req.target = some n →
      ∃ t r, exec .passChoice s = .next t ∧ t.core.port.results = s.core.port.results ++ [.result r] ∧
        r.slot = q.slot ∧ r.stamp = q.stamp ∧ r.outcome = .done ∧ r.detail = 0 ∧ r.endsPass = true ∧
        t.core.rm.slots[q.slot]? = some (.held q.stamp .activePass) ∧ t.core.tr = s.core.tr ∧ t.core.ix = s.core.ix ∧
        t.core.store = s.core.store ∧ t.core.roll = s.core.roll) ∧
    (s.core.ix.find q.req.target = none → s.core.ix.full = true →
      ∃ t r, exec .passChoice s = .next t ∧ t.core.port.results = s.core.port.results ++ [.result r] ∧
        r.slot = q.slot ∧ r.stamp = q.stamp ∧ r.outcome = .indexFull ∧ r.detail = 0 ∧ r.endsPass = true ∧
        t.core.tr = s.core.tr ∧ t.core.ix = s.core.ix) ∧
    (q.req.mapped = false → s.core.ix.find q.req.target = none → s.core.ix.full = false →
      ∃ t p, exec .passChoice s = .next t ∧ t.core.rm.pass = some p ∧ p.kind = .request q.req.kind ∧ p.slot = q.slot ∧
        p.stamp = q.stamp ∧ p.st = .extending ∧ p.ending = none ∧
        t.core.rm.slots[q.slot]? = some (.held q.stamp .activePass) ∧
        t.core.tr.st = .move ∧ t.core.tr.phase = .accel ∧ t.core.tr.vRef = 0 ∧ t.core.port.results = s.core.port.results ∧
        (s.core.tr.p ≤ s.core.ix.frontier → p.act = .extending 0 ∧ t.core.tr.dir = .forward ∧
          ∃ pl, t.core.tr.plan = some pl ∧ pl.order = .run .forward s.core.prof.shuttleSpeed none true) ∧
        (s.core.ix.frontier < s.core.tr.p → p.act = .backToFrontier 0 ∧ t.core.tr.dir = .reverse ∧
          ∃ pl, t.core.tr.plan = some pl ∧ pl.order = .run .reverse s.core.prof.shuttleSpeed
            (some (s.core.ix.frontier - (s.core.prof.approach : Int))) false)) ∧
    (q.req.mapped = true → s.core.ix.find q.req.target ≠ none ∨ s.core.ix.full = false →
      ∃ t p, exec .passChoice s = .next t ∧ t.core.rm.pass = some p ∧ p.kind = .request .scan ∧ p.slot = q.slot ∧
        p.stamp = q.stamp ∧ p.act = .mapRead ∧ p.start = none ∧ p.ending = none ∧
        t.core.port.boardQueue = s.core.port.boardQueue ++
          [.selectionMap q.req.argA (if q.req.endTarget = none then (q.req.count + 3) / 4 else 1024)] ∧
        t.core.tr = s.core.tr ∧ t.core.cap = s.core.cap ∧ t.core.port.results = s.core.port.results) ∧
    (∀ n e x, q.req.mapped = false → q.req.kind ≠ .index → q.req.endTarget ≠ none ∨ 1 ≤ q.req.count →
      s.core.ix.find q.req.target = some n → s.core.ix.entry n = some e →
      x = e.lead + (e.length / 2 : Nat) + (s.core.prof.gateOffset : Int) + s.core.ix.drift →
      (q.req.flyby = false ∨ q.req.kind = .probe → x ≤ 16000000 - 4 * (s.core.prof.stopTolerance : Int) →
        (s.core.prof.stopTolerance : Int) < |s.core.tr.p - x| →
        ∃ t p pl, exec .passChoice s = .next t ∧ t.core.rm.pass = some p ∧ p.kind = .request q.req.kind ∧
          p.start = some n ∧ p.act = .positioning 0 ∧ p.st = .seeking ∧ p.target = x ∧ p.ending = none ∧
          t.core.tr.st = .move ∧ t.core.tr.vRef = 0 ∧ t.core.tr.plan = some pl ∧ pl.order = .position x ∧
          pl.retried = false ∧ t.core.tr.p = s.core.tr.p ∧
          (q.req.kind = .probe → t.core.cap = s.core.cap ∧ t.core.focus = s.core.focus) ∧
          (q.req.kind ≠ .probe →
            t.core.cap.stop = some { frame := n, target := x, fullDepth := false, recapture := false, arrived := false } ∧
            t.core.cap.inHand = s.core.cap.inHand ∧ t.core.cap.filling = s.core.cap.filling ∧
            (s.core.cap.inHand = none → s.core.cap.reservation = .none → s.core.cap.reread = none →
              t.core.cap.reservation = .queued) ∧
            ∃ pc, t.core.focus.placement = some pc ∧ pc.frame = n ∧
              pc.band = focusBand s.core.prof (x - (s.core.prof.gateOffset : Int)))) ∧
      (q.req.flyby = true → q.req.kind ≠ .probe → ∀ y : Int,
        y = max (x - (brakeDistance s.core.prof.accel s.core.prof.scanSpeed : Nat) - (s.core.prof.approach : Int))
          (-(s.core.prof.reverseMargin : Int)) → s.core.tr.p ≠ y →
        ∃ t p pl, exec .passChoice s = .next t ∧ t.core.rm.pass = some p ∧ p.start = some n ∧ p.act = .runUp 0 ∧
          p.st = .seeking ∧ t.core.tr.st = .move ∧ t.core.tr.vRef = 0 ∧ t.core.tr.plan = some pl ∧
          pl.order = .run (if y < s.core.tr.p then .reverse else .forward) s.core.prof.shuttleSpeed (some y) false ∧
          t.core.cap = s.core.cap)))

/-- The choice among several, and the sequences it starts. Of the candidates one at the Age Limit goes first, the earliest
taken; else the one of least forward cost, of equal costs the earliest, with the cost of R152; every other candidate gains
1 in its Pass-Over count; here the chosen one is a SCAN with a Selection Map. A MOUNT, an UNMOUNT, a request for a roll
that is bound but not mounted, and a request for a mounted roll whose transport is in FAULT start a mount or unmount
sequence, a roll swap and a recovery. -/
def Obligations.CheapestCandidateIsChosen : Prop :=
  (∀ (c : Core) (l : List PendReq),
    (c.cheapest l = none ↔ l = []) ∧
    ∀ q, c.cheapest l = some q → ∃ before after, l = before ++ q :: after ∧
      (∀ r ∈ before, c.cost q.req < c.cost r.req) ∧ (∀ r ∈ after, c.cost q.req ≤ c.cost r.req)) ∧
  (∀ (c : Core) (r : Request) (v : Int),
    (c.ix.find r.target = none → v = c.ix.frontier) →
    (∀ n, c.ix.find r.target = some n → r.kind = .index → v = c.tr.p) →
    (∀ n e, c.ix.find r.target = some n → r.kind ≠ .index → c.ix.entry n = some e →
      v = e.lead + (e.length / 2 : Nat) + (c.prof.gateOffset : Int) + c.ix.drift) →
    c.cost r = (if c.tr.p + (c.prof.approach : Int) ≤ v then v - c.tr.p
      else v - c.tr.p + max c.ix.frontier c.tr.p + 2 * (c.prof.gateOffset : Int))) ∧
  (∀ (x : IndexUnit) (y : Target) (n : Nat), x.find y = some n ↔
    ∃ e, x.entry n = some e ∧ y.names n e = true ∧ ∀ m d, m < n → x.entry m = some d → y.names m d = false) ∧
  (∀ (n : Nat) (e : Entry), (∀ m, Target.names (.frame m) n e = true ↔ m = n) ∧
    (∀ b d p, Target.names (.blip b d p) n e = true ↔ e.batch = b ∧ e.document = d ∧ e.page = p) ∧
    (∀ x, Target.names (.position x) n e = true ↔ x ≤ e.lead) ∧ Target.names .none n e = false) ∧
  (∀ (l : List PendReq) (q : PendReq) (b : Nat) (s : State), s.ready = true → s.core.modes.mode = .run →
    s.core.rm.pass = none → s.core.rm.swap = none → s.core.rm.held = l → (s.core.rm.pendingSet.map (·.slot)).Nodup →
    (∀ r ∈ l, r.req.kind.positional = true ∧ r.req.roll = s.core.mountedRoll) → s.core.store.pending = none →
    s.core.roll.mounted = some b → s.core.roll.boundBay s.core.mountedRoll = some b → s.core.tr.st = .hold →
    q.slot < s.core.rm.slots.length → q.req.mapped = true →
    s.core.ix.find q.req.target ≠ none ∨ s.core.ix.full = false →
    (∃ before after, l = before ++ q :: after ∧
      (s.core.port.setup.ageLimit ≤ q.passOver ∧ (∀ r ∈ before, r.passOver < s.core.port.setup.ageLimit) ∨
        (∀ r ∈ l, r.passOver < s.core.port.setup.ageLimit) ∧
          (∀ r ∈ before, s.core.cost q.req < s.core.cost r.req) ∧
          (∀ r ∈ after, s.core.cost q.req ≤ s.core.cost r.req))) →
    ∃ t p, exec .passChoice s = .next t ∧ t.core.rm.pass = some p ∧ p.slot = q.slot ∧ p.stamp = q.stamp ∧
      p.act = .mapRead ∧ t.core.rm.slots[q.slot]? = some (.held q.stamp .activePass) ∧
      { q with active := true } ∈ t.core.rm.pendingSet ∧
      (∀ r ∈ l, r.slot ≠ q.slot → { r with passOver := min (r.passOver + 1) 15 } ∈ t.core.rm.pendingSet) ∧
      t.core.tr = s.core.tr) ∧
  (∀ (q : PendReq) (s : State), s.ready = true → s.core.modes.mode = .run → s.core.rm.pass = none →
    s.core.rm.swap = none → s.core.rm.held = [q] → s.core.store.pending = none → q.slot < s.core.rm.slots.length →
    (∀ n, q.req.kind = .mount → n = q.req.argA % 256 → 1 ≤ n → n ≤ s.core.roll.bays.length →
      q.req.argA / 256 % 4 = 0 → s.core.roll.mounted = none → s.core.roll.changer = true →
      s.core.roll.cassette = none → s.core.tr.st = .unthreaded → s.core.link.st ≠ .down →
      s.core.link.queue.length < 8 →
      ∃ t p w, exec .passChoice s = .next t ∧ t.core.rm.pass = some p ∧ p.kind = .request .mount ∧ p.st = .mounting ∧
        p.slot = q.slot ∧ p.stamp = q.stamp ∧ t.core.roll.seq = some w ∧ w.mount = true ∧ w.bay = n ∧ w.step = .fetch ∧
        t.core.roll.cassette = some n ∧
        (t.core.roll.bay n).saveAddress = (if q.req.argA.testBit 17 then some q.req.argB else none) ∧
        t.core.link.queue = s.core.link.queue ++
          [{ msg := .exchange n (s.core.roll.serial + 1), by' := .rollManager }] ∧
        t.core.rm.slots[q.slot]? = some (.held q.stamp .activePass) ∧ t.core.tr = s.core.tr) ∧
    (∀ b, s.core.roll.mounted = some b → s.core.tr.steady = true → s.core.unmoved = true →
      (q.req.kind = .unmount → s.core.roll.boundBay q.req.roll = some b →
        ((s.core.roll.bay b).saveAddress = none →
          ∃ t p w, exec .passChoice s = .next t ∧ t.core.rm.pass = some p ∧ p.kind = .request .unmount ∧
            p.st = .unmounting ∧ p.slot = q.slot ∧ t.core.roll.seq = some w ∧ w.mount = false ∧ w.bay = b ∧
            w.step = .clear ∧ t.core.tr.st = .unthreading ∧ t.core.tr.dir = .reverse ∧ t.core.tr.travel = 0 ∧
            t.core.tr.rollWaits = true ∧ t.core.tr.p = s.core.tr.p) ∧
        (∀ a, (s.core.roll.bay b).saveAddress = some a →
          ∃ t w, exec .passChoice s = .next t ∧ t.core.roll.seq = some w ∧ w.step = .save ∧
            t.core.porter.waiting = s.core.porter.waiting ++ [.save b a ((s.core.roll.bay b).roll.getD 0)] ∧
            t.core.tr = s.core.tr)) ∧
      (∀ d, q.req.kind.positional = true → s.core.roll.boundBay q.req.roll = some d →
        (s.core.roll.bay d).st = .bound → q.req.roll ≠ s.core.mountedRoll → (s.core.roll.bay b).saveAddress = none →
        ∃ t p w, exec .passChoice s = .next t ∧ t.core.rm.swap = some { roll := q.req.roll, noMount := false } ∧
          t.core.rm.pass = some p ∧ p.kind = .swapUnmount ∧ t.core.roll.seq = some w ∧ w.mount = false ∧ w.bay = b ∧
          t.core.tr.st = .unthreading ∧ t.core.rm.pendingSet = s.core.rm.pendingSet ∧
          t.core.rm.slots = s.core.rm.slots)) ∧
    (∀ b, q.req.kind.positional = true → s.core.roll.mounted = some b → q.req.roll = s.core.mountedRoll →
      s.core.tr.st = .fault → s.core.pins.extStop = false → s.core.pins.filmPresent = true →
      (s.core.roll.bay b).saveAddress = none → (s.core.roll.bay b).selection = 0 →
      ∃ t p w, exec .passChoice s = .next t ∧ t.core.rm.pass = some p ∧ p.kind = .autoRecovery ∧
        t.core.roll.seq = some w ∧ w.mount = true ∧ w.bay = b ∧ w.step = .clear ∧
        t.core.tr.st = .unreferenced ∧ t.core.tr.tensionTest = true ∧ t.core.tr.testCount = some s.core.now ∧
        t.core.rm.pendingSet = s.core.rm.pendingSet ∧ t.core.rm.slots = s.core.rm.slots))

/-- A SCAN's Selection Map read ends: as a read error, BAD_REQUEST with READ_ERROR; with code 10 and no room for 2-byte
images, MAP_DEPTH; either with every count 0, and with Clamp flags 0, the model's reading (notes/assumptions/100.md); with
every code 00, DONE, with MAP_RANGE set when the range of its End Target holds more than 4096 frames of the index; and otherwise the codes stand and the pass goes on, here to extend for a start that is not in the index. That
the range ends at the first entry, from the start frame on, that the End Target names is the model's choice
(notes/assumptions/44.md), and the MAP_RANGE clause rests on it. -/
def Obligations.SelectionMapReadEnds : Prop :=
  ∀ (a n : Nat) (q : Pass) (s : State), s.ready = true → s.core.port.boardFlight = [.selectionMap a n] →
    s.core.rm.pass = some q → q.act = .mapRead → q.ending = none → q.kind = .request .scan → q.req.kind = .scan →
    q.decided = false → q.waitStop = false → q.waitProbe = false → s.core.cap.idle = true → s.core.tr.steady = true →
    s.core.tr.waiting = none →
    (∃ t, exec (.selectionMapReadDone .error) s = .next t ∧ t.core.tr = s.core.tr ∧
      t.core.port.results = s.core.port.results ++
        [.result { Return.plain q.slot q.stamp q.req.notify q.takenAt .badRequest 0x0E with endsPass := true }]) ∧
    (∀ (bs : List Byte) (codes : List Nat),
      codes = mapCodes bs (if q.req.endTarget.isSome then 4096 else q.req.count) →
      (2 ∈ codes → s.core.port.setup.slotAlloc < 64 + s.core.prof.width * s.core.prof.height * 2 + 4 →
        ∃ t, exec (.selectionMapReadDone (.data bs)) s = .next t ∧ t.core.tr = s.core.tr ∧
          t.core.port.results = s.core.port.results ++
            [.result { Return.plain q.slot q.stamp q.req.notify q.takenAt .badRequest 0x0F with endsPass := true }]) ∧
      ((∀ k ∈ codes, k = 0) → q.beyondEnd = false → q.beyondFull = false →
        ∃ t r, exec (.selectionMapReadDone (.data bs)) s = .next t ∧
          t.core.port.results = s.core.port.results ++ [.result r] ∧ r.slot = q.slot ∧ r.stamp = q.stamp ∧
          r.outcome = .done ∧ r.missed = 0 ∧ t.core.tr = s.core.tr ∧
          (q.size ≠ none → r.clamps = q.clamps) ∧
          (∀ n y e, q.size = none → q.req.endTarget = some y → s.core.ix.find q.req.target = some n →
            s.core.ix.findFrom n y = some e →
            (4096 < e - n + 1 → r.clamps.testBit 1 = true) ∧ (e - n + 1 ≤ 4096 → r.clamps = q.clamps))) ∧
      (2 ∉ codes → (∃ k ∈ codes, k ≠ 0) → s.core.ix.find q.req.target = none → s.core.ix.full = false →
        s.core.tr.p ≤ s.core.ix.frontier →
        ∃ t p, exec (.selectionMapReadDone (.data bs)) s = .next t ∧ t.core.rm.pass = some p ∧ p.codes = some codes ∧
          p.act = .extending 0 ∧ p.st = .extending ∧ t.core.tr.st = .move ∧ t.core.tr.dir = .forward))

/-! ## Grants and Returns -/

/-- A grant issues the transaction that the arbiter chose, and its requester goes on: the reads of the Board Reader, of
which one of a HELD slot is no look (notes/assumptions/41.md), and of the Reservation Reader; an index record's writes up to its tail stamp, with which an EXPORT is returned DONE; a Taken
Stamp, which the model writes in the Result Writer's turn (notes/assumptions/42.md); a Return's fields in two runs, with P and
the elapsed time sampled at the first; an image's tail zero, header, rows in runs of at most 256 bytes, closing fields and
tail stamp, with which it is complete, and with the report of a flyby walk's last frame the pass issues STOP (by the text
of R159, notes/assumptions/69.md); and a snapshot's writes. That a line stays in the Line FIFO's fill until its last run has
been written is the model's choice (notes/assumptions/81.md). With no transaction ready it does nothing. -/
def Obligations.GrantIssuesTransaction : Prop :=
  (∀ s : State, s.core.modes.mode ≠ .held → s.arbitrate = none → exec .memoryPortGrant s = .next s) ∧
  (∀ (b : BoardRead) (rest : List BoardRead) (x : Transaction) (s : State), s.ready = true →
    s.core.port.boardQueue = b :: rest → s.arbitrate = some (.boardReader, x) →
    exec .memoryPortGrant s = .next (s.leaves (s.core.setPort { s.core.port with
      last := .boardReader, issued := some x, boardQueue := rest, boardFlight := s.core.port.boardFlight ++ [b]
      dropped := match b with
        | .slot n w =>
          if s.core.rm.slots[n]? = some .lookable then s.core.port.dropped else s.core.port.dropped ++ [(n, w)]
        | _ => s.core.port.dropped })) ∧
    (∀ n w, b = .slot n w → x = .read .boardReader (slotAddress (s.core.port.workArea.getD 0) n 0) 128) ∧
    (∀ a, b = .profile a → x = .read .boardReader a 256)) ∧
  (∀ (x : Transaction) (s : State), s.ready = true → s.arbitrate = some (.reservationReader, x) →
    x = .read .reservationReader (s.core.port.setup.ringBase + s.core.cap.cursor * s.core.port.setup.slotAlloc) 4 ∧
    exec .memoryPortGrant s = .next (s.leaves ((s.core.setPort { s.core.port with
      last := .reservationReader, issued := some x }).setCap { s.core.cap with reservation := .flight }))) ∧
  (∀ (j : ExportJob) (x : Transaction) (s : State), s.ready = true → s.core.porter.job = .writing j →
    s.arbitrate = some (.indexPorter, x) →
    (j.issued < j.count + 3 →
      exec .memoryPortGrant s = .next (s.leaves ((s.core.setPort { s.core.port with
        last := .indexPorter, issued := some x }).setPorter { s.core.porter with
          job := .writing { j with issued := j.issued + 1 } }))) ∧
    (∀ (slot stamp : Nat) (e : Export), j.issued = j.count + 3 → j.transfer = .exportFor slot stamp →
      s.core.rm.exports = [e] → e.slot = slot → e.stamp = stamp → s.core.roll.seq = none →
      x = .write .indexPorter (j.address + 0x20 + 24 * j.count) (bytesOf 4 j.stamp) ∧
      ∃ t, exec .memoryPortGrant s = .next t ∧ t.core.porter.job = .idle ∧
        t.core.porter.waiting = s.core.porter.waiting ∧ t.core.rm.exports = [] ∧
        t.core.port.results = s.core.port.results ++
          [.result { Return.plain slot stamp e.notify e.takenAt .done 0 with indexed := j.count }] ∧
        t.core.ix = s.core.ix)) ∧
  (∀ (slot stamp : Nat) (rest : List ResultItem) (x : Transaction) (s : State), s.ready = true →
    s.core.port.results = .taken slot stamp :: rest → s.arbitrate = some (.resultWriter, x) →
    x = .write .resultWriter (slotAddress (s.core.port.workArea.getD 0) slot 0x40) (bytesOf 2 stamp) ∧
    exec .memoryPortGrant s = .next (s.leaves (s.core.setPort { s.core.port with
      last := .resultWriter, issued := some x, results := rest }))) ∧
  (∀ (r : Return) (rest : List ResultItem) (x : Transaction) (s : State), s.ready = true →
    s.core.port.results = .result r :: rest → s.arbitrate = some (.resultWriter, x) →
    (r.issued = 0 →
      x = .write .resultWriter (slotAddress (s.core.port.workArea.getD 0) r.slot 0x44)
        (bytesOf 1 r.outcome.code ++ bytesOf 1 r.detail ++ bytesOf 2 r.clamps ++ bytesOf 2 r.captured
          ++ bytesOf 2 r.missed ++ bytesOf 2 r.indexed) ∧
      exec .memoryPortGrant s = .next (s.leaves (s.core.setPort { s.core.port with
        last := .resultWriter, issued := some x
        results := .result { r with
          issued := 1
          sampled := some (s.core.tr.p, min (s.core.now - r.takenAt) 4294967295) } :: rest }))) ∧
    (∀ p e, r.issued = 1 → r.sampled = some (p, e) →
      x = .write .resultWriter (slotAddress (s.core.port.workArea.getD 0) r.slot 0x50)
        (bytesOf 4 r.firstImage ++ bytesOf 4 r.lastImage ++ signedBytes 4 p ++ bytesOf 4 e) ∧
      exec .memoryPortGrant s = .next (s.leaves (s.core.setPort { s.core.port with
        last := .resultWriter, issued := some x, results := .result { r with issued := 2 } :: rest })))) ∧
  (∀ (im : Image) (rest : List Image) (x : Transaction) (s : State), s.ready = true →
    s.core.cap.filling = im :: rest → s.arbitrate = some (.imageWriter, x) →
    (im.headDone = 0 →
      x = .write .imageWriter (im.address + im.alloc - 4) (bytesOf 4 0) ∧
      exec .memoryPortGrant s = .next (s.leaves ((s.core.setPort { s.core.port with
        last := .imageWriter, issued := some x }).setCap { s.core.cap with
          filling := { im with headDone := 1, imageStamp := s.core.prof.id * 16777216 + s.core.cap.counter } :: rest }))) ∧
    (im.headDone = 1 →
      x = .write .imageWriter im.address
        (bytesOf 4 im.imageStamp ++ bytesOf 4 im.roll ++ bytesOf 4 im.frame ++ signedBytes 4 im.lead
          ++ signedBytes 4 im.pStrobe ++ bytesOf 2 im.step
          ++ bytesOf 2 (im.unsettled.toNat + 8 * im.fullDepth.toNat + 16 * im.stopMode.toNat + 32 * im.recapture.toNat)
          ++ bytesOf 4 0 ++ bytesOf 2 im.width ++ bytesOf 2 im.height ++ bytesOf 1 im.depth ++ bytesOf 1 im.slot
          ++ bytesOf 2 im.stamp ++ bytesOf 2 0 ++ bytesOf 2 0 ++ bytesOf 24 0) ∧
      exec .memoryPortGrant s = .next (s.leaves ((s.core.setPort { s.core.port with
        last := .imageWriter, issued := some x }).setCap { s.core.cap with
          filling := { im with headDone := 2 } :: rest }))) ∧
    (∀ (l : List Byte) (more : List (List Byte)), im.headDone = 2 → im.rowsDone < im.entered →
      s.core.cap.fifo = l :: more →
      x = .write .imageWriter (im.address + 0x40 + im.rowsDone * im.width * im.depth + im.chunksDone * 256)
        ((l.drop (im.chunksDone * 256)).take 256) ∧
      ((im.chunksDone + 1) * 256 < l.length →
        exec .memoryPortGrant s = .next (s.leaves ((s.core.setPort { s.core.port with
          last := .imageWriter, issued := some x }).setCap { s.core.cap with
            filling := { im with chunksDone := im.chunksDone + 1 } :: rest }))) ∧
      (l.length ≤ (im.chunksDone + 1) * 256 →
        ∃ t, exec .memoryPortGrant s = .next t ∧ t.core.cap.fifo = more ∧ t.core.port.issued = some x ∧
          t.core.cap.filling = { im with rowsDone := im.rowsDone + 1, chunksDone := 0 } :: rest ∧
          t.core.cap.counter = s.core.cap.counter ∧ t.core.ix = s.core.ix)) ∧
    (im.headDone = 2 → im.rowsDone = im.entered → im.ended = true →
      (im.closed = false →
        x = .write .imageWriter (im.address + 0x16)
          (bytesOf 2 (im.unsettled.toNat + 2 * (im.soft.getD false).toNat + 4 * im.damaged.toNat
              + 8 * im.fullDepth.toNat + 16 * im.stopMode.toNat + 32 * im.recapture.toNat)
            ++ bytesOf 4 (im.score.getD 0) ++ bytesOf 2 im.width ++ bytesOf 2 im.height ++ bytesOf 1 im.depth
            ++ bytesOf 1 im.slot ++ bytesOf 2 im.stamp ++ bytesOf 2 im.entered ++ bytesOf 2 0) ∧
        exec .memoryPortGrant s = .next (s.leaves ((s.core.setPort { s.core.port with
          last := .imageWriter, issued := some x }).setCap { s.core.cap with
            filling := { im with closed := true } :: rest }))) ∧
      (im.closed = true → (∀ p, s.core.rm.pass = some p → p.ending ≠ none) →
        x = .write .imageWriter (im.address + im.alloc - 4) (bytesOf 4 im.imageStamp) ∧
        ∃ t, exec .memoryPortGrant s = .next t ∧ t.core.cap.filling = rest ∧ t.core.port.issued = some x ∧
          t.core.cap.counter = (if 16777215 ≤ s.core.cap.counter then 1 else s.core.cap.counter + 1) ∧
          t.core.ix = s.core.ix.captureReport im.frame im.lead
            (match im.soft, im.score with
            | some soft, some v => some (v, soft)
            | _, _ => none) ∧
          t.core.tr = s.core.tr) ∧
      (∀ p n k, im.closed = true → s.core.rm.pass = some p → p.ending = none → p.act = .walkTail (k + 1) →
        p.start = some n → p.size = some (k + 1) → im.frame = n + k → s.core.tr.st = .move → 0 < s.core.tr.vRef →
        s.core.tr.phase ≠ .settle →
        ∃ t w, exec .memoryPortGrant s = .next t ∧ t.core.cap.filling = rest ∧ t.core.rm.pass = some w ∧
          w.stateAt k = (if im.damaged then .missed else .delivered) ∧ w.lastImage = im.imageStamp ∧
          (im.damaged = true → p.retryList.length < 256 → im.frame ∈ w.retryList) ∧
          (im.damaged = false → im.frame ∉ w.retryList) ∧ w.act = .walkStop ∧ t.core.tr.phase = .brake .stop))) ∧
  (∀ (w : Nat × List Byte) (left : List (Nat × List Byte)) (b : Bool) (u : Option (Triggers × Bool)) (x : Transaction)
    (s : State), s.ready = true → s.front.snapMark = .writing (w :: left) b u →
    s.arbitrate = some (.statusWriter, x) →
    x = .write .statusWriter (addr (s.core.port.workArea.getD 0) (0x400 + w.1)) w.2 ∧
    ∃ c, c = s.core.setPort { s.core.port with last := .statusWriter, issued := some x } ∧
      exec .memoryPortGrant s = .next (State.leaves { s with front := s.front.snapshotIssued c } c))

/-- The arbiter's choice: an escalated Image Writer with a write ready goes first; otherwise, with the Image Writer not
escalated or with no write ready, the first requester with a transaction ready after the one granted last, in the circle Image Writer, Board Reader, Result Writer, Index Porter,
Status Writer, Reservation Reader; and none only when none has one. -/
def Obligations.RoundRobinIsFair : Prop :=
  ∀ s : State,
    (s.arbitrate = none ↔ ∀ r, s.offer r = none) ∧
    (∀ x, s.core.port.escalated = true → s.offer .imageWriter = some x → s.arbitrate = some (.imageWriter, x)) ∧
    (∀ r x, s.arbitrate = some (r, x) → s.offer r = some x) ∧
    (∀ r x, s.core.port.escalated = false ∨ s.offer .imageWriter = none → s.arbitrate = some (r, x) →
      ∀ (circle : List Requester) (i : Nat),
        circle = [.imageWriter, .boardReader, .resultWriter, .indexPorter, .statusWriter, .reservationReader] →
        circle[i]? = some s.core.port.last →
        ∃ d, 1 ≤ d ∧ d ≤ 6 ∧ circle[(i + d) % 6]? = some r ∧
          ∀ e y, 1 ≤ e → e < d → circle[(i + e) % 6]? = some y → s.offer y = none)

/-- A request ends when its Return Stamp is written: its slot is LOOKABLE, it has left the Pending Set, and a pass ends
with it. A Return with NOTIFY counts: the count's reaching Return Count raises RETURN, and below it the Return Delay
timer is armed. The timer's expiry raises RETURN; with no timer running it does nothing. -/
def Obligations.ReturnsEndRequestsAndNotify : Prop :=
  (∀ (r : Return) (rest : List ResultItem) (x : Transaction) (s : State), s.ready = true →
    s.core.port.results = .result r :: rest → r.issued = 2 → s.arbitrate = some (.resultWriter, x) →
    r.slot < s.core.rm.slots.length →
    x = .write .resultWriter (slotAddress (s.core.port.workArea.getD 0) r.slot 0x42) (bytesOf 2 r.stamp) ∧
    ∃ t, exec .memoryPortGrant s = .next t ∧ t.core.port.results = rest ∧ t.core.port.issued = some x ∧
      t.core.rm.slots[r.slot]? = some .lookable ∧ (∀ m, m ≠ r.slot → t.core.rm.slots[m]? = s.core.rm.slots[m]?) ∧
      (∀ q, q ∈ t.core.rm.pendingSet ↔ q ∈ s.core.rm.pendingSet ∧ (q.slot ≠ r.slot ∨ q.stamp ≠ r.stamp)) ∧
      (r.endsPass = true → t.core.rm.pass = none) ∧ (r.endsPass = false → t.core.rm.pass = s.core.rm.pass) ∧
      (r.notify = false → t.core.rm.notifyCount = s.core.rm.notifyCount ∧ t.core.rm.returnDelay = s.core.rm.returnDelay ∧
        t.front.causeReturn = s.front.causeReturn) ∧
      (r.notify = true → s.core.port.setup.returnCount ≤ s.core.rm.notifyCount + 1 →
        t.core.rm.notifyCount = 0 ∧ t.core.rm.returnDelay = none ∧ t.front.causeReturn = true) ∧
      (r.notify = true → s.core.rm.notifyCount + 1 < s.core.port.setup.returnCount →
        t.core.rm.notifyCount = s.core.rm.notifyCount + 1 ∧ t.front.causeReturn = s.front.causeReturn ∧
        t.core.rm.returnDelay =
          (if s.core.rm.returnDelay = none ∧ s.core.port.setup.returnDelay ≠ 0 then some s.core.now
           else s.core.rm.returnDelay))) ∧
  (∀ (x : Nat) (s : State), s.ready = true → s.core.rm.returnDelay = some x →
    ∃ t, exec .returnDelayExpiry s = .next t ∧ t.core.rm = { s.core.rm with notifyCount := 0, returnDelay := none } ∧
      t.front.causeReturn = true ∧ t.front.causeFault = s.front.causeFault ∧ t.core.tr = s.core.tr ∧
      t.core.store = s.core.store) ∧
  (∀ s : State, s.ready = true → s.core.rm.returnDelay = none →
    exec .returnDelayExpiry s = .next (s.leaves s.core))

/-! ## Film -/

/-- A metering count moves P by one in its direction, held at 16,000,000 and at -400,000, and the lengths of film on the
reels and the travel of an unthread follow, with the supply reel's window in a forward count. It can bring a run to its
end margin, or a reverse leg to the reverse margin, where it brakes to FILM_END; the next kept sample after a reverse
count begins a motion. First with no kept sample and no SETTLE. With a compare armed, here for the last frame of a flyby
walk, a forward count past its target reports the frame LATE, and the walk stops; one at its value or above fires the
strobe, and the walk goes on until the image is reported (by the text of R159, notes/assumptions/69.md); below its value
nothing happens to it. A SETTLE that comes within Stop Tolerance ends in HOLD: a stop-mode frame has
arrived, and a PROBE's frame has its probe begun at the band of P, around the step the map gives. -/
def Obligations.CountMovesFilm : Prop :=
  (∀ (image blip edge : Nat) (s : State), s.ready = true →
    (s.core.tr.st ≠ .move ∨ s.core.tr.phase ≠ .settle) →
    (s.core.cap.armed = none → s.core.cap.flyby = none →
      s.core.tr.p = 16000000 ∨ (s.core.tr.p < 16000000 ∧ (s.core.tr.p + 1) % 4 ≠ 0) ∨
        (s.core.tr.st ≠ .move ∧ s.core.tr.st ≠ .threading) →
      ∃ t, exec (.meteringCount .forward image blip edge) s = .next t ∧
        t.core.tr.p = min (s.core.tr.p + 1) 16000000 ∧
        t.core.tr.supply.length = max 0 (s.core.tr.supply.length - 1) ∧
        t.core.tr.takeUp.length = max 0 (s.core.tr.takeUp.length + 1) ∧ t.core.tr.travel = s.core.tr.travel - 1 ∧
        t.core.tr.supply.radius = s.core.tr.supply.radius ∧ t.core.tr.st = s.core.tr.st ∧ t.core.tr.plan = s.core.tr.plan ∧
        (∀ w, s.core.tr.supply.window = some w → w.dir ≠ some .reverse →
          t.core.tr.supply.window = some { w with counts := w.counts + 1, dir := some .forward }) ∧
        (∀ w, s.core.tr.supply.window = some w → w.dir = some .reverse → t.core.tr.supply.window = none) ∧
        (∀ pl d v e ext, s.core.tr.st = .move → s.core.tr.plan = some pl → pl.order = .run d v e ext →
          s.core.tr.dir = .forward → s.core.tr.phase = .cruise →
          (t.core.tr.lRem ≤ s.core.prof.endMargin → t.core.tr.phase = .brake .filmEnd) ∧
          ((s.core.prof.endMargin : Int) < t.core.tr.lRem → t.core.tr.phase = .cruise)) ∧
        t.core.ix = s.core.ix ∧ t.core.cap = s.core.cap ∧ t.core.rm = s.core.rm ∧ t.front = s.front) ∧
    (s.core.ix.motion = none →
      ∃ t, exec (.meteringCount .reverse image blip edge) s = .next t ∧
        t.core.tr.p = max (s.core.tr.p - 1) (-400000) ∧
        t.core.tr.supply.length = max 0 (s.core.tr.supply.length + 1) ∧
        t.core.tr.takeUp.length = max 0 (s.core.tr.takeUp.length - 1) ∧ t.core.tr.travel = s.core.tr.travel + 1 ∧
        t.core.tr.st = s.core.tr.st ∧
        (∀ pl, s.core.tr.st = .move → s.core.tr.plan = some pl → s.core.tr.dir = .reverse → s.core.tr.phase = .cruise →
          (t.core.tr.p ≤ -(s.core.prof.reverseMargin : Int) → t.core.tr.phase = .brake .filmEnd) ∧
          (-(s.core.prof.reverseMargin : Int) < t.core.tr.p → t.core.tr.phase = .cruise)) ∧
        (∀ l, s.core.tr.st = .unthreading → t.core.tr.lTu = some l →
          t.core.tr.unthreadSlow = (s.core.tr.unthreadSlow || decide (l < 400000))) ∧
        t.core.ix = { s.core.ix with
          begins := true
          detector := if s.core.ix.searching then { st := .resync, run := none } else s.core.ix.detector } ∧
        t.core.cap = s.core.cap ∧ t.core.rm = s.core.rm ∧ t.front = s.front) ∧
    (∀ (a : Armed) (q : Pass) (n k : Nat), s.core.cap.armed = some a →
      (∀ f, s.core.cap.flyby = some f → f.frame = a.frame) → s.core.tr.p < 16000000 → (s.core.tr.p + 1) % 4 ≠ 0 →
      s.core.tr.st = .move → 0 < s.core.tr.vRef → s.core.rm.pass = some q → q.ending = none → q.act = .walking k →
      q.start = some n → q.size = some (k + 1) → a.frame = n + k →
      (s.core.tr.p + 1 < a.compare → s.core.tr.p + 1 ≤ a.target →
        ∃ t, exec (.meteringCount .forward image blip edge) s = .next t ∧ t.core.cap = s.core.cap ∧
          t.core.rm = s.core.rm ∧ t.core.tr.p = s.core.tr.p + 1 ∧ t.core.pins = s.core.pins) ∧
      (a.compare ≤ s.core.tr.p + 1 → s.core.tr.p + 1 ≤ a.target →
        ∃ t w im, exec (.meteringCount .forward image blip edge) s = .next t ∧ t.core.tr.p = s.core.tr.p + 1 ∧
          t.core.pins.strobes = s.core.pins.strobes + 1 ∧ t.core.cap.armed = none ∧ t.core.cap.flyby = none ∧
          t.core.cap.camera = .readout ∧ t.core.cap.inHand = none ∧ t.core.cap.filling = s.core.cap.filling ++ [im] ∧
          im.frame = a.frame ∧ im.ringSlot = s.core.cap.inHand.getD 0 ∧ im.pStrobe = s.core.tr.p + 1 ∧
          im.stopMode = false ∧ im.fullDepth = a.fullDepth ∧ im.depth = (if a.fullDepth then 2 else s.core.prof.depth) ∧
          im.slot = q.slot ∧ im.stamp = q.stamp ∧ im.headDone = 0 ∧ im.entered = 0 ∧
          t.core.rm.pass = some w ∧ w.stateAt k = .fired ∧ w.captured = true ∧ w.act = .walkTail (k + 1) ∧
          t.core.tr.st = .move ∧ t.core.tr.plan = s.core.tr.plan ∧ t.core.tr.vRef = s.core.tr.vRef) ∧
      (a.target < s.core.tr.p + 1 →
        ∃ t w, exec (.meteringCount .forward image blip edge) s = .next t ∧ t.core.pins = s.core.pins ∧
          t.core.cap.armed = none ∧ t.core.cap.flyby = none ∧ t.core.cap.filling = s.core.cap.filling ∧
          t.core.cap.inHand = s.core.cap.inHand ∧ t.core.rm.pass = some w ∧ w.stateAt k = .missed ∧
          w.act = .walkStop ∧ (q.retryList.length < 256 → a.frame ∈ w.retryList) ∧ t.core.tr.phase = .brake .stop))) ∧
  (∀ (image blip edge k : Nat) (pl : Plan) (q : Pass) (target : Int) (s : State), s.ready = true → s.core.tr.st = .move →
    s.core.tr.phase = .settle → s.core.tr.plan = some pl → pl.order = .position target → s.core.unmoved = true →
    s.core.cap.flyby = none → s.core.focus.probe = none → s.core.tr.p < 16000000 → (s.core.tr.p + 1) % 4 ≠ 0 →
    |s.core.tr.p + 1 - target| ≤ (s.core.prof.stopTolerance : Int) → s.core.rm.pass = some q → q.films = true →
    q.ending = none → q.act = .positioning k → q.target = target →
    (∀ x, q.req.kind ≠ .probe → s.core.cap.stop = some x → s.core.cap.inHand = none →
      ∃ t w, exec (.meteringCount .forward image blip edge) s = .next t ∧ t.core.tr.st = .hold ∧
        t.core.tr.tensioning = false ∧ t.core.tr.plan = none ∧ t.core.tr.vRef = 0 ∧ t.core.tr.p = s.core.tr.p + 1 ∧
        t.core.rm.pass = some w ∧ w.act = .atFrame k ∧ t.core.cap.stop = some { x with arrived := true }) ∧
    (q.req.kind = .probe → s.core.cap.stop = none →
      ∃ t w pr, exec (.meteringCount .forward image blip edge) s = .next t ∧ t.core.tr.st = .hold ∧
        t.core.tr.plan = none ∧ t.core.rm.pass = some w ∧ w.act = .probing k ∧ w.st = .probing ∧
        t.core.focus.probe = some pr ∧ pr.frame = q.start.getD 0 + k ∧ pr.target = target ∧ pr.scores = [] ∧
        pr.shift = 0 ∧ pr.cancelled = false ∧
        pr.band = focusBand s.core.prof (s.core.tr.p + 1 - (s.core.prof.gateOffset : Int)) ∧
        ((∀ e, s.core.focus.map[pr.band]? = some (some e) → e.probes < 2) → pr.delta = s.core.prof.probeStep) ∧
        (∀ e, s.core.focus.map[pr.band]? = some (some e) → 2 ≤ e.probes →
          pr.delta = max 4 (s.core.prof.probeStep / 2)) ∧
        pr.centre = probeCentre s.core.prof pr.delta ((s.core.focus.choose s.core.prof pr.band).1 : Int) ∧
        t.core.focus.commanded = clampFocus s.core.prof (pr.centre - 2 * pr.delta) ∧
        t.core.focus.map = s.core.focus.map))

/-- The edge detector, and what its edges, the lanes and the deadlines bring about in EXTEND.
In each state a sample of one kind opens a run or lets it grow, and the other kind clears it; the sample that makes the
run Confirm Count long changes the state, and from GAP and FRAME confirms an edge at the run's first coordinate,
4 × (Confirm Count − 1) counts behind it. Settled is GAP with no run. From GAP with no run, n frame-like samples confirm
a leading edge exactly at the Confirm Count-th. The first sample of a motion enters RESYNC. A leading edge opens a frame,
or, within Min Pitch of the last entry, one to be merged into it; the trailing edge appends the frame, or widens the last
entry; the 16,384th entry makes the index full. A frame that waits for its blip is appended with the pulse's class when
the pulse ends. A splice clears the drift. At the deadline a missing frame is predicted, and after three LOST is entered.
A pulse that starts while a merged frame is open leaves the pulse that was pending before; that such a one stays pending
for the next frame is the model's reading (notes/assumptions/52.md), and so is the Length of 1 of a frame whose trailing
coordinate is not above its leading one (notes/assumptions/83.md), that a Predicted entry is never LONG
(notes/assumptions/95.md), and that each motion acts once on a deadline (notes/assumptions/61.md). -/
def Obligations.DetectorConfirmsEdges : Prop :=
  (∀ (x : IndexUnit) (p : Profile) (start : Int) (f : OpenFrame), x.openFrame = some f → f.merged = true →
    (x.assignPulse p start).pendingPulse = x.pendingPulse ∧
    (x.assignPulse p start).openFrame = some { f with blip := some { start := start, length := 0, cls := none } }) ∧
  (∀ (confirm : Nat) (x : Int), 2 ≤ confirm →
    (∀ n : Nat, n + 1 < confirm →
      ((List.range (n + 1)).foldl (fun (d : Detector) (i : Nat) => (d.step confirm (x + 4 * i) true).1)
        { st := .gap, run := none }) = { st := .gap, run := some (x, n + 1) } ∧
      (Detector.step { st := .gap, run := some (x, n + 1) } confirm (x + 4 * (n + 1)) false) =
        ({ st := .gap, run := none }, none)) ∧
    (((List.range (confirm - 1)).foldl (fun (d : Detector) (i : Nat) => (d.step confirm (x + 4 * i) true).1)
        { st := .gap, run := none }).step confirm (x + 4 * (confirm - 1)) true) =
      ({ st := .frame, run := none }, some (true, x)) ∧
    (((List.range (confirm - 1)).foldl (fun (d : Detector) (i : Nat) => (d.step confirm (x + 4 * i) false).1)
        { st := .frame, run := none }).step confirm (x + 4 * (confirm - 1)) false) =
      ({ st := .gap, run := none }, some (false, x)) ∧
    (((List.range (confirm - 1)).foldl (fun (d : Detector) (i : Nat) => (d.step confirm (x + 4 * i) false).1)
        { st := .resync, run := none }).step confirm (x + 4 * (confirm - 1)) false) =
      ({ st := .gap, run := none }, none) ∧
    (∀ (st : DetState) (kind : Bool), kind = decide (st = .gap) →
      (∀ r, Detector.step { st := st, run := r } confirm x (!kind) = ({ st := st, run := none }, none)) ∧
      Detector.step { st := st, run := none } confirm x kind = ({ st := st, run := some (x, 1) }, none) ∧
      ∀ (f : Int) (n : Nat),
        (n + 1 < confirm →
          Detector.step { st := st, run := some (f, n) } confirm x kind = ({ st := st, run := some (f, n + 1) }, none)) ∧
        (n + 1 = confirm →
          Detector.step { st := st, run := some (f, n) } confirm x kind =
            (match st with
            | .resync => ({ st := .gap, run := none }, none)
            | .gap => ({ st := .frame, run := none }, some (true, f))
            | .frame => ({ st := .gap, run := none }, some (false, f))))) ∧
    (∀ d : Detector, d.settled = true ↔ d.st = .gap ∧ d.run = none)) ∧
  (∀ (image blip edge : Nat) (p : Profile) (x : IndexUnit) (pos : Int) (s : State), s.ready = true →
    s.core.sampling = true → s.core.indexesOn = true → p = s.core.prof → x = s.core.ix → pos = s.core.tr.p + 1 →
    (x.begins = true → x.motion = none → x.waitingFrame = none → x.full = false → 2 ≤ p.confirmCount →
      ∃ t m, exec (.meteringCount .forward image blip edge) s = .next t ∧ t.core.ix.begins = false ∧
        t.core.ix.motion = some m ∧ m.start = pos ∧ m.matched = [] ∧ (m.ahead = true ↔ x.frontier < pos) ∧
        t.core.ix.detector = { st := .resync, run := if differs p.edgeThreshold x.refImage image then none else some (pos, 1) } ∧
        t.core.ix.entries = x.entries ∧ t.core.ix.frontier = x.frontier ∧ t.core.tr.p = pos ∧ t.front = s.front) ∧
    (x.inExtend pos = true →
      (s.core.lanesQuiet blip edge = true →
        (∀ f n, x.detector = { st := .gap, run := some (f, n) } → n + 1 = p.confirmCount →
          differs p.edgeThreshold x.refImage image = true →
          ∃ t, exec (.meteringCount .forward image blip edge) s = .next t ∧
            t.core.ix.detector = { st := .frame, run := none } ∧ t.core.ix.entries = x.entries ∧
            t.core.ix.frontier = x.frontier ∧ t.core.rm = s.core.rm ∧ t.front = s.front ∧
            ((∀ l, x.entries.getLast? = some l → l.lead + (p.minPitch : Int) ≤ f) →
              t.core.ix.openFrame = some {
                lead := max f x.frontier, merged := false, gapBefore := false, trail := none
                blip := x.pendingPulse.filter (fun h => decide (max f x.frontier - (p.blipLead : Int) ≤ h.start)) } ∧
              t.core.ix.pendingPulse = none) ∧
            (∀ l, x.entries.getLast? = some l → f < l.lead + (p.minPitch : Int) →
              t.core.ix.openFrame =
                some { lead := f, merged := true, gapBefore := false, blip := none, trail := none } ∧
              t.core.ix.pendingPulse = x.pendingPulse.filter fun h => decide (h.start < f))) ∧
        (∀ f n o, x.detector = { st := .frame, run := some (f, n) } → n + 1 = p.confirmCount →
          differs p.edgeThreshold x.refImage image = false → x.openFrame = some o → x.waitingFrame = none →
          ∃ t, exec (.meteringCount .forward image blip edge) s = .next t ∧
            t.core.ix.detector = { st := .gap, run := none } ∧ t.core.ix.openFrame = none ∧
            t.core.ix.frontier = max x.frontier pos ∧
            (o.merged = false → o.blip = none →
              t.core.ix.entries.take x.entries.length = x.entries ∧
              t.core.ix.entries[x.entries.length]? = some {
                lead := o.lead, length := max 1 (f - o.lead).toNat, origin := .detected, blip := .none
                batch := (x.entries.getLast?.map (·.batch)).getD 0
                document := (x.entries.getLast?.map (·.document)).getD 0
                page := min ((x.entries.getLast?.map (·.page)).getD 0 + 1) 65535
                spliceBefore := x.splicePending, short := decide (max 1 (f - o.lead).toNat < p.minLength)
                long := decide (p.maxLength < max 1 (f - o.lead).toNat), gapBefore := o.gapBefore, soft := false
                captured := false
                saturated := decide (65535 ≤ (x.entries.getLast?.map (·.page)).getD 0)
                captureCount := 0, score := none } ∧
              (x.entries.length + 1 = 16384 → t.core.ix.full = true ∧ t.core.ix.entries.length = 16384 ∧
                t.front.faults = s.front.queued
                  ⟨.indexFull, .indexUnit, 16384, BitVec.ofInt 28 (max x.frontier pos)⟩)) ∧
            (o.merged = true →
              (o.blip = none → t.core.ix.pendingPulse = x.pendingPulse) ∧
              ∀ h, o.blip = some h → t.core.ix.pendingPulse = if f < h.start then some h else x.pendingPulse) ∧
            (∀ l before, o.merged = true → x.entries = before ++ [l] →
              t.core.ix.entries.take before.length = before ∧
              t.core.ix.entries[before.length]? = some { l with
                length := (f - l.lead).toNat, short := decide ((f - l.lead).toNat < p.minLength)
                long := decide (p.maxLength < (f - l.lead).toNat) })) ∧
        (∀ l q m, x.detector = { st := .gap, run := none } → differs p.edgeThreshold x.refImage image = false →
          x.entries.getLast? = some l → x.pitch = some q → x.motion = some m → m.deadlineDone = false →
          x.waitingFrame = none → l.lead + q + 8 * (p.confirmCount : Int) ≤ pos →
          ∃ t, exec (.meteringCount .forward image blip edge) s = .next t ∧ t.core.ix.frontier = max x.frontier pos ∧
            (x.predictedRun < 3 →
              t.core.ix.predictedRun = x.predictedRun + 1 ∧ t.core.ix.entries = x.entries ++ [{
                lead := l.lead + q, length := max p.minLength (q - x.gap).toNat, origin := .predicted, blip := .none
                batch := l.batch, document := l.document, page := min (l.page + 1) 65535
                spliceBefore := x.splicePending, short := false, long := false, gapBefore := false, soft := false
                captured := false, saturated := decide (65535 ≤ l.page), captureCount := 0, score := none }]) ∧
            (3 ≤ x.predictedRun → t.core.ix.lost = true ∧ t.core.ix.entries = x.entries ∧ t.front = s.front))) ∧
      (∀ l o h q y, x.detector = { st := .gap, run := none } → differs p.edgeThreshold x.refImage image = false →
        x.edgePulse = none → differs p.edgeThreshold x.refEdge edge = false →
        x.blipPulse = some q → differs p.edgeThreshold x.refBlip blip = false →
        x.waitingFrame = some o → o.blip = some h → h.start = q.start → h.cls = none → o.trail = some y →
        x.entries.getLast? = some l → l.batch < 65535 → l.document < 65535 → l.page < 65535 →
        ∃ t e, exec (.meteringCount .forward image blip edge) s = .next t ∧
          t.core.ix.entries.take x.entries.length = x.entries ∧ t.core.ix.entries[x.entries.length]? = some e ∧
          e.lead = o.lead ∧ e.length = max 1 (y - o.lead).toNat ∧ e.origin = .detected ∧ e.saturated = false ∧
          t.core.ix.blipPulse = none ∧
          (q.length < p.smallMax → q.length < p.mediumMax →
            e.blip = .small ∧ e.batch = l.batch ∧ e.document = l.document ∧ e.page = l.page + 1) ∧
          (p.smallMax ≤ q.length → q.length < p.mediumMax →
            e.blip = .medium ∧ e.batch = l.batch ∧ e.document = l.document + 1 ∧ e.page = 1) ∧
          (p.mediumMax ≤ q.length → p.smallMax ≤ q.length →
            e.blip = .large ∧ e.batch = l.batch + 1 ∧ e.document = 1 ∧ e.page = 1)) ∧
      (∀ q m, x.detector = { st := .gap, run := none } → differs p.edgeThreshold x.refImage image = false →
        x.blipPulse = none → differs p.edgeThreshold x.refBlip blip = false →
        x.edgePulse = some q → differs p.edgeThreshold x.refEdge edge = false → x.motion = some m →
        m.deadlineDone = true →
        ∃ t, exec (.meteringCount .forward image blip edge) s = .next t ∧ t.core.ix.entries = x.entries ∧
          t.core.ix.edgePulse = none ∧ t.core.ix.frontier = max x.frontier pos ∧
          (p.spliceMin ≤ q.length → q.length ≤ p.spliceMax →
            t.core.ix.drift = 0 ∧ t.core.ix.pitch = some (p.nominalPitch : Int) ∧ t.core.ix.splicePending = true) ∧
          (q.length < p.spliceMin ∨ p.spliceMax < q.length →
            t.core.ix.drift = x.drift ∧ t.core.ix.pitch = x.pitch ∧ t.core.ix.splicePending = x.splicePending))))

/-- A tachometer pulse in a driven transport restarts a running stall count, opens a radius window or counts in it; the
64th pulse measures the radius, within the reel's hub and flange, and opens the next; of either reel, the other staying as
it is. The film left that the supply reel's measures can bring a forward run to its end margin, where it brakes to
FILM_END. In a transport that is not
driven the pulse does nothing. -/
def Obligations.TachometerWindowMeasuresRadius : Prop :=
  (∀ (reel : Side) (old : Reel) (s : State), s.ready = true → s.core.tr.timerRuns = true →
    old = (match reel with | .supply => s.core.tr.supply | .takeUp => s.core.tr.takeUp) →
    ∃ (t : State) (r : Reel), exec (.tachometerPulse reel) s = .next t ∧
      (reel = .supply → t.core.tr.supply = r ∧ t.core.tr.takeUp = s.core.tr.takeUp) ∧
      (reel = .takeUp → t.core.tr.takeUp = r ∧ t.core.tr.supply = s.core.tr.supply) ∧
      t.core.tr.p = s.core.tr.p ∧ t.core.tr.st = s.core.tr.st ∧
      t.core.tr.vRef = s.core.tr.vRef ∧ t.core.tr.plan = s.core.tr.plan ∧ t.core.ix = s.core.ix ∧
      t.core.cap = s.core.cap ∧ t.core.rm = s.core.rm ∧ t.front = s.front ∧
      (old.stall ≠ none → r.stall = some s.core.now) ∧ (old.stall = none → r.stall = none) ∧
      (old.window = none → r.window = some { pulses := 0, counts := 0, dir := none } ∧
        r.radius = old.radius ∧ r.length = old.length) ∧
      (∀ w, old.window = some w → w.pulses < 63 →
        r.window = some { w with pulses := w.pulses + 1 } ∧ r.radius = old.radius ∧ r.length = old.length) ∧
      (∀ w g, old.window = some w → 63 ≤ w.pulses → s.core.tr.geometry = some g → g.hub ≤ g.flange →
        r.window = some { pulses := 0, counts := 0, dir := none } ∧
        ∃ m, r.radius = some m ∧ g.hub ≤ m ∧ m ≤ g.flange ∧
          (g.hub ≤ (2 * (w.counts * 565) + 710) / 1420 → (2 * (w.counts * 565) + 710) / 1420 ≤ g.flange →
            m = (2 * (w.counts * 565) + 710) / 1420) ∧
          r.length = ((m ^ 2 - g.hub ^ 2) * 355 / (113 * g.thickness * 5) : Nat)) ∧
      (∀ pl d v e ext, s.core.tr.st = .move → s.core.tr.plan = some pl → pl.order = .run d v e ext →
        s.core.tr.dir = .forward → s.core.tr.phase = .cruise →
        (t.core.tr.lRem ≤ s.core.prof.endMargin → t.core.tr.phase = .brake .filmEnd) ∧
        ((s.core.prof.endMargin : Int) < t.core.tr.lRem → t.core.tr.phase = .cruise)) ∧
      (∀ l, s.core.tr.st = .unthreading → t.core.tr.lTu = some l →
        t.core.tr.unthreadSlow = (s.core.tr.unthreadSlow || decide (l < 400000)))) ∧
  (∀ (reel : Side) (s : State), s.ready = true → s.core.tr.timerRuns = false →
    exec (.tachometerPulse reel) s = .next (s.leaves s.core))

/-- An expiry of the profile timer moves the speed reference toward its goal by at most the active acceleration: toward
Thread Speed in a threading that feeds or seeks, toward the bounded speed of a leg that accelerates. With a compare armed
its target and its value are computed again, from the speed after the ramp (notes/assumptions/49.md). A STOP's braking
that reaches 0 leaves the transport in HOLD, and a pass that is ending no longer waits for it. With no motion under way the
expiry does nothing. -/
def Obligations.ProfileTimerRampsReference : Prop :=
  (∀ s : State, s.ready = true → s.core.tr.st = .threading → s.core.tr.resetBraking = false →
    s.core.tr.threadStep = .feed ∨ s.core.tr.threadStep = .seek →
    ∃ t, exec .profileTimerExpiry s = .next t ∧ t.core.tr.st = .threading ∧ t.core.tr.p = s.core.tr.p ∧
      (s.core.tr.vRef < 50000 → t.core.tr.vRef = min (s.core.tr.vRef + s.core.prof.accel) 50000) ∧
      (50000 ≤ s.core.tr.vRef → t.core.tr.vRef = max (s.core.tr.vRef - s.core.prof.accel) 50000) ∧
      (t.core.tr.vRef < 50000 → t.core.tr.supply.stall = none ∧ t.core.tr.takeUp.stall = none)) ∧
  (∀ (pl : Plan) (s : State), s.ready = true → s.core.tr.st = .move → s.core.tr.plan = some pl →
    s.core.tr.phase = .accel → s.core.limitReached pl = false → s.core.brakeTest pl = none →
    (s.core.cap.armed = none →
      ∃ t, exec .profileTimerExpiry s = .next t ∧ t.core.tr.st = .move ∧ t.core.tr.plan = some pl ∧
        t.core.tr.p = s.core.tr.p ∧
        (s.core.tr.vRef + s.core.prof.accel < s.core.bound * 1000 →
          t.core.tr.vRef = s.core.tr.vRef + s.core.prof.accel ∧ t.core.tr.phase = .accel) ∧
        (s.core.tr.vRef ≤ s.core.bound * 1000 → s.core.bound * 1000 ≤ s.core.tr.vRef + s.core.prof.accel →
          t.core.tr.vRef = s.core.bound * 1000 ∧ t.core.tr.phase = .cruise) ∧
        t.core.ix = s.core.ix ∧ t.core.rm = s.core.rm) ∧
    (∀ (a : Armed) (e : Entry) (v : Nat) (target value : Int), s.core.cap.armed = some a →
      s.core.ix.entry a.frame = some e → s.core.tr.vRef ≤ s.core.bound * 1000 →
      v = min (s.core.tr.vRef + s.core.prof.accel) (s.core.bound * 1000) / 1000 →
      target = e.lead + (e.length / 2 : Nat) + (s.core.prof.gateOffset : Int) + s.core.ix.drift →
      value = max (target - s.core.prof.gateOffset)
        (target - ((2 * (v * s.core.prof.strobeLatency) + 5000) / 10000 : Nat)) →
      s.core.tr.p < value →
      ∃ t, exec .profileTimerExpiry s = .next t ∧
        t.core.cap = { s.core.cap with armed := some { a with target := target, compare := value } } ∧
        t.core.tr.vRef = min (s.core.tr.vRef + s.core.prof.accel) (s.core.bound * 1000) ∧
        t.core.pins = s.core.pins ∧ t.core.ix = s.core.ix ∧ t.core.rm = s.core.rm)) ∧
  (∀ s : State, s.ready = true → s.core.tr.st = .move →
    s.core.tr.phase = .brake .stop → s.core.unmoved = true →
    (∀ q, s.core.rm.pass = some q → q.films = true → q.ending ≠ none) →
    (s.core.tr.vRef ≤ s.core.prof.accel →
      ∃ t, exec .profileTimerExpiry s = .next t ∧ t.core.tr.st = .hold ∧ t.core.tr.tensioning = false ∧
        t.core.tr.vRef = 0 ∧ t.core.tr.plan = none ∧ t.core.tr.p = s.core.tr.p ∧
        (∀ q, s.core.rm.pass = some q → q.films = true → ∃ w, t.core.rm.pass = some w ∧ w.slot = q.slot ∧
          w.waitStop = false)) ∧
    (s.core.prof.accel < s.core.tr.vRef →
      ∃ t, exec .profileTimerExpiry s = .next t ∧ t.core.tr.st = .move ∧ t.core.tr.phase = .brake .stop ∧
        t.core.tr.vRef = s.core.tr.vRef - s.core.prof.accel ∧ t.core.tr.p = s.core.tr.p ∧ t.core.rm = s.core.rm)) ∧
  (∀ s : State, s.ready = true → s.core.tr.timerRuns = false →
    exec .profileTimerExpiry s = .next (s.leaves s.core))

/-- A SETTLE of a POSITION order that has lasted 500 ms counts as an overshoot: the move is planned again once, from rest,
with the stall counts cleared; the second time the transport is in HOLD, STOP_MISS is queued with the overshoot and P
(a negative one as notes/assumptions/48.md says), and the pass that ordered the move ends with TRANSPORT_FAULT and
STOP_MISS. With no SETTLE under way the command does nothing. -/
def Obligations.SettleTimeoutRetriesOnce : Prop :=
  (∀ (pl : Plan) (x : Nat) (target : Int) (s : State), s.ready = true → s.core.tr.st = .move →
    s.core.tr.plan = some pl → pl.order = .position target → s.core.tr.phase = .settle →
    s.core.tr.settleCount = some x → s.core.unmoved = true →
    (pl.retried = false →
      ∃ t q, exec .settleTimeout s = .next t ∧ t.core.tr.st = .move ∧ t.core.tr.plan = some q ∧ q.order = .position target ∧
        q.retried = true ∧ t.core.tr.vRef = 0 ∧ t.core.tr.settleCount = none ∧ t.core.tr.p = s.core.tr.p ∧
        t.core.tr.supply.stall = none ∧ t.core.tr.takeUp.stall = none ∧ t.core.rm = s.core.rm ∧ t.front = s.front) ∧
    (pl.retried = true →
      ∃ t, exec .settleTimeout s = .next t ∧ t.core.tr.st = .hold ∧ t.core.tr.plan = none ∧ t.core.tr.p = s.core.tr.p ∧
        t.core.tr.vRef = 0 ∧
        t.front.faults = s.front.queued
          ⟨.stopMiss, .transport, BitVec.ofNat 24 (missInfo (s.core.tr.p - target)), BitVec.ofInt 28 s.core.tr.p⟩ ∧
        ∀ q, s.core.rm.pass = some q → q.films = true → q.ending = none → s.core.tr.waiting = none →
          ∃ w, t.core.rm.pass = some w ∧ w.ending = some (.fixed .transportFault 0x3F) ∧ w.slot = q.slot ∧
            w.stamp = q.stamp ∧ t.core.cap.stop = none ∧
            (q.decided = false → q.waitStop = false → q.waitProbe = false → s.core.cap.filling = [] →
              ∃ r, t.core.port.results = s.core.port.results ++ [.result r] ∧ r.slot = q.slot ∧ r.stamp = q.stamp ∧
                r.outcome = .transportFault ∧ r.detail = 0x3F ∧ r.endsPass = true))) ∧
  (∀ (o : Int), (0 ≤ o → missInfo o = min o.toNat 8388607) ∧
    (o < 0 → missInfo o = 16777216 - min o.natAbs 8388607)) ∧
  (∀ s : State, s.ready = true → s.core.tr.settleCount = none →
    exec .settleTimeout s = .next (s.leaves s.core))

/-- A regulator period samples both dancers, of each of which it is said: the running sum takes the error, held to
1,048,575 either way, but for an error that would make it larger while the correction is clamped; the correction is
(4 × Kp × error + Ki × sum) / 64 thousandths, unrounded (notes/assumptions/40.md), held to full torque; the out-of-band
count starts on the side the code is out on, goes on there, starts anew on the other side, and is cleared in band and
until tension is established; and the drive has the torque that follows the reference plus the correction. The count
toward established tension runs while both codes are in band. In a relax ramp the torques only fall
(notes/assumptions/47.md). A transport whose regulator is off takes no period. -/
def Obligations.RegulatorPeriodSamplesDancers : Prop :=
  (∀ (a b : Nat) (s : State), s.ready = true → s.core.tr.regulating = true →
    (s.core.tr.watching = false ∨ (15 < a ∧ a < 4080 ∧ 15 < b ∧ b < 4080)) →
    ∃ t, exec (.tensionRegulatorPeriod a b) s = .next t ∧ t.core.pins.dancerSupply = a ∧ t.core.pins.dancerTakeUp = b ∧
      t.core.tr.st = s.core.tr.st ∧ t.core.tr.p = s.core.tr.p ∧ t.front = s.front ∧
      (∀ (code : Nat) (old new : Dancer),
        (code = a ∧ old = s.core.tr.supplyDancer ∧ new = t.core.tr.supplyDancer ∨
          code = b ∧ old = s.core.tr.takeUpDancer ∧ new = t.core.tr.takeUpDancer) →
        ∀ grown raw : Int, grown = max (-1048575) (min 1048575 (old.sum + ((s.core.prof.tensionSetpoint : Int) - code))) →
        raw = (s.core.prof.kp : Int) * ((s.core.prof.tensionSetpoint : Int) - code) * 4 +
          (s.core.prof.ki : Int) * new.sum →
        (old.clamped = false ∨ |grown| ≤ |old.sum| → new.sum = grown) ∧
        (old.clamped = true → |old.sum| < |grown| → new.sum = old.sum) ∧
        new.correction = max (-64000) (min 64000 raw) ∧ (new.clamped = true ↔ 64000 < |raw|) ∧
        (s.core.tr.watching = false → new.out = none) ∧
        (s.core.tr.watching = true →
          (s.core.prof.tensionSetpoint + s.core.prof.tensionBand < code →
            (∀ n, old.out = some (true, n) → new.out = some (true, n)) ∧
            (old.out = none ∨ (∃ n, old.out = some (false, n)) → new.out = some (true, s.core.now))) ∧
          ((code : Int) < (s.core.prof.tensionSetpoint : Int) - s.core.prof.tensionBand →
            (∀ n, old.out = some (false, n) → new.out = some (false, n)) ∧
            (old.out = none ∨ (∃ n, old.out = some (true, n)) → new.out = some (false, s.core.now))) ∧
          ((s.core.prof.tensionSetpoint : Int) - s.core.prof.tensionBand ≤ code →
            code ≤ s.core.prof.tensionSetpoint + s.core.prof.tensionBand → new.out = none))) ∧
      ((bandOf s.core.prof a = .inside ∧ bandOf s.core.prof b = .inside) →
        t.core.tr.inBand = (if s.core.tr.inBand = none then some s.core.now else s.core.tr.inBand)) ∧
      (bandOf s.core.prof a ≠ .inside ∨ bandOf s.core.prof b ≠ .inside → t.core.tr.inBand = none) ∧
      (s.core.tr.relaxRamp = none → ∀ v : Int,
        v = (if s.core.tr.dir = .forward then (s.core.tr.vRef : Int) else -(s.core.tr.vRef : Int)) →
        t.core.pins.torqueSupply = 64 * Config.followTorque true v + t.core.tr.supplyDancer.correction ∧
        t.core.pins.torqueTakeUp = 64 * Config.followTorque false v + t.core.tr.takeUpDancer.correction) ∧
      (s.core.tr.relaxRamp ≠ none →
        |t.core.pins.torqueSupply| ≤ |s.core.pins.torqueSupply| ∧
        |t.core.pins.torqueTakeUp| ≤ |s.core.pins.torqueTakeUp|)) ∧
  (∀ (p : Profile) (code : Nat),
    (bandOf p code = .inside ↔ (p.tensionSetpoint : Int) - p.tensionBand ≤ code ∧
      code ≤ p.tensionSetpoint + p.tensionBand)) ∧
  (∀ (a b : Nat) (s : State), s.ready = true → s.core.tr.regulating = false →
    exec (.tensionRegulatorPeriod a b) s = .next (s.leaves s.core))

/-- Tension established ends what waited for it: a threading goes from its feed to the search for frame 1; a wake leaves
the transport steady, with the Index Unit told, AWAKE given to a WAKE that waits, and an order that waited begun; a
recovery's tension test leads to the unthread, which with Film Present already clear ends at once
(notes/assumptions/46.md), and is slow from the start with less than 400,000 counts on the take-up reel. -/
def Obligations.TensionEstablishedGoesOn : Prop :=
  ∀ (x : Nat) (s : State), s.ready = true → s.core.tr.established = false → s.core.tr.inBand = some x →
    (s.core.tr.st = .threading → s.core.tr.threadStep = .feed → s.core.tr.resetBraking = false →
      exec .tensionEstablished s = .next (s.leaves ((s.core.setTr { s.core.tr with
        established := true, threadStep := .seek, markP := s.core.tr.p, feedCount := none }).setIx { s.core.ix with
          searching := true, detector := { st := .resync, run := none }, unit := .off }))) ∧
    (s.core.tr.st = .hold → s.core.tr.tensioning = true →
      (s.core.tr.waiting = none → s.core.tr.waitingUnthread = false →
        exec .tensionEstablished s = .next (s.leaves (((s.core.setTr { s.core.tr with
          established := true, tensioning := false, wakeCount := none, wakeWaits := false }).setIx { s.core.ix with
            wake := true }).setModes { s.core.modes with
              reply := if s.core.tr.wakeWaits then some .awake else s.core.modes.reply }))) ∧
      (∀ d v e ext, s.core.tr.waiting = some (.run d v e ext) → s.core.tr.waitingUnthread = false →
        s.core.unmoved = true →
        ∃ t pl, exec .tensionEstablished s = .next t ∧ t.core.tr.st = .move ∧ t.core.tr.plan = some pl ∧
          pl.order = .run d v e ext ∧ t.core.tr.phase = .accel ∧ t.core.tr.vRef = 0 ∧ t.core.tr.waiting = none ∧
          t.core.tr.wakeCount = none ∧ t.core.ix.wake = true) ∧
      (s.core.tr.waitingUnthread = true → s.core.unmoved = true →
        ∃ t, exec .tensionEstablished s = .next t ∧ t.core.tr.st = .unthreading ∧ t.core.tr.dir = .reverse ∧
          t.core.tr.vRef = 0 ∧ t.core.tr.travel = s.core.tr.travel ∧ t.core.tr.waitingUnthread = false ∧
          t.core.tr.wakeCount = none ∧ t.core.ix.wake = true)) ∧
    (s.core.tr.st = .unreferenced → s.core.tr.tensionTest = true → s.core.unmoved = true →
      ∃ t, exec .tensionEstablished s = .next t ∧ t.core.tr.st = .unthreading ∧ t.core.tr.dir = .reverse ∧
        t.core.tr.vRef = 0 ∧ t.core.tr.tensionTest = false ∧ t.core.tr.testCount = none ∧
        t.core.tr.unthreadEnding = !s.core.pins.filmPresent ∧
        (∀ l, s.core.tr.lTu = some l → t.core.tr.unthreadSlow = decide (l < 400000)) ∧
        (s.core.tr.lTu = none → t.core.tr.unthreadSlow = false))

/-- The safety events: each leaves the transport in FAULT with the film held, the reference at 0 and the index as it
was, and queues its fault from the transport. An end stop is a dancer code up to 15 or from 4080 on, the supply dancer's
before the take-up dancer's. A dancer is named by its number and its latest code, the model's reading of R58
(notes/assumptions/31.md); of two out of band either may be named in a wake or a recovery (notes/assumptions/12.md), and
THREAD_FAIL's auxiliary value is any (notes/assumptions/11.md). That the supply dancer is named where both are at an end
stop is the model's choice (notes/assumptions/57.md), and so is that the events of the dancers arise in a relax ramp too
(notes/assumptions/47.md). -/
def Obligations.SafetyEventsHoldTheFilm : Prop :=
  ∀ (i : Instr) (name : FaultName) (info : Nat → Prop) (aux : BitVec 28 → Prop) (s : State), s.ready = true →
    s.core.unmoved = true → s.core.focus.probe = none →
    ((∃ d n, i = .outOfBandExpiry d ∧ name = .tensionHigh ∧ info = (· = s.core.dancerInfo d) ∧
        (match d with | .supply => s.core.tr.supplyDancer.out | .takeUp => s.core.tr.takeUpDancer.out) = some (true, n) ∧
        aux = (· = BitVec.ofInt 28 s.core.tr.p)) ∨
      (∃ d n, i = .outOfBandExpiry d ∧ name = .tensionLow ∧ info = (· = s.core.dancerInfo d) ∧
        (match d with | .supply => s.core.tr.supplyDancer.out | .takeUp => s.core.tr.takeUpDancer.out) = some (false, n) ∧
        aux = (· = BitVec.ofInt 28 s.core.tr.p)) ∨
      (∃ d, i = .reelStall d ∧ name = .reelStall ∧ info = (· = (match d with | .supply => 1 | .takeUp => 2)) ∧
        (match d with | .supply => s.core.tr.supply.stall | .takeUp => s.core.tr.takeUp.stall) ≠ none ∧
        s.core.tr.timerRuns = true ∧ s.core.tr.unthreadEnding = false ∧ aux = (· = BitVec.ofInt 28 s.core.tr.p)) ∨
      (i = .filmPresentChange false ∧ name = .filmBreak ∧ info = (· = 0) ∧ s.core.pins.filmPresent = true ∧
        (s.core.tr.st = .hold ∨ s.core.tr.st = .move ∨ s.core.tr.st = .relaxed ∨ s.core.tr.st = .threading) ∧
        aux = (· = BitVec.ofInt 28 s.core.tr.p)) ∨
      (∃ a b, i = .tensionRegulatorPeriod a b ∧ name = .filmBreak ∧ s.core.tr.watching = true ∧
        ((a ≤ 15 ∨ 4080 ≤ a) ∧ info = (· = 65536 + a) ∨
          15 < a ∧ a < 4080 ∧ (b ≤ 15 ∨ 4080 ≤ b) ∧ info = (· = 131072 + b)) ∧
        aux = (· = BitVec.ofInt 28 s.core.tr.p)) ∨
      (i = .extStopAssert ∧ name = .extStop ∧ info = (· = 0) ∧ s.core.pins.extStop = false ∧
        s.core.tr.stopSensitive = true ∧ aux = (· = BitVec.ofInt 28 s.core.tr.p)) ∨
      ((i = .wakeTimeout ∧ s.core.tr.wakeCount ≠ none ∨ i = .recoveryTensionTimeout ∧ s.core.tr.testCount ≠ none) ∧
        name = .tensionLow ∧ aux = (· = BitVec.ofInt 28 s.core.tr.p) ∧
        info = (match bandOf s.core.prof s.core.pins.dancerSupply, bandOf s.core.prof s.core.pins.dancerTakeUp with
          | .inside, .inside => (· = 0)
          | .inside, _ => (· = s.core.dancerInfo .takeUp)
          | _, .inside => (· = s.core.dancerInfo .supply)
          | _, _ => fun x => x = s.core.dancerInfo .supply ∨ x = s.core.dancerInfo .takeUp)) ∨
      (i = .threadFeedTimeout ∧ name = .threadFail ∧ info = (· = 10000) ∧ s.core.tr.st = .threading ∧
        s.core.tr.threadStep = .feed ∧ s.core.tr.feedCount ≠ none ∧ aux = fun _ => True) ∨
      (i = .unthreadTravelLimit ∧ name = .threadFail ∧ info = (· = (s.core.tr.travel / 1000).toNat) ∧
        s.core.tr.st = .unthreading ∧ s.core.tr.unthreadEnding = false ∧ s.core.tr.resetBraking = false ∧
        s.core.tr.nominal + 400000 < s.core.tr.travel ∧ aux = fun _ => True)) →
    ∃ t x a, exec i s = .next t ∧ info x ∧ aux a ∧ t.core.tr.st = .fault ∧ t.core.filmHeld = true ∧ t.core.tr.vRef = 0 ∧
      t.core.tr.plan = none ∧ t.core.tr.wakeCount = none ∧ t.core.tr.testCount = none ∧ t.core.tr.p = s.core.tr.p ∧
      t.core.ix.entries = s.core.ix.entries ∧ t.core.ix.frontier = s.core.ix.frontier ∧
      t.front.faults = s.front.queued
        ⟨name, .transport, BitVec.ofNat 24 x, a⟩ ∧
      (s.front.faults.length < 16 → s.front.overflow = false → t.front.causeFault = true)

/-- The inputs where they are no safety event: EXT_STOP puts the brake on and takes it off again, and the release
changes nothing else; Film Present set, or cleared with no film driven, only takes its level; cleared in an unthread it
ends the travel. -/
def Obligations.InputsWithoutSafetyEvent : Prop :=
  (∀ s : State, exec .extStopRelease s = .next { s with core := s.core.setPins { s.core.pins with extStop := false } } ∧
    (s.core.setPins { s.core.pins with extStop := false }).brake =
      (s.core.tr.brakeDemand || decide (s.core.modes.mode = .held)) ∧
    (s.core.setPins { s.core.pins with extStop := true }).brake = true) ∧
  (∀ s : State, s.ready = true → s.core.pins.extStop = true ∨ s.core.tr.stopSensitive = false →
    exec .extStopAssert s = .next (s.leaves (s.core.setPins { s.core.pins with extStop := true }))) ∧
  (∀ s : State, s.ready = true →
    exec (.filmPresentChange true) s = .next (s.leaves (s.core.setPins { s.core.pins with filmPresent := true }))) ∧
  (∀ s : State, s.ready = true →
    s.core.pins.filmPresent = false ∨ s.core.tr.st = .unthreaded ∨ s.core.tr.st = .fault ∨ s.core.tr.st = .unreferenced →
    exec (.filmPresentChange false) s = .next (s.leaves (s.core.setPins { s.core.pins with filmPresent := false }))) ∧
  (∀ s : State, s.ready = true → s.core.pins.filmPresent = true → s.core.tr.st = .unthreading →
    ∃ t, exec (.filmPresentChange false) s = .next t ∧ t.core.tr.st = .unthreading ∧ t.core.tr.unthreadEnding = true ∧
      t.core.pins.filmPresent = false ∧ t.core.tr.supply.stall = none ∧ t.core.tr.takeUp.stall = none ∧
      t.core.tr.supplyDancer.out = none ∧ t.core.tr.takeUpDancer.out = none ∧ t.front = s.front)

/-- The search for frame 1 ends at 600,000 counts from where it began: the transport brakes. Before that the command
does nothing. The relax ramp's end answers RELAXED and leaves the transport RELAXED with the drives off and the brake
demand off, or wakes it at once when an order or a WAKE waits (notes/assumptions/17.md). -/
def Obligations.SearchLimitAndRelaxEnd : Prop :=
  (∀ s : State, s.ready = true → s.core.tr.st = .threading → s.core.tr.threadStep = .seek →
    s.core.tr.resetBraking = false →
    (s.core.tr.markP + 600000 ≤ s.core.tr.p →
      exec .firstFrameSearchLimit s = .next (s.leaves ((s.core.setTr { s.core.tr with threadStep := .noFrames }).setIx
        { s.core.ix with searching := false }))) ∧
    (s.core.tr.p < s.core.tr.markP + 600000 → exec .firstFrameSearchLimit s = .next (s.leaves s.core))) ∧
  (∀ (x : Nat) (s : State), s.ready = true → s.core.tr.relaxRamp = some x →
    (s.core.tr.wakePending = false → s.core.tr.waiting = none → s.core.tr.waitingUnthread = false →
      ∃ t, exec .relaxRampEnd s = .next t ∧ t.core.tr.st = .relaxed ∧ t.core.tr.relaxRamp = none ∧
        t.core.tr.drives = false ∧ t.core.tr.brakeDemand = false ∧ t.core.pins.torqueSupply = 0 ∧
        t.core.pins.torqueTakeUp = 0 ∧ t.core.modes.reply = some .relaxed ∧ t.core.tr.p = s.core.tr.p ∧
        t.core.ix = s.core.ix ∧ t.front = s.front) ∧
    (s.core.tr.wakePending = true ∨ s.core.tr.waiting ≠ none ∨ s.core.tr.waitingUnthread = true →
      ∃ t, exec .relaxRampEnd s = .next t ∧ t.core.tr.st = .hold ∧ t.core.tr.tensioning = true ∧
        t.core.modes.reply = some .relaxed ∧ t.core.tr.wakeCount = some s.core.now ∧ t.core.tr.waiting = s.core.tr.waiting ∧
        t.core.tr.waitingUnthread = s.core.tr.waitingUnthread))

/-! ## Index transfers -/

/-- The Index Porter, free, starts its next transfer: an EXPORT whose buffer is too short is returned NO_ROOM with
BUFFER_SHORT, its stamp used up; one that fits, and a save, fix their header and begin to write; an import begins to
read. A Porter that is busy, or has nothing waiting, starts nothing. -/
def Obligations.IndexTransferStarts : Prop :=
  (∀ (slot stamp : Nat) (rest : List Transfer) (e : Export) (s : State), s.ready = true → s.core.porter.job = .idle →
    s.core.porter.waiting = .exportFor slot stamp :: rest → s.core.rm.exports = [e] → e.slot = slot → e.stamp = stamp →
    (e.length < 36 + 24 * s.core.ix.entries.length →
      ∃ t, exec .indexTransferStart s = .next t ∧ t.core.porter.job = .idle ∧ t.core.porter.waiting = rest ∧
        t.core.rm.exports = [] ∧
        t.core.port.results = s.core.port.results ++
          [.result (Return.plain slot stamp e.notify e.takenAt .noRoom 0x59)] ∧
        t.core.ix = { s.core.ix with
          exportStamp := if 4294967295 ≤ s.core.ix.exportStamp then 1 else s.core.ix.exportStamp + 1 }) ∧
    (36 + 24 * s.core.ix.entries.length ≤ e.length →
      ∃ t j, exec .indexTransferStart s = .next t ∧ t.core.porter.job = .writing j ∧ t.core.porter.waiting = rest ∧
        j.address = e.address ∧ j.stamp = s.core.ix.exportStamp ∧ j.roll = e.roll ∧ j.count = s.core.ix.entries.length ∧
        j.frontier = s.core.ix.frontier ∧ j.drift = s.core.ix.drift ∧ j.profileId = s.core.prof.id ∧ j.issued = 0 ∧
        t.core.rm = s.core.rm ∧ t.core.ix.entries = s.core.ix.entries ∧
        t.core.ix.exportStamp =
          (if 4294967295 ≤ s.core.ix.exportStamp then 1 else s.core.ix.exportStamp + 1))) ∧
  (∀ (bay address roll : Nat) (rest : List Transfer) (s : State), s.ready = true → s.core.porter.job = .idle →
    s.core.porter.waiting = .save bay address roll :: rest → 1 ≤ bay → bay ≤ s.core.roll.bays.length →
    ∃ t j, exec .indexTransferStart s = .next t ∧ t.core.porter.job = .writing j ∧ j.address = address ∧ j.roll = roll ∧
      j.count = s.core.ix.entries.length ∧ (t.core.roll.bay bay).saved = none ∧
      (t.core.roll.bay bay).st = (s.core.roll.bay bay).st) ∧
  (∀ (address roll slot stamp : Nat) (rest : List Transfer) (s : State), s.ready = true → s.core.porter.job = .idle →
    s.core.porter.waiting = .load address roll slot stamp :: rest →
    exec .indexTransferStart s = .next (s.leaves (s.core.setPorter {
      waiting := rest
      job := .reading { address := address, roll := roll, slot := slot, stamp := stamp, header := none, inFlight := false } }))) ∧
  (∀ s : State, s.ready = true → s.core.porter.job ≠ .idle ∨ s.core.porter.waiting = [] →
    exec .indexTransferStart s = .next (s.leaves s.core))

/-- The reads of an import, in a MOUNT's sequence: a header of the roll and of at most 16,384 entries is kept for the
body; one of another roll (ROLL), of more entries (COUNT), or a read error (READ_ERROR) rejects the import, and so does a
body by the first check it fails of STAMP, NUMBERING, ORDER and FIELD. A rejection queues IMPORT_REJECTED with its reason and
leaves the index empty; a body that passes the checks is installed, each entry as its 24 bytes give it. The bay is MOUNTED
either way, and the sequence has ended. -/
def Obligations.ImportReadsEnd : Prop :=
  ∀ (j : ImportJob) (k : Kind) (p : Pass) (q : Seq) (s : State), s.ready = true → s.core.porter.job = .reading j →
    j.inFlight = true → s.core.rm.pass = some p → p.kind = .request k → s.core.roll.seq = some q → q.step = .load →
    q.cancel = false → q.emptied = false → 1 ≤ q.bay → q.bay ≤ s.core.roll.bays.length →
    (∀ bs, j.header = none → fieldAt bs 4 4 = j.roll → fieldAt bs 8 4 ≤ 16384 →
      exec (.importReadDone (.data bs)) s = .next (s.leaves (s.core.setPorter { s.core.porter with
        job := .reading { j with header := some bs, inFlight := false } }))) ∧
    (∀ (r : ReadEnd) (reason : Nat),
      (r = .error ∧ reason = 1 ∨
        (∃ bs, r = .data bs ∧ j.header = none ∧ fieldAt bs 4 4 ≠ j.roll ∧ reason = 3) ∨
        (∃ bs, r = .data bs ∧ j.header = none ∧ fieldAt bs 4 4 = j.roll ∧ 16384 < fieldAt bs 8 4 ∧ reason = 4) ∨
        (∃ bs h, r = .data bs ∧ j.header = some h ∧ ¬ stampsAgree h bs ∧ reason = 2) ∨
        (∃ bs h, r = .data bs ∧ j.header = some h ∧ stampsAgree h bs ∧ ¬ framesNumbered h bs ∧ reason = 5) ∨
        (∃ bs h, r = .data bs ∧ j.header = some h ∧ stampsAgree h bs ∧ framesNumbered h bs ∧ ¬ leadsRise h bs ∧
          reason = 6) ∨
        (∃ bs h, r = .data bs ∧ j.header = some h ∧ stampsAgree h bs ∧ framesNumbered h bs ∧ leadsRise h bs ∧
          ¬ fieldsInRange h bs ∧ reason = 7)) →
      ∃ t, exec (.importReadDone r) s = .next t ∧ t.core.porter.job = .idle ∧ t.core.ix.entries = [] ∧
        t.core.ix.frontier = 0 ∧ t.core.ix.staged = none ∧ t.core.roll.seq = none ∧
        (t.core.roll.bay q.bay).st = .mounted ∧
        (∃ w, t.core.rm.pass = some w ∧ w.ending = some (.fixed .done 0x60) ∧ w.indexed = 0) ∧
        t.front.faults = s.front.queued ⟨.importRejected, .indexUnit,
          BitVec.ofNat 24 reason, BitVec.ofNat 28 (j.slot % 32 * 65536 + j.stamp % 65536)⟩) ∧
    (∀ bs h, j.header = some h → stampsAgree h bs → framesNumbered h bs → leadsRise h bs → fieldsInRange h bs →
      q.rejected = false →
      ∃ t es, exec (.importReadDone (.data bs)) s = .next t ∧ t.core.porter.job = .idle ∧ t.core.roll.seq = none ∧
        es.length = fieldAt h 8 4 ∧ (∀ i, i < fieldAt h 8 4 → es[i]? = entryOf bs (24 * i)) ∧
        (t.core.roll.bay q.bay).st = .mounted ∧ t.core.roll.cassette = some q.bay ∧
        t.core.ix.entries = es.map (fun e => if e.origin = .detected then { e with origin := .imported } else e) ∧
        t.core.ix.frontier = (es.getLast?.map Entry.trail).getD 0 ∧
        t.core.ix.importStatus = (if es = [] then .none else .unconfirmed) ∧ t.core.ix.drift = s.core.ix.drift ∧
        t.core.focus.map = List.replicate 128 none ∧
        ∃ w, t.core.rm.pass = some w ∧ w.ending = some (.fixed .done 0) ∧ w.indexed = es.length)

/-- An entry of the index survives its 24 bytes: what an export writes of it an import reads back whole, for every entry
whose fields are in the record's widths. -/
def Obligations.IndexEntryRoundTrips : Prop :=
  ∀ (n : Nat) (e : Entry), n < 65536 → -2147483648 ≤ e.lead → e.lead ≤ 2147483647 → e.length < 4294967296 →
    e.batch < 65536 → e.document < 65536 → e.page < 65536 → e.captureCount < 256 →
    (∀ v, e.score = some v → v < 16777216) →
    (e.bytes n).length = 24 ∧ fieldAt (e.bytes n) 0 2 = n ∧ entryOf (e.bytes n) 0 = some e

/-- What changes the entries of the index once they stand. The Capture Unit's report acts on the entry of its number and
Leading Position, and on no other. In VERIFY a leading edge within the Drift Window of the nearest entry, not yet
matched, matches it: the drift moves an eighth of the way, and an import is confirmed. An entry whose mark
does not come is a mismatch: the index is truncated there, or an unconfirmed import discarded whole. -/
def Obligations.CaptureReportsMarkEntries : Prop :=
  (∀ (x : IndexUnit) (n : Nat) (lead : Int) (judged : Option (Nat × Bool)),
    (∀ e, 1 ≤ n → x.entries[n - 1]? = some e → e.lead = lead →
      ∃ f, (x.captureReport n lead judged).entries[n - 1]? = some f ∧ f.captured = true ∧
        f.captureCount = min (e.captureCount + 1) 255 ∧
        (∀ v soft, judged = some (v, soft) → f.score = some v ∧ f.soft = soft) ∧
        (judged = none → f.score = e.score ∧ f.soft = e.soft) ∧
        f = { e with captured := f.captured, captureCount := f.captureCount, score := f.score, soft := f.soft } ∧
        (∀ m, m ≠ n - 1 → (x.captureReport n lead judged).entries[m]? = x.entries[m]?) ∧
        x.captureReport n lead judged = { x with entries := (x.captureReport n lead judged).entries }) ∧
    (n = 0 ∨ (∀ e, x.entries[n - 1]? = some e → e.lead ≠ lead) → x.captureReport n lead judged = x)) ∧
  (∀ (image blip edge : Nat) (p : Profile) (x : IndexUnit) (pos : Int) (m : Motion) (j : Nat) (e : Entry) (s : State),
    s.ready = true → s.core.sampling = true → s.core.indexesOn = true → p = s.core.prof → x = s.core.ix →
    pos = s.core.tr.p + 1 → x.inVerify pos = true → s.core.lanesQuiet blip edge = true → x.motion = some m →
    x.wake = false → x.entries[j]? = some e → m.tested = j → (j + 1) ∉ m.matched →
    (∀ f n, x.detector = { st := .gap, run := some (f, n) } → n + 1 = p.confirmCount →
      differs p.edgeThreshold x.refImage image = true → pos < e.lead + p.driftWindow + 4 * (p.confirmCount : Int) →
      (∀ l, m.lastEdge = some l → (p.minPitch : Int) ≤ f - l) → |f - e.lead| ≤ p.driftWindow →
      (∀ i g, i ≠ j → x.entries[i]? = some g → |f - e.lead| < |f - g.lead|) →
      ∃ t w, exec (.meteringCount .forward image blip edge) s = .next t ∧ t.core.ix.entries = x.entries ∧
        t.core.ix.frontier = x.frontier ∧ t.core.ix.motion = some w ∧ w.matched = (j + 1) :: m.matched ∧
        w.lastEdge = some f ∧
        t.core.ix.drift = (if e.origin = .predicted then x.drift
          else x.drift + Int.tdiv (f - e.lead - x.drift) 8) ∧
        t.core.ix.importStatus =
          (if e.origin = .imported ∧ j + 1 ≤ x.importCount ∧ x.importStatus = .unconfirmed then .confirmed
           else x.importStatus) ∧
        t.core.rm = s.core.rm ∧ t.front = s.front) ∧
    (∀ r, x.detector = { st := .gap, run := none } → differs p.edgeThreshold x.refImage image = false →
      s.core.porter.job = .idle → e.lead + p.driftWindow + 4 * (p.confirmCount : Int) ≤ pos → e.origin ≠ .predicted →
      m.start ≤ e.lead - p.driftWindow → m.leftResync = some r → r ≤ e.lead - p.driftWindow →
      (x.importStatus ≠ .unconfirmed ∨ x.importCount + 1 < j + 1 →
        ∃ t, exec (.meteringCount .forward image blip edge) s = .next t ∧ t.core.ix.entries = x.entries.take j ∧
          t.core.ix.frontier = ((x.entries.take j).getLast?.map fun l => l.lead + (l.length : Int)).getD 0 ∧
          t.core.ix.drift = (if j = 0 then 0 else x.drift) ∧
          t.front.faults = s.front.queued
            ⟨.indexTruncated, .indexUnit, BitVec.ofNat 24 (x.entries.length - j), BitVec.ofInt 28 pos⟩) ∧
      (x.importStatus = .unconfirmed → j + 1 ≤ x.importCount + 1 →
        ∃ t, exec (.meteringCount .forward image blip edge) s = .next t ∧ t.core.ix.entries = [] ∧
          t.core.ix.frontier = 0 ∧ t.core.ix.drift = 0 ∧ t.core.ix.importStatus = .none ∧ t.core.ix.importCount = 0 ∧
          t.front.faults = s.front.queued ⟨.importRejected, .indexUnit, 8, BitVec.ofInt 28 pos⟩)))

/-! ## The changer -/

/-- The exchange of a fetch: EXCHANGE acknowledged starts the poll count; 100 ms later STATUS is submitted; a BUSY
answer waits again; READY goes on to THREAD, which starts with EXT_STOP standing too, by the model's choice
(notes/assumptions/45.md); and EXCHANGE with byte k answered NAK ends the sequence with LINK_FAULT, with the bay
emptied or not (notes/assumptions/87.md). -/
def Obligations.ExchangesArePolled : Prop :=
  ∀ (b n : Nat) (q : Seq) (x : Exchange) (s : State), s.ready = true → s.core.roll.seq = some q →
    q.exchange = some x → x.serial = n → q.step = .fetch →
    (s.core.onWire { msg := .exchange b n, by' := .rollManager } = true →
      exec (.exchange none) s = .next (s.leaves (s.core.linkFreed.setRoll { s.core.roll with
        seq := some { q with exchange := some { x with poll := some s.core.now, timer := some s.core.now } } })) ∧
      ∀ k p l, (k = 1 ∨ k = 2) → s.core.rm.pass = some p → p.kind = .request l →
        ∃ t, exec (.exchange (some k)) s = .next t ∧ t.core.roll.seq = none ∧ t.core.roll.bays = s.core.roll.bays ∧
          (∃ w, t.core.rm.pass = some w ∧ w.ending = some (.fixed .linkFault 0x49)) ∧
          t.front.faults = s.front.queued ⟨.linkDataNak, .link, BitVec.ofNat 24 (0x24 * 65536 + 0x01 * 256 + k), 1⟩) ∧
    (∀ m, x.timer = some m → s.core.link.st ≠ .down → s.core.link.queue.length < 8 →
      exec .changerPollTimer s = .next (s.leaves ((s.core.setRoll { s.core.roll with
        seq := some { q with exchange := some { x with timer := none } } }).setLink { s.core.link with
          queue := s.core.link.queue ++ [{ msg := .status n, by' := .rollManager }]
          st := if s.core.link.st = .idle then .waitFree else s.core.link.st }))) ∧
    (s.core.onWire { msg := .status n, by' := .rollManager } = true →
      (∀ a d, exec (.status [0, a, d]) s = .next (s.leaves (s.core.linkFreed.setRoll { s.core.roll with
        seq := some { q with exchange := some { x with timer := some s.core.now } } }))) ∧
      (∀ a d, q.cancel = false → q.emptied = false → s.core.tr.st = .unthreaded →
        ∃ t, exec (.status [1, a, d]) s = .next t ∧
          t.core.roll.seq = some { q with exchange := none, step := .thread } ∧ t.core.tr.st = .threading ∧
          t.core.tr.threadStep = .feed ∧ t.core.tr.feedCount = some s.core.now ∧ t.core.tr.p = 0 ∧
          t.core.tr.supply.radius = none ∧ t.front = s.front))

/-- A changer failure, by an ERROR answer or after 30 s without READY: the bay in hand is FAILED and no longer bound, no
bay is at the transport, the sequence ends with CHANGER_FAULT, and the fault names the bay, the changer's code and the
reason. That the failure is returned with the bay emptied too is the model's choice (notes/assumptions/87.md). -/
def Obligations.ChangerFailuresFailTheBay : Prop :=
  ∀ (n : Nat) (k : Kind) (p : Pass) (q : Seq) (x : Exchange) (s : State), s.ready = true → s.core.roll.seq = some q →
    q.exchange = some x → x.serial = n → q.step = .fetch → 1 ≤ q.bay → q.bay ≤ s.core.roll.bays.length →
    s.core.rm.pass = some p → p.kind = .request k →
    (∀ (a d : Byte), s.core.onWire { msg := .status n, by' := .rollManager } = true →
      ∃ t, exec (.status [2, a, d]) s = .next t ∧ t.core.roll.seq = none ∧ t.core.roll.cassette = none ∧
        (t.core.roll.bay q.bay).st = .failed ∧ (t.core.roll.bay q.bay).roll = none ∧
        (∃ w, t.core.rm.pass = some w ∧ w.ending = some (.fixed .changerFault 0x51)) ∧
        t.front.faults = s.front.queued ⟨.changerFault, .rollManager,
          BitVec.ofNat 24 (q.bay * 65536 + a.toNat * 256 + 2), BitVec.ofNat 28 (p.slot % 32 * 65536 + p.stamp % 65536)⟩) ∧
    (∀ m, x.poll = some m →
      ∃ t, exec .exchangeTimeout s = .next t ∧ t.core.roll.seq = none ∧ t.core.roll.cassette = none ∧
        (t.core.roll.bay q.bay).st = .failed ∧ (t.core.roll.bay q.bay).roll = none ∧
        (∃ w, t.core.rm.pass = some w ∧ w.ending = some (.fixed .changerFault 0x50)) ∧
        t.front.faults = s.front.queued ⟨.changerFault, .rollManager,
          BitVec.ofNat 24 (q.bay * 65536 + 1), BitVec.ofNat 28 (p.slot % 32 * 65536 + p.stamp % 65536)⟩)

/-- The start-up SURVEY: an answer in range sets up as many bays as the changer and the straps both have, each LOADED
where the occupancy says so or its cassette is at the transport; any other answer sets up one LOADED bay in SINGLE mode.
A bay at the transport that the changer counts and the straps do not is the transport cassette and stays EMPTY, the model's
choice (notes/assumptions/88.md). -/
def Obligations.SurveySetsUpBays : Prop :=
  ∀ (bytes : List Byte) (s : State), s.ready = true → s.core.modes.mode = .startUp → bytes.length = 5 →
    s.core.onWire { msg := .survey, by' := .startUp } = true →
    (byteAt bytes 0 ≤ 2 → 1 ≤ byteAt bytes 3 → byteAt bytes 3 ≤ 8 →
      ∃ t, exec (.survey bytes) s = .next t ∧ t.core.modes.linkResult = some true ∧ t.core.roll.changer = true ∧
        t.core.roll.checked = true ∧ t.core.roll.bayCount = min (byteAt bytes 3) (s.core.pins.strapBays % 8 + 1) ∧
        t.core.roll.cassette =
          (if byteAt bytes 2 = 0 ∨ byteAt bytes 3 < byteAt bytes 2 then none else some (byteAt bytes 2)) ∧
        ∀ b, 1 ≤ b → b ≤ 8 → (t.core.roll.bay b).st =
          (if b ≤ t.core.roll.bayCount ∧ ((byteAt bytes 4).testBit (b - 1) = true ∨ b = byteAt bytes 2) then .loaded
           else .empty)) ∧
    (2 < byteAt bytes 0 ∨ byteAt bytes 3 = 0 ∨ 8 < byteAt bytes 3 →
      ∃ t, exec (.survey bytes) s = .next t ∧ t.core.modes.linkResult = some false ∧ t.core.roll.changer = false ∧
        t.core.roll.bayCount = 1 ∧ t.core.roll.cassette = some 1 ∧ (t.core.roll.bay 1).st = .loaded ∧
        ∀ b, 2 ≤ b → b ≤ 8 → (t.core.roll.bay b).st = .empty)

/-- A Bay Event that the part receives as a target, in CHANGER mode: a cassette put in makes an EMPTY or FAILED bay
LOADED; one taken out empties a LOADED or FAILED bay; out of the MOUNTED bay, or out of the bay at the transport, it is
refused; one that says what the record says already changes nothing; and one out of range is invalid. In SINGLE mode, and
before the changer check has ended, every Bay Event is discarded. A message that is no Bay Event, or that a soft reset has
met while it was being taken, changes no bay. -/
def Obligations.BayEventsChangeRecords : Prop :=
  (∀ (bytes : List Byte) (s : State), s.ready = true → s.core.link.opened = true → s.core.modes.mode ≠ .failed →
    s.core.link.st = .target → s.core.link.failed = none → s.core.link.dropMessage = true →
    exec (.bayEvent bytes) s = .next (s.leaves (s.core.setLink { s.core.link with
      listenAddress := false, dropMessage := false, freeCount := some s.core.now, st := s.core.link.resting }))) ∧
  ∀ (b o : Byte) (s : State), s.ready = true → s.core.link.opened = true → s.core.modes.mode ≠ .failed →
    s.core.link.st = .target → s.core.link.failed = none → s.core.link.dropMessage = false →
    ∃ l : Link, l.st = s.core.link.resting ∧ l.queue = s.core.link.queue ∧ l.waiting = s.core.link.waiting ∧
      (s.core.roll.checked = false ∨ s.core.roll.changer = false →
        exec (.bayEvent [0x0B, b, o, 0x0B ^^^ b ^^^ o]) s = .next (s.leaves (s.core.setLink l))) ∧
      (∀ st : BayState, s.core.roll.checked = true → s.core.roll.changer = true → 1 ≤ b.toNat → b.toNat ≤ s.core.roll.bayCount → (s.core.roll.bay b.toNat).st = st →
        (o = 0 ∧ st = .empty ∨ o = 1 ∧ (st = .loaded ∨ st = .bound ∨ st = .mounted) →
          exec (.bayEvent [0x0B, b, o, 0x0B ^^^ b ^^^ o]) s = .next (s.leaves (s.core.setLink l))) ∧
        (o = 1 → st = .empty ∨ st = .failed →
          exec (.bayEvent [0x0B, b, o, 0x0B ^^^ b ^^^ o]) s = .next (s.leaves ((s.core.setLink l).setRoll
            (s.core.roll.setBay b.toNat { s.core.roll.bay b.toNat with st := .loaded })))) ∧
        (o = 0 → st = .failed ∨ (st = .loaded ∧ s.core.roll.cassette ≠ some b.toNat) →
          exec (.bayEvent [0x0B, b, o, 0x0B ^^^ b ^^^ o]) s = .next (s.leaves ((s.core.setLink l).setRoll
            (s.core.roll.setBay b.toNat { s.core.roll.bay b.toNat with st := .empty })))) ∧
        (o = 0 → st = .bound → s.core.roll.cassette ≠ some b.toNat → s.core.roll.seq = none → s.core.rm.swap = none →
          exec (.bayEvent [0x0B, b, o, 0x0B ^^^ b ^^^ o]) s = .next (s.leaves (((s.core.setLink l).setRoll
            (s.core.roll.setBay b.toNat { Bay.reset with selection := (s.core.roll.bay b.toNat).selection })).returnHeld
              ((s.core.roll.bay b.toNat).roll.getD 0) false .rollAbsent 0x1C))) ∧
        (o = 0 → st = .mounted ∨ ((st = .loaded ∨ st = .bound) ∧ s.core.roll.cassette = some b.toNat) →
          ∃ t, exec (.bayEvent [0x0B, b, o, 0x0B ^^^ b ^^^ o]) s = .next t ∧ t.core.roll = s.core.roll ∧
            t.core.link = l ∧ t.front.faults = s.front.queued ⟨.changerFault, .rollManager,
              BitVec.ofNat 24 (b.toNat * 65536 + o.toNat * 256 + 3), 0⟩)) ∧
      (s.core.roll.checked = true → s.core.roll.changer = true →
        b = 0 ∨ s.core.roll.bayCount < b.toNat ∨ 1 < o.toNat →
        ∃ t, exec (.bayEvent [0x0B, b, o, 0x0B ^^^ b ^^^ o]) s = .next t ∧ t.core.roll = s.core.roll ∧
          t.front.faults = s.front.queued ⟨.changerFault, .rollManager,
            BitVec.ofNat 24 (b.toNat * 65536 + o.toNat * 256 + 4), 0⟩) ∧
      (∀ bytes, bayMessage bytes = none →
        ∃ t, exec (.bayEvent bytes) s = .next t ∧ t.core.roll = s.core.roll ∧ t.front = s.front ∧
          t.core.link.st = s.core.link.resting)

/-! ## The lamp -/

/-- The lamp driver's transactions: an acknowledged LAMP SET or LAMP OFF only frees the link; a LAMP SET with byte k
answered NAK starts the fixed warm-up, and a LAMP OFF with it leaves the lamp as it is; a LAMP STATUS that finds the
lamp ready makes it READY, one that does not waits 20 ms, and a stale one changes nothing. That a failed LAMP SET makes
the lamp WARMING in whatever state it is, OFF and READY too, is the model's reading (notes/assumptions/29.md). -/
def Obligations.LampTransactionsEnd : Prop :=
  (∀ (i : Nat) (s : State), s.ready = true → s.core.onWire { msg := .lampSet i, by' := .captureUnit } = true →
    exec (.lampSet none) s = .next (s.leaves s.core.linkFreed) ∧
    ∀ k, k = 1 ∨ k = 2 → ∃ t, exec (.lampSet (some k)) s = .next t ∧ t.core.cap.lamp.st = .warming ∧
      t.core.cap.lamp.fixed = some s.core.now ∧ t.core.cap.lamp.pollTimer = none ∧ t.core.link = s.core.linkFreed.link ∧
      t.front.faults = s.front.queued ⟨.linkDataNak, .link, BitVec.ofNat 24 (0x2A * 65536 + 0x10 * 256 + k), 2⟩) ∧
  (∀ s : State, s.ready = true → s.core.onWire { msg := .lampOff, by' := .captureUnit } = true →
    exec (.lampOff none) s = .next (s.leaves s.core.linkFreed) ∧
    ∃ t, exec (.lampOff (some 1)) s = .next t ∧ t.core.cap = s.core.cap ∧ t.core.link = s.core.linkFreed.link ∧
      t.front.faults = s.front.queued ⟨.linkDataNak, .link, BitVec.ofNat 24 (0x2A * 65536 + 0x11 * 256 + 1), 2⟩) ∧
  (∀ (n : Nat) (a d : Byte) (s : State), s.ready = true → s.core.onWire { msg := .lampStatus n, by' := .captureUnit } = true →
    (s.core.cap.lamp.polling = true → s.core.cap.lamp.serial = n → a.toNat % 2 = 0 →
      exec (.lampStatus [a, d]) s = .next (s.leaves (s.core.linkFreed.setCap { s.core.cap with
        lamp := { s.core.cap.lamp with pollTimer := some s.core.now } }))) ∧
    (s.core.cap.lamp.polling = true → s.core.cap.lamp.serial = n → a.toNat % 2 = 1 → s.core.strobeless = true →
      ∃ t, exec (.lampStatus [a, d]) s = .next t ∧ t.core.cap.lamp.st = .ready ∧ t.core.cap.lamp.fixed = none ∧
        t.core.cap.lamp.polling = false ∧ t.core.cap.lamp.pollTimer = none ∧ t.core.cap.lamp.pollLimit = none ∧
        t.core.link = s.core.linkFreed.link ∧ t.front = s.front) ∧
    (s.core.cap.lamp.polling = false ∨ s.core.cap.lamp.serial ≠ n →
      exec (.lampStatus [a, d]) s = .next (s.leaves s.core.linkFreed)))

/-- The lamp's own counts: 20 ms after a not-ready answer LAMP STATUS is submitted again; 5 s after the first poll
LAMP_TIMEOUT is queued with the intensity last sent, and the lamp is READY; the fixed warm-up's end makes it READY. A
count that does not run has no expiry. That LAMP_TIMEOUT comes with lamp control ABSENT too, of a polling that the loss of
the link has left, is the model's choice (notes/assumptions/103.md). -/
def Obligations.LampCountsExpire : Prop :=
  ∀ (x : Nat) (s : State), s.ready = true →
    (s.core.cap.lamp.pollTimer = some x → s.core.link.st ≠ .down → s.core.link.queue.length < 8 →
      exec .lampPollTimer s = .next (s.leaves ((s.core.setCap { s.core.cap with
        lamp := { s.core.cap.lamp with pollTimer := none } }).setLink { s.core.link with
          queue := s.core.link.queue ++ [{ msg := .lampStatus s.core.cap.lamp.serial, by' := .captureUnit }]
          st := if s.core.link.st = .idle then .waitFree else s.core.link.st }))) ∧
    (s.core.cap.lamp.pollLimit = some x → s.core.strobeless = true →
      ∃ t, exec .lampTimeout s = .next t ∧ t.core.cap.lamp.st = .ready ∧ t.core.cap.lamp.polling = false ∧
        t.core.cap.lamp.pollLimit = none ∧ t.core.cap.filling = s.core.cap.filling ∧
        t.front.faults = s.front.queued ⟨.lampTimeout, .captureUnit, BitVec.ofNat 24 s.core.cap.lamp.lastSent, 0⟩) ∧
    (s.core.cap.lamp.fixed = some x → s.core.strobeless = true →
      ∃ t, exec .fixedWarmUpEnd s = .next t ∧ t.core.cap.lamp.st = .ready ∧ t.core.cap.lamp.fixed = none ∧
        t.core.cap.filling = s.core.cap.filling ∧ t.front = s.front) ∧
    (s.core.cap.lamp.pollTimer = none → exec .lampPollTimer s = .next (s.leaves s.core)) ∧
    (s.core.cap.lamp.pollLimit = none → exec .lampTimeout s = .next (s.leaves s.core)) ∧
    (s.core.cap.lamp.fixed = none → exec .fixedWarmUpEnd s = .next (s.leaves s.core))

/-! ## The accessory link -/

/-- A head goes to the wire when the bus is free. Its address byte answered NAK is tried again 5 ms later, at most three
times; then a head of the Capture Unit fails with LINK_NAK and leaves. After a clock stretch the head leaves when the bus
is free, and the next goes to the wire in the same free time, the model's reading (notes/assumptions/64.md). -/
def Obligations.LinkRetriesAfterNak : Prop :=
  ∀ (item : LinkItem) (s : State), s.ready = true →
    (s.core.onWire item = true → s.core.link.retries < 3 →
      exec .addressNotAcknowledged s = .next (s.leaves (s.core.setLink { s.core.link with
        losses := 0, retries := s.core.link.retries + 1, retryWait := some s.core.now, st := .retryWait,
        freeCount := some s.core.now }))) ∧
    (s.core.onWire item = true → 3 ≤ s.core.link.retries → item.by' = .captureUnit →
      ∃ t, exec .addressNotAcknowledged s = .next t ∧ t.core.link = s.core.linkFreed.link ∧
        t.front.faults = s.front.queued ⟨.linkNak, .link,
          BitVec.ofNat 24 (item.msg.target * 65536 + item.msg.code * 256 + 4), 2⟩) ∧
    (s.core.link.opened = true → s.core.modes.mode ≠ .failed → s.core.link.st = .retryWait →
      s.core.link.retryWait ≠ none →
      exec .retryWaitEnd s = .next (s.leaves (s.core.setLink { s.core.link with retryWait := none, st := .waitFree }))) ∧
    (s.core.link.opened = true → s.core.modes.mode ≠ .failed → s.core.linkCheck = false → s.core.link.st = .waitFree →
      exec .busFree s = .next (s.leaves (s.core.setLink { s.core.link with
        freeCount := some s.core.now, lowCount := none, st := .address, moved := 0 }))) ∧
    (∀ rest, s.core.link.opened = true → s.core.modes.mode ≠ .failed → s.core.linkCheck = false →
      s.core.link.st = .stop → s.core.link.failed = some .stretch → s.core.link.waiting = [] →
      s.core.link.queue = { msg := .lampOff, by' := .captureUnit } :: rest →
      exec .busFree s = .next (s.leaves (s.core.setLink { s.core.link with
        queue := rest, retries := 0, losses := 0, moved := 0, retryWait := none, failed := none,
        freeCount := some s.core.now, lowCount := none, st := if rest = [] then .idle else .address }))) ∧
    (s.core.linkCheck = true →
      exec .busFree s = .next (s.leaves (s.core.setModes { s.core.modes with linkResult := some true })))

/-- The bus with other controllers: a loss of arbitration goes to LISTEN, and the eighth in a row fails the head with
LINK_ARB; a clock stretch of 25 ms fails it with LINK_STRETCH and waits in STOP, where the low-line count goes on from the
fall of SCL 25 ms before, in the model's time of 1 ms (notes/assumptions/1.md); another controller's transfer addressed
to the part in the write direction makes it a target, and any other does not, also where it starts after a stretch: SCL
has risen then and the part's own stop has been sent, so the head leaves, here one whose result changes nothing
(notes/assumptions/64.md); its stop condition ends a LISTEN. -/
def Obligations.LinkMeetsOtherControllers : Prop :=
  ∀ (item : LinkItem) (s : State), s.ready = true →
    (s.core.onWire item = true → s.core.link.losses < 7 →
      exec (.lostArbitration none) s = .next (s.leaves (s.core.setLink { s.core.link with
        st := .listen, losses := s.core.link.losses + 1, moved := 0, listenAddress := true }))) ∧
    (s.core.onWire item = true → s.core.link.losses = 7 → item.by' ≠ .startUp →
      ∃ t, exec (.lostArbitration none) s = .next t ∧ t.core.link = { s.core.link with
          st := .listen, losses := 8, moved := 0, listenAddress := true, failed := some .arb } ∧
        t.front.faults = s.front.queued ⟨.linkArb, .link,
          BitVec.ofNat 24 (item.msg.target * 65536 + item.msg.code * 256 + 8), BitVec.ofNat 28 item.by'.code⟩) ∧
    (∀ m, s.core.onWire item = true → m < item.msg.bytes.length →
      exec (.lostArbitration (some m)) s = .next (s.leaves (s.core.setLink { s.core.link with
        st := .listen, losses := 1, moved := 0, listenAddress := false }))) ∧
    (∀ m, s.core.onWire item = true → item.by' ≠ .startUp →
      ∃ t, exec (.clockStretchLimit (some m)) s = .next t ∧ t.core.link = { s.core.link with
          st := .stop, failed := some .stretch, moved := m, lowCount := some (s.core.now - 25), losses := 0 } ∧
        t.front.faults = s.front.queued ⟨.linkStretch, .link,
          BitVec.ofNat 24 (item.msg.target * 65536 + item.msg.code * 256 + m), BitVec.ofNat 28 item.by'.code⟩) ∧
    (∀ a w, s.core.link.opened = true → s.core.modes.mode ≠ .failed → s.core.link.st = .idle →
      (w = true → a = s.core.link.address → a ≠ 0 →
        exec (.watchedAddressByte a w) s = .next (s.leaves (s.core.setLink { s.core.link with
          st := .target, buffer := [], tooLong := false, dropMessage := false, listenAddress := false,
          freeCount := some s.core.now }))) ∧
      (w = false ∨ a ≠ s.core.link.address ∨ a = 0 →
        exec (.watchedAddressByte a w) s = .next (s.leaves (s.core.setLink { s.core.link with
          listenAddress := false, freeCount := some s.core.now })))) ∧
    (∀ a w rest, s.core.link.opened = true → s.core.modes.mode ≠ .failed → s.core.link.st = .stop →
      s.core.link.failed = some .stretch → s.core.link.waiting = [] →
      s.core.link.queue = { msg := .lampOff, by' := .captureUnit } :: rest →
      (w = true → a = s.core.link.address → a ≠ 0 →
        exec (.watchedAddressByte a w) s = .next (s.leaves (s.core.setLink { s.core.link with
          queue := rest, retries := 0, losses := 0, moved := 0, retryWait := none, failed := none, lowCount := none
          st := .target, buffer := [], tooLong := false, dropMessage := false, listenAddress := false
          freeCount := some s.core.now }))) ∧
      (w = false ∨ a ≠ s.core.link.address ∨ a = 0 →
        exec (.watchedAddressByte a w) s = .next (s.leaves (s.core.setLink { s.core.link with
          queue := rest, retries := 0, losses := 0, moved := 0, retryWait := none, failed := none, lowCount := none
          st := if rest = [] then .idle else .waitFree, listenAddress := false, freeCount := some s.core.now })))) ∧
    (s.core.link.opened = true → s.core.modes.mode ≠ .failed → s.core.link.st = .listen → s.core.link.failed = none →
      exec .foreignStopCondition s = .next (s.leaves (s.core.setLink { s.core.link with
        listenAddress := false, dropMessage := false, freeCount := some s.core.now, st := s.core.link.resting })))

/-- A wire low for 35 ms: nine clock pulses where SCL is high, and LINK_STUCK with the wires' levels after the recovery.
With both high the link goes on; otherwise it is DOWN, and lamp control is ABSENT. In the self-test's link check the
recovery decides the check, with no fault. Here with nothing on the wire and nothing queued. -/
def Obligations.LowLineIsRecovered : Prop :=
  ∀ (high scl sda : Bool) (s : State), s.ready = true → s.core.link.st = .idle → s.core.link.queue = [] →
    s.core.link.waiting = [] →
    (s.core.linkCheck = false → s.core.link.opened = true → s.core.modes.mode ≠ .failed →
      ∃ t, exec (.lowLineLimit high scl sda) s = .next t ∧
        t.core.pins.linkPulses = s.core.pins.linkPulses + (if high then 9 else 0) ∧
        t.core.link.st = (if scl && sda then .idle else .down) ∧ t.core.link.queue = [] ∧
        t.core.cap.lamp.present = (if scl && sda then s.core.cap.lamp.present else false) ∧
        t.core.cap.lamp.st = s.core.cap.lamp.st ∧
        t.front.faults = s.front.queued ⟨.linkStuck, .link,
          BitVec.ofNat 24 (scl.toNat * 131072 + sda.toNat * 65536 + (scl && sda).toNat), 0⟩) ∧
    (s.core.linkCheck = true →
      ∃ t, exec (.lowLineLimit high scl sda) s = .next t ∧ t.core.modes.linkResult = some (scl && sda) ∧
        t.core.pins.linkPulses = s.core.pins.linkPulses + (if high then 9 else 0) ∧ t.front = s.front)

/-! ## Lens, reservations, camera -/

/-- The lens. Half a millisecond of stepping is one step of the homing run, or one toward the commanded step, with the
settle count started on arrival; an actuator at its goal takes none. The settle count's completion parks the lens, or
settles it for its frame. A frame's step is that of the present entry nearest its band, the lower of two, up to four bands
away, or else the Default Step, in the Focus Range. With everything else ready, a lens that settles lets the stop-mode
strobe fire at rest on the target, or sends the frame to its target again; the same for a probe's preview, where the film
off its target abandons the probe with nothing stored. -/
def Obligations.FocusStepsAndSettles : Prop :=
  (∀ s : State, s.ready = true →
    (1 < s.core.focus.homing →
      exec .focusStepTick s = .next (s.leaves ((s.core.setPins { s.core.pins with
        focusSteps := s.core.pins.focusSteps + 1 }).setFocus { s.core.focus with
          homing := s.core.focus.homing - 1, settle := none }))) ∧
    (s.core.focus.homing = 0 → s.core.focus.counter < s.core.focus.commanded →
      exec .focusStepTick s = .next (s.leaves ((s.core.setPins { s.core.pins with
        focusSteps := s.core.pins.focusSteps + 1 }).setFocus { s.core.focus with
          counter := s.core.focus.counter + 1
          settle := if s.core.focus.counter + 1 = s.core.focus.commanded then some s.core.now else none }))) ∧
    (s.core.focus.homing = 0 → s.core.focus.commanded < s.core.focus.counter →
      exec .focusStepTick s = .next (s.leaves ((s.core.setPins { s.core.pins with
        focusSteps := s.core.pins.focusSteps + 1 }).setFocus { s.core.focus with
          counter := s.core.focus.counter - 1
          settle := if s.core.focus.counter - 1 = s.core.focus.commanded then some s.core.now else none }))) ∧
    (s.core.focus.homing = 0 → s.core.focus.counter = s.core.focus.commanded →
      exec .focusStepTick s = .next (s.leaves s.core)) ∧
    (s.core.focus.settle ≠ none → s.core.focus.st = .moving .park →
      exec .focusSettleDone s = .next (s.leaves (s.core.setFocus { s.core.focus with settle := none, st := .parked }))) ∧
    (s.core.focus.settle ≠ none → s.core.focus.st = .moving .place → s.core.strobeless = true →
      exec .focusSettleDone s = .next (s.leaves (s.core.setFocus { s.core.focus with settle := none, st := .settled }))) ∧
    (s.core.focus.settle = none → exec .focusSettleDone s = .next (s.leaves s.core))) ∧
  (∀ (f : Focus) (p : Profile) (b : Nat), p.focusMin ≤ p.focusMax →
    (∀ (n : Nat) (e : BandEntry), f.map[n]? = some (some e) → |(n : Int) - b| ≤ 4 →
      (∀ (m : Nat) (g : BandEntry), f.map[m]? = some (some g) → m ≠ n →
        |(n : Int) - b| < |(m : Int) - b| ∨ |(n : Int) - b| = |(m : Int) - b| ∧ n < m) →
      f.choose p b = (max p.focusMin (min p.focusMax e.best), some n)) ∧
    ((∀ (n : Nat) (e : BandEntry), f.map[n]? = some (some e) → 4 < |(n : Int) - b|) →
      f.choose p b = (max p.focusMin (min p.focusMax p.defaultStep), none))) ∧
  (∀ (x : StopCapture) (pc : Placement) (q : Pass) (n k : Nat) (s : State), s.ready = true →
    s.core.focus.settle ≠ none → s.core.focus.st = .moving .place → s.core.focus.placement = some pc →
    pc.frame = x.frame → s.core.focus.probe = none → s.core.cap.flyby = none → s.core.cap.armed = none →
    s.core.cap.stop = some x → x.arrived = true → s.core.cap.lamp.st = .ready → s.core.cap.inHand = some n →
    s.core.cap.camera = .idle → s.core.tr.steady = true → s.core.tr.waiting = none → s.core.rm.pass = some q →
    q.films = true → q.ending = none → q.act = .atFrame k → q.place x.frame = some k → q.target = x.target →
    (|s.core.tr.p - x.target| ≤ (s.core.prof.stopTolerance : Int) →
      q.req.probeOnSoft = true ∨ q.size = some (k + 1) ∧ q.retrying = false ∧ q.req.retry = 0 →
      ∃ t w im, exec .focusSettleDone s = .next t ∧ t.core.focus.st = .settled ∧
        t.core.pins.strobes = s.core.pins.strobes + 1 ∧ t.core.cap.camera = .readout ∧ t.core.cap.inHand = none ∧
        t.core.cap.stop = none ∧ t.core.cap.filling = s.core.cap.filling ++ [im] ∧ im.frame = x.frame ∧
        im.ringSlot = n ∧ im.stopMode = true ∧ im.unsettled = false ∧ im.recapture = x.recapture ∧
        im.fullDepth = x.fullDepth ∧ im.pStrobe = s.core.tr.p ∧ im.step = s.core.focus.counter ∧ im.slot = q.slot ∧
        im.stamp = q.stamp ∧ t.core.rm.pass = some w ∧ w.captured = true ∧
        (q.stateAt k ≠ .delivered → w.stateAt k = .fired) ∧
        (q.req.probeOnSoft = true → w.act = .atFrame k ∧ w.strobed = true) ∧
        (q.req.probeOnSoft = false → w.ending = some .walkDone)) ∧
    ((s.core.prof.stopTolerance : Int) < |s.core.tr.p - x.target| → s.core.ix.motion = none →
      x.target ≤ 16000000 - 4 * (s.core.prof.stopTolerance : Int) →
      ∃ t w pl, exec .focusSettleDone s = .next t ∧ t.core.pins.strobes = s.core.pins.strobes ∧
        t.core.cap.stop = some { x with arrived := false } ∧ t.core.cap.inHand = some n ∧
        t.core.cap.filling = s.core.cap.filling ∧ t.core.rm.pass = some w ∧ w.act = .positioning k ∧
        t.core.tr.st = .move ∧ t.core.tr.plan = some pl ∧ pl.order = .position x.target)) ∧
  (∀ (q : Probe) (s : State), s.ready = true → s.core.focus.settle ≠ none → s.core.focus.st = .probing →
    s.core.focus.probe = some q → s.core.cap.stop = none → s.core.cap.flyby = none →
    s.core.cap.lamp.st = .ready → s.core.cap.camera = .idle → s.core.tr.steady = true →
    (|s.core.tr.p - q.target| ≤ (s.core.prof.stopTolerance : Int) →
      ∃ t r, exec .focusSettleDone s = .next t ∧ t.core.pins.strobes = s.core.pins.strobes + 1 ∧
        t.core.cap.camera = .readout ∧ t.core.cap.readout = some r ∧ r.preview = true ∧ r.lines = 0 ∧
        t.core.cap.filling = s.core.cap.filling ∧ t.core.cap.inHand = s.core.cap.inHand ∧
        t.core.focus.probe = some { q with phase := .reading } ∧ t.core.rm = s.core.rm) ∧
    (∀ (p : Pass) (k : Nat), (s.core.prof.stopTolerance : Int) < |s.core.tr.p - q.target| →
      q.target ≤ 16000000 - 4 * (s.core.prof.stopTolerance : Int) → s.core.unmoved = true → s.core.rm.pass = some p →
      p.kind = .request .probe → p.req.kind = .probe → p.ending = none → p.act = .probing k → p.target = q.target →
      ∃ t w pl, exec .focusSettleDone s = .next t ∧ t.core.pins.strobes = s.core.pins.strobes ∧
        t.core.focus.probe = none ∧ t.core.focus.map = s.core.focus.map ∧ t.core.rm.pass = some w ∧
        w.act = .positioning k ∧ t.core.tr.st = .move ∧ t.core.tr.plan = some pl ∧ pl.order = .position q.target))

/-- The reservation read: a head stamp of 0 reserves the slot at the cursor, which moves on around the ring; any other,
in a stop-mode capture, starts or goes on with the Image Wait and is read again 1 ms later; a read error also queues
MEMORY_READ with the ring slot. The Image Wait's expiry ends the pass with NO_ROOM. A frame that becomes current in a
flyby walk with no slot in hand asks for its read at once, and no Image Wait runs on. A slot that the current frame waited
for arms its compare with its PLACE; with P past the target the frame, here the walk's last, is placed all the same and
reported LATE. That a read in flight serves the capture that is waiting, whatever it was made for, is the model's choice
(notes/assumptions/84.md). -/
def Obligations.ReservationsFollowTheRing : Prop :=
  (∀ (c : Core) (frame : Nat) (fullDepth : Bool), c.cap.inHand = none → c.cap.reservation = .none →
    (c.flybyCurrent frame fullDepth).cap.reservation = .queued ∧
    (c.flybyCurrent frame fullDepth).cap.imageWait = none ∧ (c.flybyCurrent frame fullDepth).cap.reread = none) ∧
  (∀ s : State, s.ready = true →
    (∀ bs, s.core.cap.reservation = .flight → fieldAt bs 0 4 = 0 → s.core.strobeless = true →
      exec (.reservationReadDone (.data bs)) s = .next (s.leaves (s.core.setCap { s.core.cap with
        reservation := .none, inHand := some s.core.cap.cursor, imageWait := none, reread := none
        cursor := if s.core.port.setup.slotCount ≤ s.core.cap.cursor + 1 then 0 else s.core.cap.cursor + 1 }))) ∧
    (∀ bs x, s.core.cap.reservation = .flight → fieldAt bs 0 4 ≠ 0 → s.core.cap.stop = some x →
      s.core.prof.imageWait ≠ 0 →
      exec (.reservationReadDone (.data bs)) s = .next (s.leaves (s.core.setCap { s.core.cap with
        reservation := .none, reread := some s.core.now
        imageWait := if s.core.cap.imageWait = none then some s.core.now else s.core.cap.imageWait }))) ∧
    (∀ x, s.core.cap.reservation = .flight → s.core.cap.stop = some x → s.core.prof.imageWait ≠ 0 →
      ∃ t, exec (.reservationReadDone .error) s = .next t ∧ t.core.cap.reservation = .none ∧
        t.core.cap.reread = some s.core.now ∧ t.core.cap.inHand = s.core.cap.inHand ∧
        t.core.cap.cursor = s.core.cap.cursor ∧
        t.front.faults = s.front.queued ⟨.memoryRead, .captureUnit,
          BitVec.ofNat 24 s.core.cap.cursor, s.core.auxPass⟩) ∧
    (∀ x, s.core.cap.reread = some x → s.core.cap.inHand = none → s.core.cap.reservation = .none →
      exec .reservationRereadTimer s = .next (s.leaves (s.core.setCap { s.core.cap with
        reread := none, reservation := .queued }))) ∧
    (∀ x q, s.core.cap.imageWait = some x → s.core.rm.pass = some q → q.films = true → q.ending = none →
      s.core.cap.armed = none → s.core.tr.st = .hold → s.core.tr.waiting = none →
      ∃ t w, exec .imageWaitExpiry s = .next t ∧ t.core.rm.pass = some w ∧ w.ending = some .noRoom ∧
        w.slot = q.slot ∧ t.core.cap.imageWait = none ∧ t.core.cap.reread = none ∧ t.core.cap.stop = none ∧
        t.core.cap.inHand = s.core.cap.inHand ∧ t.core.cap.reservation ≠ .queued ∧ t.core.tr = s.core.tr)) ∧
  (∀ (bs : List Byte) (f : FlybyFrame) (e : Entry) (target value : Int) (s : State), s.ready = true →
    s.core.cap.reservation = .flight → fieldAt bs 0 4 = 0 → s.core.cap.stop = none → s.core.cap.flyby = some f →
    s.core.cap.armed = none → s.core.focus.probe = none → s.core.focus.st ≠ .probing → s.core.cap.camera = .idle →
    s.core.cap.lamp.st = .ready → s.core.ix.entry f.frame = some e →
    target = e.lead + (e.length / 2 : Nat) + (s.core.prof.gateOffset : Int) + s.core.ix.drift →
    value = max (target - s.core.prof.gateOffset)
      (target - ((2 * (s.core.tr.vRef / 1000 * s.core.prof.strobeLatency) + 5000) / 10000 : Nat)) →
    (s.core.tr.p < value →
      ∃ t pc, exec (.reservationReadDone (.data bs)) s = .next t ∧
        t.core.cap.armed =
          some { frame := f.frame, fullDepth := f.fullDepth, target := target, compare := value } ∧
        t.core.cap.flyby = some f ∧ t.core.cap.inHand = some s.core.cap.cursor ∧
        t.core.focus.placement = some pc ∧ pc.frame = f.frame ∧
        pc.band = focusBand s.core.prof (target - (s.core.prof.gateOffset : Int)) ∧
        t.core.pins.strobes = s.core.pins.strobes ∧ t.core.rm = s.core.rm) ∧
    (∀ q n k, target < s.core.tr.p → s.core.rm.pass = some q → q.ending = none → q.act = .walking k →
      q.start = some n → q.size = some (k + 1) → f.frame = n + k → s.core.tr.st = .move → 0 < s.core.tr.vRef →
      s.core.tr.phase ≠ .settle →
      ∃ t w pc, exec (.reservationReadDone (.data bs)) s = .next t ∧ t.core.cap.armed = none ∧
        t.core.cap.flyby = none ∧ t.core.focus.placement = some pc ∧ pc.frame = f.frame ∧
        t.core.pins.strobes = s.core.pins.strobes ∧ t.core.rm.pass = some w ∧ w.stateAt k = .missed ∧
        w.act = .walkStop))

/-- A camera line of a capture enters the Line FIFO, and CAM_HOLD is asserted exactly while the FIFO has no room for
another line; a line of another width has no effect; the last line frees the camera port and ends the image. Lines that
come after a truncation are discarded. The line of the last row of the Focus Window that is taken gives a probe preview's
score to the probe: with fewer than five points the next is commanded; the five scores either move the window, or store the best step, with the
parabola's offset, its score and the count of probes in the band; and a probe that has been cancelled stores nothing. The
score sums the squared differences of pixels two apart in every second window row; the best point is the highest, of equal
ones the nearest the centre, then the lower. -/
def Obligations.CameraLinesEnterTheFifo : Prop :=
  (∀ (pixels : List Pixel) (r : Readout) (im : Image) (rest : List Image) (s : State), s.ready = true →
    s.core.cap.readout = some r → s.core.cap.filling = rest ++ [im] →
    (s.core.cap.camera = .readout → r.preview = false → pixels.length = r.width → r.lines + 1 < r.height →
      ∃ t, exec (.cameraLine pixels) s = .next t ∧ t.core.cap.camera = .readout ∧
        t.core.cap.fifo = s.core.cap.fifo ++ [lineBytes r.depth pixels] ∧
        (∃ u, t.core.cap.readout = some u ∧ u.lines = r.lines + 1 ∧ u.height = r.height) ∧
        (∃ w, t.core.cap.filling = rest ++ [w] ∧ w.entered = im.entered + 1 ∧ w.ended = im.ended ∧
          w.frame = im.frame ∧ w.damaged = im.damaged) ∧
        (t.core.cap.camHold = true ↔ 262144 < t.core.cap.fill + r.width * r.depth) ∧ t.front = s.front) ∧
    (s.core.cap.camera = .readout → r.preview = false → pixels.length = r.width → r.lines + 1 = r.height →
      s.core.strobeless = true →
      ∃ t, exec (.cameraLine pixels) s = .next t ∧ t.core.cap.camera = .idle ∧ t.core.cap.readout = none ∧
        t.core.cap.camHold = false ∧ t.core.cap.fifo = s.core.cap.fifo ++ [lineBytes r.depth pixels] ∧
        ∃ w, t.core.cap.filling = rest ++ [w] ∧ w.entered = im.entered + 1 ∧ w.ended = true ∧ w.damaged = im.damaged) ∧
    (s.core.cap.camera = .readout → pixels.length ≠ r.width →
      exec (.cameraLine pixels) s = .next (s.leaves s.core)) ∧
    (s.core.cap.camera = .discarding → r.lines + 1 < r.height →
      exec (.cameraLine pixels) s = .next (s.leaves (s.core.setCap { s.core.cap with
        readout := some { r with lines := r.lines + 1 } })))) ∧
  (∀ (pixels : List Pixel) (r : Readout) (sc : Score) (q : Probe) (v : Nat) (s : State), s.ready = true →
    s.core.cap.camera = .readout → s.core.cap.readout = some r → r.preview = true → pixels.length = r.width →
    r.lines + 1 < r.height → s.core.cap.score = some sc → sc.y ≤ r.lines → (r.lines - sc.y) % 2 = 0 →
    r.lines < sc.y + sc.height → sc.y + sc.height ≤ r.lines + 2 →
    s.core.focus.probe = some q → q.phase = .reading →
    v = min ((sc.sum + rowSum (((pixels.drop sc.x).take sc.width).map fun d => d.toNat / 256)) / 2 ^ sc.shift)
      16777215 →
    (q.cancelled = false → q.scores.length < 4 →
      ∃ t w, exec (.cameraLine pixels) s = .next t ∧ t.core.focus.probe = some w ∧ w.scores = q.scores ++ [v] ∧
        w.centre = q.centre ∧ w.delta = q.delta ∧ w.shift = q.shift ∧ w.band = q.band ∧ t.core.focus.st = .probing ∧
        t.core.focus.commanded =
          clampFocus s.core.prof (q.centre + ((q.scores.length : Int) + 1 - 2) * q.delta) ∧
        t.core.focus.map = s.core.focus.map ∧ t.core.cap.fifo = s.core.cap.fifo ∧ t.core.rm = s.core.rm) ∧
    (∀ i, q.cancelled = false → q.scores.length = 4 → i = bestPoint (q.scores ++ [v]) →
      (∀ c, (i = 0 ∧ c = probeCentre s.core.prof q.delta (q.centre - 2 * q.delta) ∨
          i = 4 ∧ c = probeCentre s.core.prof q.delta (q.centre + 2 * q.delta)) → q.shift < 3 → c ≠ q.centre →
        ∃ t w, exec (.cameraLine pixels) s = .next t ∧ t.core.focus.probe = some w ∧ w.scores = [] ∧ w.centre = c ∧
          w.shift = q.shift + 1 ∧ w.delta = q.delta ∧ w.band = q.band ∧
          t.core.focus.commanded = clampFocus s.core.prof (c - 2 * q.delta) ∧ t.core.focus.map = s.core.focus.map) ∧
      (∀ (best : Nat) (off : Int), (0 < i ∧ i < 4) ∨ 3 ≤ q.shift → q.band < s.core.focus.map.length →
        off = (if i = 0 ∨ i = 4 then 0
          else probeOffset q.delta ((q.scores ++ [v]).getD (i - 1) 0) ((q.scores ++ [v]).getD i 0)
            ((q.scores ++ [v]).getD (i + 1) 0)) →
        best = clampFocus s.core.prof
          ((clampFocus s.core.prof (q.centre + ((i : Int) - 2) * q.delta) : Int) + off) →
        ∃ t e, exec (.cameraLine pixels) s = .next t ∧ t.core.focus.probe = none ∧
          t.core.focus.map[q.band]? = some (some e) ∧ e.best = best ∧ e.reference = (q.scores ++ [v]).getD i 0 ∧
          (∀ old, s.core.focus.map[q.band]? = some (some old) → e.probes = min (old.probes + 1) 255) ∧
          (s.core.focus.map[q.band]? = some none → e.probes = 1) ∧
          (∀ b, b ≠ q.band → t.core.focus.map[b]? = s.core.focus.map[b]?) ∧
          (∀ p k, s.core.rm.pass = some p → p.kind = .request .probe → p.req.kind = .probe → p.ending = none →
            p.act = .probing k → ∃ w, t.core.rm.pass = some w ∧ w.ending = some (.fixed .done 0)))) ∧
    (q.cancelled = true → (∀ p, s.core.rm.pass = some p → p.ending ≠ none) →
      ∃ t, exec (.cameraLine pixels) s = .next t ∧ t.core.focus.probe = none ∧
        t.core.focus.map = s.core.focus.map ∧ ∀ p, s.core.rm.pass = some p →
          ∃ w, t.core.rm.pass = some w ∧ w.waitProbe = false)) ∧
  (rowSum [] = 0 ∧ (∀ a, rowSum [a] = 0) ∧ (∀ a b, rowSum [a, b] = 0) ∧
    (∀ (a b c : Nat) (l : List Nat), rowSum (a :: b :: c :: l) = ((c : Int) - a).natAbs ^ 2 + rowSum (b :: c :: l))) ∧
  (∀ (p : Profile) (x : Int), p.focusMin ≤ p.focusMax →
    (clampFocus p x : Int) = max (p.focusMin : Int) (min (p.focusMax : Int) x)) ∧
  (∀ scores : List Nat, scores.length = 5 → bestPoint scores < 5 ∧ ∀ n, n < 5 →
    scores.getD n 0 < scores.getD (bestPoint scores) 0 ∨ scores.getD n 0 = scores.getD (bestPoint scores) 0 ∧
      (|(bestPoint scores : Int) - 2| < |(n : Int) - 2| ∨
        |(bestPoint scores : Int) - 2| = |(n : Int) - 2| ∧ bestPoint scores ≤ n)) ∧
  (∀ (delta : Nat) (a b c : Nat) (den : Int), den = 2 * ((a : Int) - 2 * b + c) →
    (0 ≤ den → probeOffset delta a b c = 0) ∧
    (den < 0 → probeOffset delta a b c =
      max (-((delta / 2 : Nat) : Int)) (min ((delta / 2 : Nat) : Int) (Int.tdiv ((delta : Int) * ((a : Int) - c)) den)))) ∧
  (∀ (p : Profile) (delta : Nat) (x : Int),
    ((p.focusMin : Int) + 2 * delta ≤ (p.focusMax : Int) - 2 * delta → probeCentre p delta x =
      max ((p.focusMin : Int) + 2 * delta) (min ((p.focusMax : Int) - 2 * delta) x)) ∧
    ((p.focusMax : Int) - 2 * delta < (p.focusMin : Int) + 2 * delta →
      probeCentre p delta x = ((p.focusMin + p.focusMax) / 2 : Nat)))

/-- The camera's failures: 100 ms without a line, CAM_HOLD released, ends the image DAMAGED, frees the port and queues
CAMERA_TIMEOUT with the lines received; an idle port or one that is held has no timeout. A flyby image held for 2 ms in
all is truncated: DAMAGED, its remaining lines discarded, with FIFO_OVERFLOW. -/
def Obligations.CameraFailuresDamageTheImage : Prop :=
  ∀ (r : Readout) (im : Image) (rest : List Image) (s : State), s.ready = true → s.core.cap.readout = some r →
    s.core.cap.filling = rest ++ [im] → r.preview = false →
    (s.core.cap.camera = .readout → s.core.cap.camHold = false → s.core.strobeless = true →
      ∃ t, exec .cameraTimeout s = .next t ∧ t.core.cap.camera = .idle ∧ t.core.cap.readout = none ∧
        (∃ w, t.core.cap.filling = rest ++ [w] ∧ w.ended = true ∧ w.damaged = true ∧ w.entered = im.entered) ∧
        t.core.cap.fifo = s.core.cap.fifo ∧
        t.front.faults = s.front.queued ⟨.cameraTimeout, .captureUnit, BitVec.ofNat 24 r.lines, s.core.auxPass⟩) ∧
    (s.core.cap.camera = .idle ∨ s.core.cap.camHold = true →
      exec .cameraTimeout s = .next (s.leaves s.core)) ∧
    (s.core.cap.camera = .readout → s.core.cap.camHold = true → r.stopMode = false →
      ∃ t, exec .flybyHoldLimit s = .next t ∧ t.core.cap.camera = .discarding ∧ t.core.cap.camHold = false ∧
        t.core.cap.readout = some r ∧
        (∃ w, t.core.cap.filling = rest ++ [w] ∧ w.ended = true ∧ w.damaged = true ∧ w.entered = im.entered) ∧
        t.front.faults = s.front.queued ⟨.fifoOverflow, .captureUnit,
          BitVec.ofNat 24 (im.ringSlot * 65536 + im.entered), s.core.auxPass⟩) ∧
    (s.core.cap.camHold = false → exec .flybyHoldLimit s = .next (s.leaves s.core))
end

