-- ==== Sys2Proof/Laws/State.lean ====
section
/-!
SUPPORT. One lemma for each update of the core and each field: what the field holds after it. All are true by rfl and
are simp lemmas, so that no proof unfolds an update.
-/

namespace Sys2Proof.Machine

variable (c : Core)

/-! ### setPins -/

@[simp] theorem Core.setPins_pins (x : Pins) : (c.setPins x).pins = x := rfl
@[simp] theorem Core.setPins_modes (x : Pins) : (c.setPins x).modes = c.modes := rfl
@[simp] theorem Core.setPins_port (x : Pins) : (c.setPins x).port = c.port := rfl
@[simp] theorem Core.setPins_rm (x : Pins) : (c.setPins x).rm = c.rm := rfl
@[simp] theorem Core.setPins_store (x : Pins) : (c.setPins x).store = c.store := rfl
@[simp] theorem Core.setPins_tr (x : Pins) : (c.setPins x).tr = c.tr := rfl
@[simp] theorem Core.setPins_ix (x : Pins) : (c.setPins x).ix = c.ix := rfl
@[simp] theorem Core.setPins_porter (x : Pins) : (c.setPins x).porter = c.porter := rfl
@[simp] theorem Core.setPins_focus (x : Pins) : (c.setPins x).focus = c.focus := rfl
@[simp] theorem Core.setPins_cap (x : Pins) : (c.setPins x).cap = c.cap := rfl
@[simp] theorem Core.setPins_roll (x : Pins) : (c.setPins x).roll = c.roll := rfl
@[simp] theorem Core.setPins_link (x : Pins) : (c.setPins x).link = c.link := rfl
@[simp] theorem Core.setPins_sig (x : Pins) : (c.setPins x).sig = c.sig := rfl
@[simp] theorem Core.setPins_out (x : Pins) : (c.setPins x).out = c.out := rfl
@[simp] theorem Core.setPins_now (x : Pins) : (c.setPins x).now = c.now := rfl
@[simp] theorem Core.setPins_free (x : Pins) : (c.setPins x).free = c.free := rfl

/-! ### setModes -/

@[simp] theorem Core.setModes_pins (x : Modes) : (c.setModes x).pins = c.pins := rfl
@[simp] theorem Core.setModes_modes (x : Modes) : (c.setModes x).modes = x := rfl
@[simp] theorem Core.setModes_port (x : Modes) : (c.setModes x).port = c.port := rfl
@[simp] theorem Core.setModes_rm (x : Modes) : (c.setModes x).rm = c.rm := rfl
@[simp] theorem Core.setModes_store (x : Modes) : (c.setModes x).store = c.store := rfl
@[simp] theorem Core.setModes_tr (x : Modes) : (c.setModes x).tr = c.tr := rfl
@[simp] theorem Core.setModes_ix (x : Modes) : (c.setModes x).ix = c.ix := rfl
@[simp] theorem Core.setModes_porter (x : Modes) : (c.setModes x).porter = c.porter := rfl
@[simp] theorem Core.setModes_focus (x : Modes) : (c.setModes x).focus = c.focus := rfl
@[simp] theorem Core.setModes_cap (x : Modes) : (c.setModes x).cap = c.cap := rfl
@[simp] theorem Core.setModes_roll (x : Modes) : (c.setModes x).roll = c.roll := rfl
@[simp] theorem Core.setModes_link (x : Modes) : (c.setModes x).link = c.link := rfl
@[simp] theorem Core.setModes_sig (x : Modes) : (c.setModes x).sig = c.sig := rfl
@[simp] theorem Core.setModes_out (x : Modes) : (c.setModes x).out = c.out := rfl
@[simp] theorem Core.setModes_now (x : Modes) : (c.setModes x).now = c.now := rfl
@[simp] theorem Core.setModes_free (x : Modes) : (c.setModes x).free = c.free := rfl

/-! ### setPort -/

@[simp] theorem Core.setPort_pins (x : Port) : (c.setPort x).pins = c.pins := rfl
@[simp] theorem Core.setPort_modes (x : Port) : (c.setPort x).modes = c.modes := rfl
@[simp] theorem Core.setPort_port (x : Port) : (c.setPort x).port = x := rfl
@[simp] theorem Core.setPort_rm (x : Port) : (c.setPort x).rm = c.rm := rfl
@[simp] theorem Core.setPort_store (x : Port) : (c.setPort x).store = c.store := rfl
@[simp] theorem Core.setPort_tr (x : Port) : (c.setPort x).tr = c.tr := rfl
@[simp] theorem Core.setPort_ix (x : Port) : (c.setPort x).ix = c.ix := rfl
@[simp] theorem Core.setPort_porter (x : Port) : (c.setPort x).porter = c.porter := rfl
@[simp] theorem Core.setPort_focus (x : Port) : (c.setPort x).focus = c.focus := rfl
@[simp] theorem Core.setPort_cap (x : Port) : (c.setPort x).cap = c.cap := rfl
@[simp] theorem Core.setPort_roll (x : Port) : (c.setPort x).roll = c.roll := rfl
@[simp] theorem Core.setPort_link (x : Port) : (c.setPort x).link = c.link := rfl
@[simp] theorem Core.setPort_sig (x : Port) : (c.setPort x).sig = c.sig := rfl
@[simp] theorem Core.setPort_out (x : Port) : (c.setPort x).out = c.out := rfl
@[simp] theorem Core.setPort_now (x : Port) : (c.setPort x).now = c.now := rfl
@[simp] theorem Core.setPort_free (x : Port) : (c.setPort x).free = c.free := rfl

/-! ### setRm -/

@[simp] theorem Core.setRm_pins (x : ReqMgr) : (c.setRm x).pins = c.pins := rfl
@[simp] theorem Core.setRm_modes (x : ReqMgr) : (c.setRm x).modes = c.modes := rfl
@[simp] theorem Core.setRm_port (x : ReqMgr) : (c.setRm x).port = c.port := rfl
@[simp] theorem Core.setRm_rm (x : ReqMgr) : (c.setRm x).rm = x := rfl
@[simp] theorem Core.setRm_store (x : ReqMgr) : (c.setRm x).store = c.store := rfl
@[simp] theorem Core.setRm_tr (x : ReqMgr) : (c.setRm x).tr = c.tr := rfl
@[simp] theorem Core.setRm_ix (x : ReqMgr) : (c.setRm x).ix = c.ix := rfl
@[simp] theorem Core.setRm_porter (x : ReqMgr) : (c.setRm x).porter = c.porter := rfl
@[simp] theorem Core.setRm_focus (x : ReqMgr) : (c.setRm x).focus = c.focus := rfl
@[simp] theorem Core.setRm_cap (x : ReqMgr) : (c.setRm x).cap = c.cap := rfl
@[simp] theorem Core.setRm_roll (x : ReqMgr) : (c.setRm x).roll = c.roll := rfl
@[simp] theorem Core.setRm_link (x : ReqMgr) : (c.setRm x).link = c.link := rfl
@[simp] theorem Core.setRm_sig (x : ReqMgr) : (c.setRm x).sig = c.sig := rfl
@[simp] theorem Core.setRm_out (x : ReqMgr) : (c.setRm x).out = c.out := rfl
@[simp] theorem Core.setRm_now (x : ReqMgr) : (c.setRm x).now = c.now := rfl
@[simp] theorem Core.setRm_free (x : ReqMgr) : (c.setRm x).free = c.free := rfl

/-! ### setStore -/

@[simp] theorem Core.setStore_pins (x : Store) : (c.setStore x).pins = c.pins := rfl
@[simp] theorem Core.setStore_modes (x : Store) : (c.setStore x).modes = c.modes := rfl
@[simp] theorem Core.setStore_port (x : Store) : (c.setStore x).port = c.port := rfl
@[simp] theorem Core.setStore_rm (x : Store) : (c.setStore x).rm = c.rm := rfl
@[simp] theorem Core.setStore_store (x : Store) : (c.setStore x).store = x := rfl
@[simp] theorem Core.setStore_tr (x : Store) : (c.setStore x).tr = c.tr := rfl
@[simp] theorem Core.setStore_ix (x : Store) : (c.setStore x).ix = c.ix := rfl
@[simp] theorem Core.setStore_porter (x : Store) : (c.setStore x).porter = c.porter := rfl
@[simp] theorem Core.setStore_focus (x : Store) : (c.setStore x).focus = c.focus := rfl
@[simp] theorem Core.setStore_cap (x : Store) : (c.setStore x).cap = c.cap := rfl
@[simp] theorem Core.setStore_roll (x : Store) : (c.setStore x).roll = c.roll := rfl
@[simp] theorem Core.setStore_link (x : Store) : (c.setStore x).link = c.link := rfl
@[simp] theorem Core.setStore_sig (x : Store) : (c.setStore x).sig = c.sig := rfl
@[simp] theorem Core.setStore_out (x : Store) : (c.setStore x).out = c.out := rfl
@[simp] theorem Core.setStore_now (x : Store) : (c.setStore x).now = c.now := rfl
@[simp] theorem Core.setStore_free (x : Store) : (c.setStore x).free = c.free := rfl

/-! ### setTr -/

@[simp] theorem Core.setTr_pins (x : Transport) : (c.setTr x).pins = c.pins := rfl
@[simp] theorem Core.setTr_modes (x : Transport) : (c.setTr x).modes = c.modes := rfl
@[simp] theorem Core.setTr_port (x : Transport) : (c.setTr x).port = c.port := rfl
@[simp] theorem Core.setTr_rm (x : Transport) : (c.setTr x).rm = c.rm := rfl
@[simp] theorem Core.setTr_store (x : Transport) : (c.setTr x).store = c.store := rfl
@[simp] theorem Core.setTr_tr (x : Transport) : (c.setTr x).tr = x := rfl
@[simp] theorem Core.setTr_ix (x : Transport) : (c.setTr x).ix = c.ix := rfl
@[simp] theorem Core.setTr_porter (x : Transport) : (c.setTr x).porter = c.porter := rfl
@[simp] theorem Core.setTr_focus (x : Transport) : (c.setTr x).focus = c.focus := rfl
@[simp] theorem Core.setTr_cap (x : Transport) : (c.setTr x).cap = c.cap := rfl
@[simp] theorem Core.setTr_roll (x : Transport) : (c.setTr x).roll = c.roll := rfl
@[simp] theorem Core.setTr_link (x : Transport) : (c.setTr x).link = c.link := rfl
@[simp] theorem Core.setTr_sig (x : Transport) : (c.setTr x).sig = c.sig := rfl
@[simp] theorem Core.setTr_out (x : Transport) : (c.setTr x).out = c.out := rfl
@[simp] theorem Core.setTr_now (x : Transport) : (c.setTr x).now = c.now := rfl
@[simp] theorem Core.setTr_free (x : Transport) : (c.setTr x).free = c.free := rfl

/-! ### setIx -/

@[simp] theorem Core.setIx_pins (x : IndexUnit) : (c.setIx x).pins = c.pins := rfl
@[simp] theorem Core.setIx_modes (x : IndexUnit) : (c.setIx x).modes = c.modes := rfl
@[simp] theorem Core.setIx_port (x : IndexUnit) : (c.setIx x).port = c.port := rfl
@[simp] theorem Core.setIx_rm (x : IndexUnit) : (c.setIx x).rm = c.rm := rfl
@[simp] theorem Core.setIx_store (x : IndexUnit) : (c.setIx x).store = c.store := rfl
@[simp] theorem Core.setIx_tr (x : IndexUnit) : (c.setIx x).tr = c.tr := rfl
@[simp] theorem Core.setIx_ix (x : IndexUnit) : (c.setIx x).ix = x := rfl
@[simp] theorem Core.setIx_porter (x : IndexUnit) : (c.setIx x).porter = c.porter := rfl
@[simp] theorem Core.setIx_focus (x : IndexUnit) : (c.setIx x).focus = c.focus := rfl
@[simp] theorem Core.setIx_cap (x : IndexUnit) : (c.setIx x).cap = c.cap := rfl
@[simp] theorem Core.setIx_roll (x : IndexUnit) : (c.setIx x).roll = c.roll := rfl
@[simp] theorem Core.setIx_link (x : IndexUnit) : (c.setIx x).link = c.link := rfl
@[simp] theorem Core.setIx_sig (x : IndexUnit) : (c.setIx x).sig = c.sig := rfl
@[simp] theorem Core.setIx_out (x : IndexUnit) : (c.setIx x).out = c.out := rfl
@[simp] theorem Core.setIx_now (x : IndexUnit) : (c.setIx x).now = c.now := rfl
@[simp] theorem Core.setIx_free (x : IndexUnit) : (c.setIx x).free = c.free := rfl

/-! ### setPorter -/

@[simp] theorem Core.setPorter_pins (x : Porter) : (c.setPorter x).pins = c.pins := rfl
@[simp] theorem Core.setPorter_modes (x : Porter) : (c.setPorter x).modes = c.modes := rfl
@[simp] theorem Core.setPorter_port (x : Porter) : (c.setPorter x).port = c.port := rfl
@[simp] theorem Core.setPorter_rm (x : Porter) : (c.setPorter x).rm = c.rm := rfl
@[simp] theorem Core.setPorter_store (x : Porter) : (c.setPorter x).store = c.store := rfl
@[simp] theorem Core.setPorter_tr (x : Porter) : (c.setPorter x).tr = c.tr := rfl
@[simp] theorem Core.setPorter_ix (x : Porter) : (c.setPorter x).ix = c.ix := rfl
@[simp] theorem Core.setPorter_porter (x : Porter) : (c.setPorter x).porter = x := rfl
@[simp] theorem Core.setPorter_focus (x : Porter) : (c.setPorter x).focus = c.focus := rfl
@[simp] theorem Core.setPorter_cap (x : Porter) : (c.setPorter x).cap = c.cap := rfl
@[simp] theorem Core.setPorter_roll (x : Porter) : (c.setPorter x).roll = c.roll := rfl
@[simp] theorem Core.setPorter_link (x : Porter) : (c.setPorter x).link = c.link := rfl
@[simp] theorem Core.setPorter_sig (x : Porter) : (c.setPorter x).sig = c.sig := rfl
@[simp] theorem Core.setPorter_out (x : Porter) : (c.setPorter x).out = c.out := rfl
@[simp] theorem Core.setPorter_now (x : Porter) : (c.setPorter x).now = c.now := rfl
@[simp] theorem Core.setPorter_free (x : Porter) : (c.setPorter x).free = c.free := rfl

/-! ### setFocus -/

@[simp] theorem Core.setFocus_pins (x : Focus) : (c.setFocus x).pins = c.pins := rfl
@[simp] theorem Core.setFocus_modes (x : Focus) : (c.setFocus x).modes = c.modes := rfl
@[simp] theorem Core.setFocus_port (x : Focus) : (c.setFocus x).port = c.port := rfl
@[simp] theorem Core.setFocus_rm (x : Focus) : (c.setFocus x).rm = c.rm := rfl
@[simp] theorem Core.setFocus_store (x : Focus) : (c.setFocus x).store = c.store := rfl
@[simp] theorem Core.setFocus_tr (x : Focus) : (c.setFocus x).tr = c.tr := rfl
@[simp] theorem Core.setFocus_ix (x : Focus) : (c.setFocus x).ix = c.ix := rfl
@[simp] theorem Core.setFocus_porter (x : Focus) : (c.setFocus x).porter = c.porter := rfl
@[simp] theorem Core.setFocus_focus (x : Focus) : (c.setFocus x).focus = x := rfl
@[simp] theorem Core.setFocus_cap (x : Focus) : (c.setFocus x).cap = c.cap := rfl
@[simp] theorem Core.setFocus_roll (x : Focus) : (c.setFocus x).roll = c.roll := rfl
@[simp] theorem Core.setFocus_link (x : Focus) : (c.setFocus x).link = c.link := rfl
@[simp] theorem Core.setFocus_sig (x : Focus) : (c.setFocus x).sig = c.sig := rfl
@[simp] theorem Core.setFocus_out (x : Focus) : (c.setFocus x).out = c.out := rfl
@[simp] theorem Core.setFocus_now (x : Focus) : (c.setFocus x).now = c.now := rfl
@[simp] theorem Core.setFocus_free (x : Focus) : (c.setFocus x).free = c.free := rfl

/-! ### setCap -/

@[simp] theorem Core.setCap_pins (x : Capture) : (c.setCap x).pins = c.pins := rfl
@[simp] theorem Core.setCap_modes (x : Capture) : (c.setCap x).modes = c.modes := rfl
@[simp] theorem Core.setCap_port (x : Capture) : (c.setCap x).port = c.port := rfl
@[simp] theorem Core.setCap_rm (x : Capture) : (c.setCap x).rm = c.rm := rfl
@[simp] theorem Core.setCap_store (x : Capture) : (c.setCap x).store = c.store := rfl
@[simp] theorem Core.setCap_tr (x : Capture) : (c.setCap x).tr = c.tr := rfl
@[simp] theorem Core.setCap_ix (x : Capture) : (c.setCap x).ix = c.ix := rfl
@[simp] theorem Core.setCap_porter (x : Capture) : (c.setCap x).porter = c.porter := rfl
@[simp] theorem Core.setCap_focus (x : Capture) : (c.setCap x).focus = c.focus := rfl
@[simp] theorem Core.setCap_cap (x : Capture) : (c.setCap x).cap = x := rfl
@[simp] theorem Core.setCap_roll (x : Capture) : (c.setCap x).roll = c.roll := rfl
@[simp] theorem Core.setCap_link (x : Capture) : (c.setCap x).link = c.link := rfl
@[simp] theorem Core.setCap_sig (x : Capture) : (c.setCap x).sig = c.sig := rfl
@[simp] theorem Core.setCap_out (x : Capture) : (c.setCap x).out = c.out := rfl
@[simp] theorem Core.setCap_now (x : Capture) : (c.setCap x).now = c.now := rfl
@[simp] theorem Core.setCap_free (x : Capture) : (c.setCap x).free = c.free := rfl

/-! ### setRoll -/

@[simp] theorem Core.setRoll_pins (x : RollMgr) : (c.setRoll x).pins = c.pins := rfl
@[simp] theorem Core.setRoll_modes (x : RollMgr) : (c.setRoll x).modes = c.modes := rfl
@[simp] theorem Core.setRoll_port (x : RollMgr) : (c.setRoll x).port = c.port := rfl
@[simp] theorem Core.setRoll_rm (x : RollMgr) : (c.setRoll x).rm = c.rm := rfl
@[simp] theorem Core.setRoll_store (x : RollMgr) : (c.setRoll x).store = c.store := rfl
@[simp] theorem Core.setRoll_tr (x : RollMgr) : (c.setRoll x).tr = c.tr := rfl
@[simp] theorem Core.setRoll_ix (x : RollMgr) : (c.setRoll x).ix = c.ix := rfl
@[simp] theorem Core.setRoll_porter (x : RollMgr) : (c.setRoll x).porter = c.porter := rfl
@[simp] theorem Core.setRoll_focus (x : RollMgr) : (c.setRoll x).focus = c.focus := rfl
@[simp] theorem Core.setRoll_cap (x : RollMgr) : (c.setRoll x).cap = c.cap := rfl
@[simp] theorem Core.setRoll_roll (x : RollMgr) : (c.setRoll x).roll = x := rfl
@[simp] theorem Core.setRoll_link (x : RollMgr) : (c.setRoll x).link = c.link := rfl
@[simp] theorem Core.setRoll_sig (x : RollMgr) : (c.setRoll x).sig = c.sig := rfl
@[simp] theorem Core.setRoll_out (x : RollMgr) : (c.setRoll x).out = c.out := rfl
@[simp] theorem Core.setRoll_now (x : RollMgr) : (c.setRoll x).now = c.now := rfl
@[simp] theorem Core.setRoll_free (x : RollMgr) : (c.setRoll x).free = c.free := rfl

/-! ### setLink -/

@[simp] theorem Core.setLink_pins (x : Link) : (c.setLink x).pins = c.pins := rfl
@[simp] theorem Core.setLink_modes (x : Link) : (c.setLink x).modes = c.modes := rfl
@[simp] theorem Core.setLink_port (x : Link) : (c.setLink x).port = c.port := rfl
@[simp] theorem Core.setLink_rm (x : Link) : (c.setLink x).rm = c.rm := rfl
@[simp] theorem Core.setLink_store (x : Link) : (c.setLink x).store = c.store := rfl
@[simp] theorem Core.setLink_tr (x : Link) : (c.setLink x).tr = c.tr := rfl
@[simp] theorem Core.setLink_ix (x : Link) : (c.setLink x).ix = c.ix := rfl
@[simp] theorem Core.setLink_porter (x : Link) : (c.setLink x).porter = c.porter := rfl
@[simp] theorem Core.setLink_focus (x : Link) : (c.setLink x).focus = c.focus := rfl
@[simp] theorem Core.setLink_cap (x : Link) : (c.setLink x).cap = c.cap := rfl
@[simp] theorem Core.setLink_roll (x : Link) : (c.setLink x).roll = c.roll := rfl
@[simp] theorem Core.setLink_link (x : Link) : (c.setLink x).link = x := rfl
@[simp] theorem Core.setLink_sig (x : Link) : (c.setLink x).sig = c.sig := rfl
@[simp] theorem Core.setLink_out (x : Link) : (c.setLink x).out = c.out := rfl
@[simp] theorem Core.setLink_now (x : Link) : (c.setLink x).now = c.now := rfl
@[simp] theorem Core.setLink_free (x : Link) : (c.setLink x).free = c.free := rfl

/-! ### emit -/

@[simp] theorem Core.emit_pins (x : Signal) : (c.emit x).pins = c.pins := rfl
@[simp] theorem Core.emit_modes (x : Signal) : (c.emit x).modes = c.modes := rfl
@[simp] theorem Core.emit_port (x : Signal) : (c.emit x).port = c.port := rfl
@[simp] theorem Core.emit_rm (x : Signal) : (c.emit x).rm = c.rm := rfl
@[simp] theorem Core.emit_store (x : Signal) : (c.emit x).store = c.store := rfl
@[simp] theorem Core.emit_tr (x : Signal) : (c.emit x).tr = c.tr := rfl
@[simp] theorem Core.emit_ix (x : Signal) : (c.emit x).ix = c.ix := rfl
@[simp] theorem Core.emit_porter (x : Signal) : (c.emit x).porter = c.porter := rfl
@[simp] theorem Core.emit_focus (x : Signal) : (c.emit x).focus = c.focus := rfl
@[simp] theorem Core.emit_cap (x : Signal) : (c.emit x).cap = c.cap := rfl
@[simp] theorem Core.emit_roll (x : Signal) : (c.emit x).roll = c.roll := rfl
@[simp] theorem Core.emit_link (x : Signal) : (c.emit x).link = c.link := rfl
@[simp] theorem Core.emit_sig (x : Signal) : (c.emit x).sig = c.sig ++ [x] := rfl
@[simp] theorem Core.emit_out (x : Signal) : (c.emit x).out = c.out := rfl
@[simp] theorem Core.emit_now (x : Signal) : (c.emit x).now = c.now := rfl
@[simp] theorem Core.emit_free (x : Signal) : (c.emit x).free = c.free := rfl

/-! ### send -/

@[simp] theorem Core.send_pins (x : Out) : (c.send x).pins = c.pins := rfl
@[simp] theorem Core.send_modes (x : Out) : (c.send x).modes = c.modes := rfl
@[simp] theorem Core.send_port (x : Out) : (c.send x).port = c.port := rfl
@[simp] theorem Core.send_rm (x : Out) : (c.send x).rm = c.rm := rfl
@[simp] theorem Core.send_store (x : Out) : (c.send x).store = c.store := rfl
@[simp] theorem Core.send_tr (x : Out) : (c.send x).tr = c.tr := rfl
@[simp] theorem Core.send_ix (x : Out) : (c.send x).ix = c.ix := rfl
@[simp] theorem Core.send_porter (x : Out) : (c.send x).porter = c.porter := rfl
@[simp] theorem Core.send_focus (x : Out) : (c.send x).focus = c.focus := rfl
@[simp] theorem Core.send_cap (x : Out) : (c.send x).cap = c.cap := rfl
@[simp] theorem Core.send_roll (x : Out) : (c.send x).roll = c.roll := rfl
@[simp] theorem Core.send_link (x : Out) : (c.send x).link = c.link := rfl
@[simp] theorem Core.send_sig (x : Out) : (c.send x).sig = c.sig := rfl
@[simp] theorem Core.send_out (x : Out) : (c.send x).out = c.out ++ [x] := rfl
@[simp] theorem Core.send_now (x : Out) : (c.send x).now = c.now := rfl
@[simp] theorem Core.send_free (x : Out) : (c.send x).free = c.free := rfl

/-! ### nextFree, fault, trigger -/

@[simp] theorem Core.nextFree_pins : c.nextFree.pins = c.pins := rfl
@[simp] theorem Core.nextFree_modes : c.nextFree.modes = c.modes := rfl
@[simp] theorem Core.nextFree_port : c.nextFree.port = c.port := rfl
@[simp] theorem Core.nextFree_rm : c.nextFree.rm = c.rm := rfl
@[simp] theorem Core.nextFree_store : c.nextFree.store = c.store := rfl
@[simp] theorem Core.nextFree_tr : c.nextFree.tr = c.tr := rfl
@[simp] theorem Core.nextFree_ix : c.nextFree.ix = c.ix := rfl
@[simp] theorem Core.nextFree_porter : c.nextFree.porter = c.porter := rfl
@[simp] theorem Core.nextFree_focus : c.nextFree.focus = c.focus := rfl
@[simp] theorem Core.nextFree_cap : c.nextFree.cap = c.cap := rfl
@[simp] theorem Core.nextFree_roll : c.nextFree.roll = c.roll := rfl
@[simp] theorem Core.nextFree_link : c.nextFree.link = c.link := rfl
@[simp] theorem Core.nextFree_sig : c.nextFree.sig = c.sig := rfl
@[simp] theorem Core.nextFree_out : c.nextFree.out = c.out := rfl
@[simp] theorem Core.nextFree_now : c.nextFree.now = c.now := rfl
@[simp] theorem Core.nextFree_free : c.nextFree.free = c.free + 1 := rfl
@[simp] theorem Core.fault_pins (n : FaultName) (s : Source) (i : Nat) (a : BitVec 28) :
    (c.fault n s i a).pins = c.pins := rfl
@[simp] theorem Core.fault_modes (n : FaultName) (s : Source) (i : Nat) (a : BitVec 28) :
    (c.fault n s i a).modes = c.modes := rfl
@[simp] theorem Core.fault_port (n : FaultName) (s : Source) (i : Nat) (a : BitVec 28) :
    (c.fault n s i a).port = c.port := rfl
@[simp] theorem Core.fault_rm (n : FaultName) (s : Source) (i : Nat) (a : BitVec 28) :
    (c.fault n s i a).rm = c.rm := rfl
@[simp] theorem Core.fault_store (n : FaultName) (s : Source) (i : Nat) (a : BitVec 28) :
    (c.fault n s i a).store = c.store := rfl
@[simp] theorem Core.fault_tr (n : FaultName) (s : Source) (i : Nat) (a : BitVec 28) :
    (c.fault n s i a).tr = c.tr := rfl
@[simp] theorem Core.fault_ix (n : FaultName) (s : Source) (i : Nat) (a : BitVec 28) :
    (c.fault n s i a).ix = c.ix := rfl
@[simp] theorem Core.fault_porter (n : FaultName) (s : Source) (i : Nat) (a : BitVec 28) :
    (c.fault n s i a).porter = c.porter := rfl
@[simp] theorem Core.fault_focus (n : FaultName) (s : Source) (i : Nat) (a : BitVec 28) :
    (c.fault n s i a).focus = c.focus := rfl
@[simp] theorem Core.fault_cap (n : FaultName) (s : Source) (i : Nat) (a : BitVec 28) :
    (c.fault n s i a).cap = c.cap := rfl
@[simp] theorem Core.fault_roll (n : FaultName) (s : Source) (i : Nat) (a : BitVec 28) :
    (c.fault n s i a).roll = c.roll := rfl
@[simp] theorem Core.fault_link (n : FaultName) (s : Source) (i : Nat) (a : BitVec 28) :
    (c.fault n s i a).link = c.link := rfl
@[simp] theorem Core.fault_sig (n : FaultName) (s : Source) (i : Nat) (a : BitVec 28) :
    (c.fault n s i a).sig = c.sig := rfl
@[simp] theorem Core.fault_out (n : FaultName) (s : Source) (i : Nat) (a : BitVec 28) :
    (c.fault n s i a).out = c.out ++ [.fault { name := n, source := s, info := BitVec.ofNat 24 i, aux := a }] := rfl
@[simp] theorem Core.fault_now (n : FaultName) (s : Source) (i : Nat) (a : BitVec 28) :
    (c.fault n s i a).now = c.now := rfl
@[simp] theorem Core.fault_free (n : FaultName) (s : Source) (i : Nat) (a : BitVec 28) :
    (c.fault n s i a).free = c.free := rfl
@[simp] theorem Core.trigger_pins (t : Triggers) (b : Bool) : (c.trigger t b).pins = c.pins := rfl
@[simp] theorem Core.trigger_modes (t : Triggers) (b : Bool) : (c.trigger t b).modes = c.modes := rfl
@[simp] theorem Core.trigger_port (t : Triggers) (b : Bool) : (c.trigger t b).port = c.port := rfl
@[simp] theorem Core.trigger_rm (t : Triggers) (b : Bool) : (c.trigger t b).rm = c.rm := rfl
@[simp] theorem Core.trigger_store (t : Triggers) (b : Bool) : (c.trigger t b).store = c.store := rfl
@[simp] theorem Core.trigger_tr (t : Triggers) (b : Bool) : (c.trigger t b).tr = c.tr := rfl
@[simp] theorem Core.trigger_ix (t : Triggers) (b : Bool) : (c.trigger t b).ix = c.ix := rfl
@[simp] theorem Core.trigger_porter (t : Triggers) (b : Bool) : (c.trigger t b).porter = c.porter := rfl
@[simp] theorem Core.trigger_focus (t : Triggers) (b : Bool) : (c.trigger t b).focus = c.focus := rfl
@[simp] theorem Core.trigger_cap (t : Triggers) (b : Bool) : (c.trigger t b).cap = c.cap := rfl
@[simp] theorem Core.trigger_roll (t : Triggers) (b : Bool) : (c.trigger t b).roll = c.roll := rfl
@[simp] theorem Core.trigger_link (t : Triggers) (b : Bool) : (c.trigger t b).link = c.link := rfl
@[simp] theorem Core.trigger_sig (t : Triggers) (b : Bool) : (c.trigger t b).sig = c.sig := rfl
@[simp] theorem Core.trigger_out (t : Triggers) (b : Bool) : (c.trigger t b).out = c.out ++ [.snapshot t b] := rfl
@[simp] theorem Core.trigger_now (t : Triggers) (b : Bool) : (c.trigger t b).now = c.now := rfl
@[simp] theorem Core.trigger_free (t : Triggers) (b : Bool) : (c.trigger t b).free = c.free := rfl

@[simp] theorem Core.tick_eq : c.tick = some c.now := rfl

end Sys2Proof.Machine
end

