-- ==== Sys2Proof/Laws/Cascade.lean ====
section
/-!
SUPPORT. What settling a command can do: one lemma for each way the reports run out, for the two counts that follow,
and for the front that takes what was sent. A proof about a meaning cites these and unfolds none of them.
-/

namespace Sys2Proof.Machine

/-! ## The counts that follow every command -/

variable (c : Core)

@[simp] theorem Core.follow_pins : c.idleFollow.escalationFollow.pins = c.pins := rfl

@[simp] theorem Core.follow_rm : c.idleFollow.escalationFollow.rm = c.rm := rfl

@[simp] theorem Core.follow_store : c.idleFollow.escalationFollow.store = c.store := rfl

@[simp] theorem Core.follow_tr : c.idleFollow.escalationFollow.tr = c.tr := rfl

@[simp] theorem Core.follow_ix : c.idleFollow.escalationFollow.ix = c.ix := rfl

@[simp] theorem Core.follow_porter : c.idleFollow.escalationFollow.porter = c.porter := rfl

@[simp] theorem Core.follow_focus : c.idleFollow.escalationFollow.focus = c.focus := rfl

@[simp] theorem Core.follow_cap : c.idleFollow.escalationFollow.cap = c.cap := rfl

@[simp] theorem Core.follow_roll : c.idleFollow.escalationFollow.roll = c.roll := rfl

@[simp] theorem Core.follow_link : c.idleFollow.escalationFollow.link = c.link := rfl

@[simp] theorem Core.follow_sig : c.idleFollow.escalationFollow.sig = c.sig := rfl

@[simp] theorem Core.follow_out : c.idleFollow.escalationFollow.out = c.out := rfl

@[simp] theorem Core.follow_now : c.idleFollow.escalationFollow.now = c.now := rfl

@[simp] theorem Core.follow_free : c.idleFollow.escalationFollow.free = c.free := rfl

/-- The device mode, progress and reset cause stay as they are. -/
@[simp] theorem Core.follow_mode : c.idleFollow.escalationFollow.modes.mode = c.modes.mode := rfl

@[simp] theorem Core.follow_progress : c.idleFollow.escalationFollow.modes.progress = c.modes.progress := rfl

@[simp] theorem Core.follow_resetCause : c.idleFollow.escalationFollow.modes.resetCause = c.modes.resetCause := rfl

@[simp] theorem Core.follow_powerOn : c.idleFollow.escalationFollow.modes.powerOn = c.modes.powerOn := rfl

@[simp] theorem Core.follow_linkResult : c.idleFollow.escalationFollow.modes.linkResult = c.modes.linkResult := rfl

@[simp] theorem Core.follow_reply : c.idleFollow.escalationFollow.modes.reply = c.modes.reply := rfl

@[simp] theorem Core.follow_dormant : c.idleFollow.escalationFollow.modes.dormant = c.modes.dormant := rfl

/-- The port keeps all but the escalation. -/
@[simp] theorem Core.follow_workArea : c.idleFollow.escalationFollow.port.workArea = c.port.workArea := rfl

@[simp] theorem Core.follow_setup : c.idleFollow.escalationFollow.port.setup = c.port.setup := rfl

@[simp] theorem Core.follow_setupRead : c.idleFollow.escalationFollow.port.setupRead = c.port.setupRead := rfl

@[simp] theorem Core.follow_sweepTimer : c.idleFollow.escalationFollow.port.sweepTimer = c.port.sweepTimer := rfl

@[simp] theorem Core.follow_boardQueue : c.idleFollow.escalationFollow.port.boardQueue = c.port.boardQueue := rfl

@[simp] theorem Core.follow_boardFlight : c.idleFollow.escalationFollow.port.boardFlight = c.port.boardFlight := rfl

@[simp] theorem Core.follow_sweepEnded : c.idleFollow.escalationFollow.port.sweepEnded = c.port.sweepEnded := rfl

@[simp] theorem Core.follow_dropped : c.idleFollow.escalationFollow.port.dropped = c.port.dropped := rfl

@[simp] theorem Core.follow_results : c.idleFollow.escalationFollow.port.results = c.port.results := rfl

@[simp] theorem Core.follow_last : c.idleFollow.escalationFollow.port.last = c.port.last := rfl

@[simp] theorem Core.follow_issued : c.idleFollow.escalationFollow.port.issued = c.port.issued := rfl

@[simp] theorem Core.follow_endDue : c.idleFollow.escalationFollow.endDue = c.endDue := by
  simp [Core.endDue]

/-- The Active Pass's end is due just as before. -/
@[simp] theorem Core.follow_ready : c.idleFollow.escalationFollow.calm = c.calm := by
  simp [Core.calm]

/-! ## The end of a pass -/

theorem Core.tryEnd_of_not_due {c : Core} (h : c.endDue = false) : c.tryEnd = c := by
  unfold Core.tryEnd
  split
  · simp [h]
  · rfl

/-- An end that is due marks the pass, and its Return joins the Result Writer's queue. -/
theorem Core.tryEnd_of_due {c : Core} {q : Pass} (hp : c.rm.pass = some q) (h : c.endDue = true) :
    c.tryEnd = (c.setPass { q with decided := true }).decideReturn (c.passReturn q) := by
  unfold Core.tryEnd
  simp [hp, h]

/-- A SCAN refused over its map: every count and the Clamp flags are 0 (R31, R36). -/
theorem Core.passReturn_of_refused {c : Core} {q : Pass} {d : Nat} (h : c.passOutcome q = (.badRequest, d)) :
    c.passReturn q =
      { Return.plain q.slot q.stamp q.req.notify q.takenAt .badRequest d with endsPass := true } := by
  simp [Core.passReturn, h]

/-- Any other end of a pass: its counts, its images and its Clamp flags (R31). -/
theorem Core.passReturn_of_served {c : Core} {q : Pass} {o : Res} {d : Nat} (h : c.passOutcome q = (o, d))
    (ho : o ≠ .badRequest) :
    c.passReturn q =
      { Return.plain q.slot q.stamp q.req.notify q.takenAt o d with
        clamps := q.clamps, captured := q.delivered, missed := c.missed q, indexed := q.indexed
        firstImage := q.firstImage, lastImage := q.lastImage, endsPass := true } := by
  simp [Core.passReturn, h, ho]

@[simp] theorem Core.tryEnd_sig : c.tryEnd.sig = c.sig := by
  unfold Core.tryEnd
  repeat (first | split | rfl)

@[simp] theorem Core.tryEnd_out : c.tryEnd.out = c.out := by
  unfold Core.tryEnd
  repeat (first | split | rfl)

/-- After it, no end is due. -/
@[simp] theorem Core.tryEnd_endDue : c.tryEnd.endDue = false := by
  cases hp : c.rm.pass with
  | none => simp [Core.tryEnd, Core.endDue, hp]
  | some q =>
    cases h : c.endDue with
    | false => rw [Core.tryEnd_of_not_due h, h]
    | true =>
      rw [Core.tryEnd_of_due hp h]
      simp [Core.endDue, Core.decideReturn, Core.setPass]

/-! ## Reports -/

theorem Core.settleFrom_nil {c : Core} (n : Nat) (h : c.sig = []) : Core.settleFrom n c = c.tryEnd := by
  cases n with
  | zero => rfl
  | succ n => simp [Core.settleFrom, h]

theorem Core.settleFrom_cons {c : Core} {x : Signal} {l : List Signal} (n : Nat) (h : c.sig = x :: l) :
    Core.settleFrom (n + 1) c = Core.settleFrom n ({ c with sig := l }.handle x) := by
  simp [Core.settleFrom, h]

/-- No end is due once the reports are settled. -/
theorem Core.settleFrom_endDue (n : Nat) : ∀ c : Core, (Core.settleFrom n c).endDue = false := by
  induction n with
  | zero => intro c; exact c.tryEnd_endDue
  | succ n ih =>
    intro c
    unfold Core.settleFrom
    split
    · exact c.tryEnd_endDue
    · exact ih _

/-- A command that reports nothing. -/
theorem Core.settle_nil {c : Core} (h : c.sig = []) : c.settle = c.tryEnd.idleFollow.escalationFollow := by
  rw [Core.settle, Core.settleFrom_nil _ h]

/-- A command that reports once, with nothing reported in answer. -/
theorem Core.settle_one {c : Core} {x : Signal} (h : c.sig = [x]) (k : ({ c with sig := [] }.handle x).sig = []) :
    c.settle = ({ c with sig := [] }.handle x).tryEnd.idleFollow.escalationFollow := by
  rw [Core.settle, show (65536 : Nat) = 65535 + 1 from rfl, Core.settleFrom_cons _ h, Core.settleFrom_nil _ k]

/-- A command that reports twice, with nothing reported in answer. -/
theorem Core.settle_two {c : Core} {x y : Signal} (h : c.sig = [x, y])
    (k : ({ c with sig := [y] }.handle x).sig = [y])
    (m : ({ { c with sig := [y] }.handle x with sig := [] }.handle y).sig = []) :
    c.settle = ({ { c with sig := [y] }.handle x with sig := [] }.handle y).tryEnd.idleFollow.escalationFollow := by
  rw [Core.settle, show (65536 : Nat) = 65534 + 1 + 1 from rfl, Core.settleFrom_cons _ h, Core.settleFrom_cons _ k,
    Core.settleFrom_nil _ m]

/-- A command that reports three times, with nothing reported in answer. -/
theorem Core.settle_three {c : Core} {x y z : Signal} (h : c.sig = [x, y, z])
    (k : ({ c with sig := [y, z] }.handle x).sig = [y, z])
    (m : ({ { c with sig := [y, z] }.handle x with sig := [z] }.handle y).sig = [z])
    (o : ({ { { c with sig := [y, z] }.handle x with sig := [z] }.handle y with sig := [] }.handle z).sig = []) :
    c.settle =
      ({ { { c with sig := [y, z] }.handle x with sig := [z] }.handle y with sig := [] }.handle z).tryEnd.idleFollow.escalationFollow := by
  rw [Core.settle, show (65536 : Nat) = 65533 + 1 + 1 + 1 from rfl, Core.settleFrom_cons _ h, Core.settleFrom_cons _ k,
    Core.settleFrom_cons _ m, Core.settleFrom_nil _ o]

theorem Core.settle_endDue : c.settle.endDue = false := by
  rw [Core.settle, Core.follow_endDue]
  exact Core.settleFrom_endDue _ c

/-! ## The step of a block -/

/-- A part held in a full reset does nothing. -/
theorem State.runCore_held {s : State} (f : Core → Core) (h : s.core.modes.mode = .held) : s.runCore f = s := by
  simp [State.runCore, h]

theorem State.runCore_awake {s : State} (f : Core → Core) (h : s.core.modes.mode ≠ .held) :
    s.runCore f = State.flush { s with core := (f s.core).settle } := by
  simp [State.runCore, h]

/-- With nothing sent, the front takes nothing. -/
theorem State.flush_quiet {s : State} (h : s.core.out = []) : s.flush = s := by
  rcases s with ⟨p, f, c⟩
  simp only at h
  simp only [State.flush, h, List.foldl_nil]
  rw [← h]

/-- An effect that reports nothing, and makes no end due, leaves just its core. -/
theorem State.runCore_quiet {s : State} {f : Core → Core} (h : s.core.modes.mode ≠ .held) (hs : (f s.core).sig = [])
    (hd : (f s.core).endDue = false) : s.runCore f = s.leaves (f s.core) := by
  rw [State.runCore_awake f h, Core.settle_nil hs, Core.tryEnd_of_not_due hd]
  rfl

/-- An effect that makes one report, answered by no other. -/
theorem State.runCore_one {s : State} {f : Core → Core} {x : Signal} (h : s.core.modes.mode ≠ .held)
    (hs : (f s.core).sig = [x]) (k : ({ f s.core with sig := [] }.handle x).sig = [])
    (hd : ({ f s.core with sig := [] }.handle x).endDue = false) :
    s.runCore f = s.leaves ({ f s.core with sig := [] }.handle x) := by
  rw [State.runCore_awake f h, Core.settle_one hs k, Core.tryEnd_of_not_due hd]
  rfl

/-! ## What a command leaves -/

section leaves
variable (s : State)

@[simp] theorem State.leaves_pending : (s.leaves c).pending = s.pending := rfl
@[simp] theorem State.leaves_pins : (s.leaves c).core.pins = c.pins := rfl
@[simp] theorem State.leaves_rm : (s.leaves c).core.rm = c.rm := rfl
@[simp] theorem State.leaves_store : (s.leaves c).core.store = c.store := rfl
@[simp] theorem State.leaves_tr : (s.leaves c).core.tr = c.tr := rfl
@[simp] theorem State.leaves_ix : (s.leaves c).core.ix = c.ix := rfl
@[simp] theorem State.leaves_porter : (s.leaves c).core.porter = c.porter := rfl
@[simp] theorem State.leaves_focus : (s.leaves c).core.focus = c.focus := rfl
@[simp] theorem State.leaves_cap : (s.leaves c).core.cap = c.cap := rfl
@[simp] theorem State.leaves_roll : (s.leaves c).core.roll = c.roll := rfl
@[simp] theorem State.leaves_link : (s.leaves c).core.link = c.link := rfl
@[simp] theorem State.leaves_sig : (s.leaves c).core.sig = c.sig := rfl
@[simp] theorem State.leaves_out : (s.leaves c).core.out = [] := rfl
@[simp] theorem State.leaves_now : (s.leaves c).core.now = c.now := rfl
@[simp] theorem State.leaves_free : (s.leaves c).core.free = c.free := rfl
@[simp] theorem State.leaves_mode : (s.leaves c).core.modes.mode = c.modes.mode := rfl
@[simp] theorem State.leaves_progress : (s.leaves c).core.modes.progress = c.modes.progress := rfl
@[simp] theorem State.leaves_dormant : (s.leaves c).core.modes.dormant = c.modes.dormant := rfl
@[simp] theorem State.leaves_workArea : (s.leaves c).core.port.workArea = c.port.workArea := rfl
@[simp] theorem State.leaves_setup : (s.leaves c).core.port.setup = c.port.setup := rfl
@[simp] theorem State.leaves_setupRead : (s.leaves c).core.port.setupRead = c.port.setupRead := rfl
@[simp] theorem State.leaves_sweepTimer : (s.leaves c).core.port.sweepTimer = c.port.sweepTimer := rfl
@[simp] theorem State.leaves_boardQueue : (s.leaves c).core.port.boardQueue = c.port.boardQueue := rfl
@[simp] theorem State.leaves_boardFlight : (s.leaves c).core.port.boardFlight = c.port.boardFlight := rfl
@[simp] theorem State.leaves_sweepEnded : (s.leaves c).core.port.sweepEnded = c.port.sweepEnded := rfl
@[simp] theorem State.leaves_dropped : (s.leaves c).core.port.dropped = c.port.dropped := rfl
@[simp] theorem State.leaves_reply : (s.leaves c).core.modes.reply = c.modes.reply := rfl
@[simp] theorem State.leaves_results : (s.leaves c).core.port.results = c.port.results := rfl

/-- With nothing sent, the front stays as it was. -/
theorem State.leaves_front {c : Core} (h : c.out = []) : (s.leaves c).front = s.front := by
  simp [State.leaves, State.flush, h]

/-- One thing sent takes effect on the front. -/
theorem State.leaves_front_one {c : Core} {x : Out} (h : c.out = [x]) :
    (s.leaves c).front = s.front.take c.idleFollow.escalationFollow x := by
  simp [State.leaves, State.flush, h]

end leaves

/-- What a ready part holds. -/
theorem State.ready_iff (s : State) : s.ready = true ↔
    s.core.modes.mode ≠ .held ∧ s.core.sig = [] ∧ s.core.out = [] ∧ s.core.endDue = false := by
  simp [State.ready, Core.calm, and_assoc]

/-- Everything the core sent has reached the front after a flush. -/
@[simp] theorem State.flush_out (s : State) : s.flush.core.out = [] := rfl

@[simp] theorem State.flush_pending (s : State) : s.flush.pending = s.pending := rfl

@[simp] theorem State.flush_endDue (s : State) : s.flush.core.endDue = s.core.endDue := rfl

/-- The queue of waiting commands is not the core's. -/
@[simp] theorem State.runCore_pending (s : State) (f : Core → Core) : (s.runCore f).pending = s.pending := by
  unfold State.runCore
  split
  · rfl
  · rfl

/-- After a step of the core, nothing sent is left and no end is due. -/
theorem State.runCore_settled {s : State} (f : Core → Core) (h : s.core.modes.mode ≠ .held) :
    (s.runCore f).core.out = [] ∧ (s.runCore f).core.endDue = false := by
  rw [State.runCore_awake f h]
  exact ⟨rfl, by rw [State.flush_endDue]; exact Core.settle_endDue _⟩

/-- A ready part whose first effect makes no report leaves what that effect is. -/
theorem State.runCore_ready {s : State} {f : Core → Core} {c : Core} (hr : s.ready = true) (hf : f s.core = c)
    (hs : c.sig = []) (hd : c.endDue = false) : s.runCore f = s.leaves c := by
  have h := (s.ready_iff).1 hr
  subst hf
  exact State.runCore_quiet h.1 hs hd

/-- A ready part whose first effect makes one report, which makes none, leaves what the report's taking is. -/
theorem State.runCore_ready_one {s : State} {f : Core → Core} {c : Core} {x : Signal} (hr : s.ready = true)
    (hf : f s.core = c) (hs : c.sig = [x]) (k : ({ c with sig := [] }.handle x).sig = [])
    (hd : ({ c with sig := [] }.handle x).endDue = false) :
    s.runCore f = s.leaves ({ c with sig := [] }.handle x) := by
  have h := (s.ready_iff).1 hr
  subst hf
  exact State.runCore_one h.1 hs k hd

/-! ## Looks -/

/-- A slot's read that is in flight is found. -/
theorem lookInFlight_of_mem {n : Nat} {b : Bool} {l : List BoardRead} (h : .slot n b ∈ l) :
    ∃ w, lookInFlight n l = some w := by
  induction l with
  | nil => cases h
  | cons x l ih =>
    rcases List.mem_cons.1 h with rfl | h
    · exact ⟨b, by simp [lookInFlight]⟩
    · obtain ⟨w, hw⟩ := ih h
      cases x <;> simp [lookInFlight, hw]
      split <;> simp

/-- A look that waits for nothing is decided as its read ends: the read leaves the flight, and nothing else of the port
changes (R13, R14). -/
theorem Core.lookDone_alone {c : Core} {n : Nat} {b : Bool} (h : c.looksAlone n b = true) (r : ReadEnd) :
    c.lookDone n r = (c.setPort { c.port with
      boardFlight := removeFirst (· == .slot n b) c.port.boardFlight }).decideLook n b r := by
  have hb : ∀ (p : BoardRead → Bool) (l : List BoardRead), sweepBelow l n = false → sweepBelow (removeFirst p l) n = false := by
    intro p l
    induction l with
    | nil => exact id
    | cons x l ih =>
      intro hx
      simp only [sweepBelow, List.any_cons, Bool.or_eq_false_iff] at hx ih ⊢
      simp only [removeFirst]
      split
      · exact hx.2
      · simp only [List.any_cons, Bool.or_eq_false_iff]
        exact ⟨hx.1, ih hx.2⟩
  simp only [Core.looksAlone, Bool.and_eq_true, beq_iff_eq] at h
  obtain ⟨⟨hf, hs⟩, h⟩ := h
  have hd : (n, b) ∉ c.port.dropped := by simpa using h
  clear h
  cases b with
  | false => simp [Core.lookDone, hf, hd]
  | true =>
    simp only [Bool.not_true, Bool.false_or, Bool.and_eq_true, Bool.not_eq_true', List.isEmpty_iff] at hs
    have hw := hb (· == .slot n true) _ hs.1
    cases c with | _ pins modes port =>
    cases port
    simp only at hs hw hd
    obtain ⟨-, rfl⟩ := hs
    simp [Core.lookDone, hf, hd, Core.sweepDecide, Core.setPort, insertEnded, hw]

/-- The checks of a request read the Roll Catalogue and the Profile Store alone (R27 to R29). -/
theorem validate_congr (c d : Core) (h : c.roll = d.roll) (g : c.store = d.store) (bs : List Byte) :
    validate c bs = validate d bs := by
  have e1 : ∀ r, argumentFault c r = argumentFault d r := by intro r; simp [argumentFault, h, g]
  have e2 : c.mountedRoll = d.mountedRoll := by simp [Core.mountedRoll, h]
  have e3 : ∀ r, checkRoll c r = checkRoll d r := by intro r; simp [checkRoll, mountFault, rollOf, h, e2]
  simp [validate, e1, e3]

end Sys2Proof.Machine
end

