-- ==== Sys2Proof/Laws/Front.lean ====
section
/-!
SUPPORT. What the front's operations can do: raising a cause, taking a fault or a snapshot trigger, a pop, and the bounds
they keep.
-/

namespace Sys2Proof.Machine

variable (c : Core) (f : Front)

/-- Raising a cause touches the causes only through `causeRaised`, which changes Hold and the messages sent alone. -/
theorem Front.causeRaised_fields :
    (f.causeRaised c).faults = f.faults ∧ (f.causeRaised c).overflow = f.overflow ∧
    (f.causeRaised c).discards = f.discards ∧ (f.causeRaised c).causeReturn = f.causeReturn ∧
    (f.causeRaised c).causeFault = f.causeFault ∧ (f.causeRaised c).causeSnapshot = f.causeSnapshot ∧
    (f.causeRaised c).snapMark = f.snapMark ∧ (f.causeRaised c).snapStamp = f.snapStamp ∧
    (f.causeRaised c).waBaseLo = f.waBaseLo := by
  unfold Front.causeRaised Front.message
  split <;> [skip; split] <;> simp

/-- A snapshot trigger changes the Status Writer's mark and stamp alone, and the stamp stays in range. -/
theorem Front.trigger_fields (t : Triggers) (b : Bool) :
    (f.trigger c t b).faults = f.faults ∧ (f.trigger c t b).overflow = f.overflow ∧
    (f.trigger c t b).discards = f.discards ∧ (f.trigger c t b).causeReturn = f.causeReturn ∧
    (f.trigger c t b).causeFault = f.causeFault ∧ (f.trigger c t b).causeSnapshot = f.causeSnapshot ∧
    (f.trigger c t b).hold = f.hold ∧ (f.trigger c t b).msiSent = f.msiSent ∧ (f.trigger c t b).enable = f.enable ∧
    (f.trigger c t b).waBaseLo = f.waBaseLo ∧ (f.snapStamp ≤ 4294967295 → (f.trigger c t b).snapStamp ≤ 4294967295) := by
  unfold Front.trigger
  split
  · split <;> simp [Front.startSnapshot]
    intro _
    unfold nextStamp; split <;> omega
  · simp

/-- With no Work Area accepted a trigger is not kept (R22). -/
theorem Front.trigger_of_none (t : Triggers) (b : Bool) (h : c.port.workArea = none) : f.trigger c t b = f := by
  simp [Front.trigger, h]

/-- What a raised fault does to the queue (R199). -/
theorem Front.raiseFault_faults (e : FaultEntry) : (f.raiseFault c e).faults = f.queued e := by
  unfold Front.raiseFault Front.queued Front.raiseFaultCause
  split
  · simp [Front.trigger_fields, Front.causeRaised_fields]
  · simp [Front.trigger_fields]

/-- A fault that joins raises FAULT, and changes neither Overflow nor the discard count (R199, R21). -/
theorem Front.raiseFault_joins (e : FaultEntry) (h : f.faults.length < 16) (g : f.overflow = false) :
    (f.raiseFault c e).faults = f.faults ++ [e] ∧ (f.raiseFault c e).causeFault = true ∧
    (f.raiseFault c e).overflow = false ∧ (f.raiseFault c e).discards = f.discards := by
  unfold Front.raiseFault Front.raiseFaultCause
  simp [h, g, Front.trigger_fields, Front.causeRaised_fields]

/-- A discarded fault is counted, and sets Overflow (R199). -/
theorem Front.raiseFault_discarded (e : FaultEntry) (h : 16 ≤ f.faults.length ∨ f.overflow = true) :
    (f.raiseFault c e).faults = f.faults ∧ (f.raiseFault c e).causeFault = f.causeFault ∧
    (f.raiseFault c e).overflow = true ∧ (f.raiseFault c e).discards = min (f.discards + 1) 16777215 := by
  unfold Front.raiseFault
  rw [if_neg (by rintro ⟨a, b⟩; rcases h with h | h <;> [omega; simp [b] at h])]
  simp [Front.trigger_fields]

/-- The front's bounds, as propositions. -/
theorem Front.bounded_iff : f.bounded = true ↔
    f.waBaseLo &&& 0xFFF#32 = 0 ∧ f.faults.length ≤ 16 ∧ f.discards ≤ 16777215 ∧ f.snapStamp ≤ 4294967295 := by
  simp [Front.bounded, and_assoc]

/-- Raising a cause keeps the bounds. -/
theorem Front.bounded_causeRaised (h : f.bounded = true) : (f.causeRaised c).bounded = true := by
  rw [Front.bounded_iff] at h ⊢
  simpa [Front.causeRaised_fields] using h

/-- A trigger keeps the bounds. -/
theorem Front.bounded_trigger (t : Triggers) (b : Bool) (h : f.bounded = true) : (f.trigger c t b).bounded = true := by
  rw [Front.bounded_iff] at h ⊢
  obtain ⟨h1, h2, h3, h4⟩ := h
  simp only [Front.trigger_fields]
  exact ⟨h1, h2, h3, (Front.trigger_fields c f t b).2.2.2.2.2.2.2.2.2.2 h4⟩

/-- A raised fault keeps the bounds. -/
theorem Front.bounded_raiseFault (e : FaultEntry) (h : f.bounded = true) : (f.raiseFault c e).bounded = true := by
  have h' := (Front.bounded_iff f).1 h
  unfold Front.raiseFault
  split
  · next g =>
    apply Front.bounded_trigger
    apply Front.bounded_causeRaised
    rw [Front.bounded_iff]
    exact ⟨h'.1, by simp; omega, h'.2.2.1, h'.2.2.2⟩
  · apply Front.bounded_trigger
    rw [Front.bounded_iff]
    exact ⟨h'.1, h'.2.1, Nat.min_le_right _ _, h'.2.2.2⟩

end Sys2Proof.Machine
end

