-- ==== Sys2Proof/Laws/Import.lean ====
section
/-!
SUPPORT. What the checks of an index record's body find (R111): one lemma for each test, and one for the whole check.
-/

namespace Sys2Proof.Machine

/-- The numbering test reads every place. -/
theorem numberedOk_iff (bs : List Byte) (k i : Nat) :
    numberedOk bs k (i + 1) = true ↔ ∀ d, d < k → fieldAt bs (24 * (i + d)) 2 = i + d + 1 := by
  induction k generalizing i with
  | zero => simp [numberedOk]
  | succ k ih =>
    simp only [numberedOk, Nat.add_sub_cancel, Bool.and_eq_true, decide_eq_true_eq, ih (i + 1)]
    constructor
    · rintro ⟨h0, h⟩ (_ | d) hd
      · simpa using h0
      · have := h d (by omega)
        rwa [show i + 1 + d = i + (d + 1) by omega] at this
    · intro h
      refine ⟨by simpa using h 0 (by omega), fun d hd => ?_⟩
      have := h (d + 1) (by omega)
      rwa [show i + 1 + d = i + (d + 1) by omega]

/-- The order test compares every Leading Position with the one before. -/
theorem orderedOk_iff (bs : List Byte) (k i : Nat) (prev : Int) :
    orderedOk bs k (i + 1) prev = true ↔ ∀ d, d < k →
      (if d = 0 then prev else signedAt bs (24 * (i + d - 1) + 4) 4) < signedAt bs (24 * (i + d) + 4) 4 := by
  induction k generalizing i prev with
  | zero => simp [orderedOk]
  | succ k ih =>
    simp only [orderedOk, Nat.add_sub_cancel, Bool.and_eq_true, decide_eq_true_eq, ih (i + 1)]
    constructor
    · rintro ⟨h0, h⟩ (_ | d) hd
      · simpa using h0
      · have := h d (by omega)
        rw [show i + 1 + d = i + (d + 1) by omega] at this
        rcases Nat.eq_zero_or_pos d with rfl | hd'
        · simpa using this
        · simpa [Nat.pos_iff_ne_zero.mp hd'] using this
    · intro h
      refine ⟨by simpa using h 0 (by omega), fun d hd => ?_⟩
      have := h (d + 1) (by omega)
      rw [show i + 1 + d = i + (d + 1) by omega]
      rcases Nat.eq_zero_or_pos d with rfl | hd'
      · simpa using this
      · simpa [Nat.pos_iff_ne_zero.mp hd'] using this

/-- 24 bytes give an entry exactly when its Origin and its Blip Class are in range. -/
theorem entryOf_isSome (bs : List Byte) (off : Nat) :
    (entryOf bs off).isSome = true ↔ byteAt bs (off + 2) ≤ 2 ∧ byteAt bs (off + 3) ≤ 3 := by
  unfold entryOf
  rcases h : byteAt bs (off + 2) with _ | _ | _ | n <;> rcases h' : byteAt bs (off + 3) with _ | _ | _ | _ | m <;> simp

/-- The Length and the Leading Position of an entry are the record's. -/
theorem entryOf_fields {bs : List Byte} {off : Nat} {e : Entry} (h : entryOf bs off = some e) :
    e.lead = signedAt bs (off + 4) 4 ∧ e.length = fieldAt bs (off + 8) 4 := by
  unfold entryOf at h
  dsimp only at h
  split at h
  · cases h; exact ⟨rfl, rfl⟩
  · cases h

/-- What a list of results holds when every element has one. -/
theorem mapM_eq_some_iff {α β : Type} (f : α → Option β) : ∀ (l : List α) (es : List β),
    l.mapM f = some es ↔ l.map f = es.map some := by
  intro l
  induction l with
  | nil => intro es; cases es <;> simp
  | cons a l ih =>
    intro es
    cases es with
    | nil => cases ha : f a <;> cases hl : l.mapM f <;> simp [List.mapM_cons, ha, hl]
    | cons e es =>
      cases ha : f a with
      | none => simp [List.mapM_cons, ha]
      | some b =>
        cases hl : l.mapM f with
        | none => have := ih es; simp_all [List.mapM_cons]
        | some bs => have := ih es; simp_all [List.mapM_cons]

/-- The entries of a body stand one for each place. -/
theorem entriesOf_some {bs : List Byte} {n : Nat} {es : List Entry} (h : entriesOf bs n = some es) :
    es.length = n ∧ ∀ i, i < n → es[i]? = entryOf bs (24 * i) := by
  have h := (mapM_eq_some_iff _ _ _).mp h
  have hl := congrArg List.length h
  simp only [List.length_map, List.length_range] at hl
  refine ⟨hl.symm, fun i hi => ?_⟩
  have hi' : i < es.length := hl ▸ hi
  have := congrArg (·[i]?) h
  simp only [List.getElem?_map, List.getElem?_range hi, Option.map_some, List.getElem?_eq_getElem hi'] at this
  rw [List.getElem?_eq_getElem hi']
  exact (Option.some.inj this).symm

/-- A body gives entries exactly when every Origin and every Blip Class is in range. -/
theorem entriesOf_isSome (bs : List Byte) (n : Nat) :
    (entriesOf bs n).isSome = true ↔ ∀ i, i < n → byteAt bs (24 * i + 2) ≤ 2 ∧ byteAt bs (24 * i + 3) ≤ 3 := by
  constructor
  · intro h i hi
    obtain ⟨es, he⟩ := Option.isSome_iff_exists.mp h
    obtain ⟨hl, hes⟩ := entriesOf_some he
    rw [← entryOf_isSome, ← hes i hi, List.getElem?_eq_getElem (by omega)]
    rfl
  · intro h
    have : ∀ i, i < n → ∃ e, entryOf bs (24 * i) = some e := fun i hi =>
      Option.isSome_iff_exists.mp ((entryOf_isSome _ _).mpr (h i hi))
    choose g hg using this
    refine Option.isSome_iff_exists.mpr ⟨(List.range n).attach.map fun x => g x.1 (List.mem_range.mp x.2), ?_⟩
    refine (mapM_eq_some_iff _ _ _).mpr ?_
    apply List.ext_getElem
    · simp
    · intro i h1 h2
      simp only [List.getElem_map, List.getElem_attach, List.getElem_range]
      exact hg i _

/-- What the checks of an import's body find (R111). -/
theorem checkImportBody_spec (h bs : List Byte) :
    (¬ stampsAgree h bs → checkImportBody h (fieldAt h 8 4) bs = .rejected 2) ∧
    (stampsAgree h bs → ¬ framesNumbered h bs → checkImportBody h (fieldAt h 8 4) bs = .rejected 5) ∧
    (stampsAgree h bs → framesNumbered h bs → ¬ leadsRise h bs → checkImportBody h (fieldAt h 8 4) bs = .rejected 6) ∧
    (stampsAgree h bs → framesNumbered h bs → leadsRise h bs → ¬ fieldsInRange h bs →
      checkImportBody h (fieldAt h 8 4) bs = .rejected 7) ∧
    (stampsAgree h bs → framesNumbered h bs → leadsRise h bs → fieldsInRange h bs →
      ∃ es, checkImportBody h (fieldAt h 8 4) bs = .passed es ∧ entriesOf bs (fieldAt h 8 4) = some es) := by
  have hs : stampsAgree h bs ↔ ¬ (fieldAt h 0 4 = 0 ∨ fieldAt h 0 4 ≠ fieldAt bs (24 * fieldAt h 8 4) 4) := by
    unfold stampsAgree; omega
  have hn : framesNumbered h bs ↔ numberedOk bs (fieldAt h 8 4) 1 = true := by
    rw [numberedOk_iff bs _ 0]; simp [framesNumbered]
  have ho : leadsRise h bs ↔ orderedOk bs (fieldAt h 8 4) 1 (-1) = true := by
    rw [orderedOk_iff bs _ 0]; simp [leadsRise]
  have hf : fieldsInRange h bs ↔ ∃ es, entriesOf bs (fieldAt h 8 4) = some es ∧
      (es.any (fun e => e.length = 0) || decide (16000000 < (es.getLast?.map (·.trail)).getD 0)) = false := by
    constructor
    · rintro ⟨h1, h2⟩
      obtain ⟨es, he⟩ := Option.isSome_iff_exists.mp ((entriesOf_isSome bs _).mpr fun i hi => (h1 i hi).2)
      obtain ⟨hl, hes⟩ := entriesOf_some he
      refine ⟨es, he, ?_⟩
      simp only [Bool.or_eq_false_iff, List.any_eq_false, decide_eq_true_eq, decide_eq_false_iff_not, not_lt]
      constructor
      · intro e hmem h0
        obtain ⟨i, hi, rfl⟩ := List.getElem_of_mem hmem
        have := (entryOf_fields ((hes i (by omega)).symm.trans (List.getElem?_eq_getElem hi))).2
        exact (h1 i (by omega)).1 (by omega)
      · cases hg : es.getLast? with
        | none => simp
        | some e =>
          have hpos : 0 < es.length := by
            rcases es with _ | ⟨a, l⟩
            · cases hg
            · exact Nat.succ_pos _
          rw [List.getLast?_eq_getElem?] at hg
          have hf := entryOf_fields ((hes (es.length - 1) (by omega)).symm.trans hg)
          have := h2 (by omega)
          simp only [Option.map_some, Option.getD_some, Entry.trail, hf.1, hf.2]
          rw [hl]; exact this
    · rintro ⟨es, he, hc⟩
      simp only [Bool.or_eq_false_iff, List.any_eq_false, decide_eq_true_eq, decide_eq_false_iff_not, not_lt] at hc
      obtain ⟨hl, hes⟩ := entriesOf_some he
      have hx := (entriesOf_isSome bs _).mp (by rw [he]; rfl)
      refine ⟨fun i hi => ⟨fun h0 => ?_, hx i hi⟩, fun hpos => ?_⟩
      · have hi' : i < es.length := by omega
        have := (entryOf_fields ((hes i hi).symm.trans (List.getElem?_eq_getElem hi'))).2
        exact hc.1 _ (List.getElem_mem hi') (by omega)
      · have hlast : es.getLast? = some es[es.length - 1] := by
          rw [List.getLast?_eq_getElem?, List.getElem?_eq_getElem (by omega)]
        have hf := entryOf_fields ((hes (es.length - 1) (by omega)).symm.trans (List.getElem?_eq_getElem (by omega)))
        have := hc.2
        rw [hlast] at this
        simp only [Option.map_some, Option.getD_some, Entry.trail, hf.1, hf.2] at this
        rw [hl] at this; exact this
  rw [hs, hn, ho, hf]
  unfold checkImportBody
  dsimp only
  refine ⟨fun h1 => ?_, fun h1 h2 => ?_, fun h1 h2 h3 => ?_, fun h1 h2 h3 h4 => ?_, fun h1 h2 h3 h4 => ?_⟩
  · rw [if_pos (not_not.mp h1)]
  · rw [if_neg h1, if_pos (by simpa using h2)]
  · rw [if_neg h1, if_neg (by simp [h2]), if_pos (by simpa using h3)]
  · rw [if_neg h1, if_neg (by simp [h2]), if_neg (by simp [h3])]
    split
    · rfl
    · rename_i es he
      by_cases hc : (es.any (fun e => e.length = 0) || decide (16000000 < (es.getLast?.map (·.trail)).getD 0)) = true
      · rw [if_pos hc]
      · exact absurd ⟨es, he, by simpa using hc⟩ h4
  · obtain ⟨es, he, hc⟩ := h4
    refine ⟨es, ?_, he⟩
    rw [if_neg h1, if_neg (by simp [h2]), if_neg (by simp [h3]), he]
    simp only [hc]
    rfl
end Sys2Proof.Machine
end

