-- ==== Sys2Proof/Laws/Records.lean ====
section
/-!
SUPPORT. What the shared operations on numbers, lists and records can do: one lemma says once what an operation gives,
and proofs about the blocks cite it.
-/

namespace Sys2Proof.Machine

/-! ## Arithmetic -/

/-- A clamped integer lies in its range, and one that lay in it is unchanged. -/
theorem clampInt_spec {a b : Int} (x : Int) (h : a ≤ b) :
    a ≤ clampInt a b x ∧ clampInt a b x ≤ b ∧ (a ≤ x → x ≤ b → clampInt a b x = x) := by
  unfold clampInt; split <;> [skip; split] <;> omega

/-- A clamped count lies in its range, and one that lay in it is unchanged. -/
theorem clampNat_spec {a b : Nat} (x : Nat) (h : a ≤ b) :
    a ≤ clampNat a b x ∧ clampNat a b x ≤ b ∧ (a ≤ x → x ≤ b → clampNat a b x = x) := by
  unfold clampNat; split <;> [skip; split] <;> omega

/-- ceilDiv is the least multiple count that reaches `n`. -/
theorem ceilDiv_le_iff {n d k : Nat} (h : 0 < d) : ceilDiv n d ≤ k ↔ n ≤ k * d := by
  unfold ceilDiv
  rw [← Nat.lt_succ_iff, Nat.div_lt_iff_lt_mul h, Nat.succ_mul]
  omega

/-- The root found from `k` bits below a lower bound is the floor of the root. -/
theorem isqrtFrom_spec : ∀ (k n r : Nat), r * r ≤ n → n < (r + 2 ^ k) * (r + 2 ^ k) →
    isqrtFrom k n r * isqrtFrom k n r ≤ n ∧ n < (isqrtFrom k n r + 1) * (isqrtFrom k n r + 1)
  | 0, _, _, h, g => by simpa [isqrtFrom] using ⟨h, g⟩
  | k + 1, n, r, h, g => by
    unfold isqrtFrom
    split
    · next hk => exact isqrtFrom_spec k n _ hk (by rw [show r + 2 ^ k + 2 ^ k = r + 2 ^ (k + 1) by ring]; exact g)
    · next hk => exact isqrtFrom_spec k n r h (by omega)

/-- isqrt is the floor of the exact root, below 2^80. -/
theorem isqrt_spec {n : Nat} (h : n < 2 ^ 80) : isqrt n * isqrt n ≤ n ∧ n < (isqrt n + 1) * (isqrt n + 1) :=
  isqrtFrom_spec 40 n 0 (by simp) (by simpa [← Nat.pow_add] using h)

/-- A stamp counter stays in 1 .. `top`. -/
theorem nextStamp_range {top n : Nat} (h : 1 ≤ top) : 1 ≤ nextStamp top n ∧ nextStamp top n ≤ top := by
  unfold nextStamp; split <;> omega

/-! ## Lists by position -/

section
variable {α : Type}

@[simp] theorem length_setAt (l : List α) (n : Nat) (x : α) : (setAt l n x).length = l.length := by
  induction l generalizing n with
  | nil => rfl
  | cons y l ih => cases n <;> simp [setAt, ih]

/-- `setAt` changes the element at its position, and no other. -/
theorem getElem?_setAt (l : List α) (n m : Nat) (x : α) :
    (setAt l n x)[m]? = if m = n ∧ n < l.length then some x else l[m]? := by
  induction l generalizing n m with
  | nil => simp [setAt]
  | cons y l ih =>
    cases n with
    | zero => cases m <;> simp [setAt]
    | succ n => cases m <;> simp [setAt, ih]

@[simp] theorem length_modAt (l : List α) (n : Nat) (f : α → α) : (modAt l n f).length = l.length := by
  unfold modAt; split <;> simp

/-- `modAt` acts at its position, and at no other. -/
theorem getElem?_modAt (l : List α) (n m : Nat) (f : α → α) :
    (modAt l n f)[m]? = if m = n then l[n]?.map f else l[m]? := by
  unfold modAt
  cases h : l[n]? with
  | some x =>
    have hn : n < l.length := (List.getElem?_eq_some_iff.1 h).1
    show (setAt l n (f x))[m]? = _
    rw [getElem?_setAt]
    by_cases hm : m = n <;> simp [hm, hn]
  | none => by_cases hm : m = n <;> simp [hm, h]

/-- What is left after `removeFirst` was there before. -/
theorem mem_of_mem_removeFirst {p : α → Bool} {x : α} {l : List α} (h : x ∈ removeFirst p l) : x ∈ l := by
  induction l with
  | nil => exact h
  | cons y l ih =>
    unfold removeFirst at h
    split at h
    · exact List.mem_cons_of_mem _ h
    · rcases List.mem_cons.1 h with rfl | h
      · exact List.mem_cons_self
      · exact List.mem_cons_of_mem _ (ih h)

/-- Exactly one element goes when there is one that meets the test. -/
theorem length_removeFirst {p : α → Bool} {l : List α} (h : l.any p = true) :
    (removeFirst p l).length + 1 = l.length := by
  induction l with
  | nil => simp at h
  | cons y l ih =>
    unfold removeFirst
    split
    · rfl
    · next hy => simpa using ih (by simpa [hy] using h)

/-- With no element that meets the test nothing goes. -/
theorem removeFirst_of_none {p : α → Bool} {l : List α} (h : ∀ x ∈ l, p x = false) : removeFirst p l = l := by
  induction l with
  | nil => rfl
  | cons y l ih =>
    unfold removeFirst
    rw [h y List.mem_cons_self, if_neg (by simp), ih fun x hx => h x (List.mem_cons_of_mem _ hx)]

end

/-- A number joined to a list is in it with those that were. -/
theorem mem_insertAsc {n m : Nat} {l : List Nat} : m ∈ insertAsc n l ↔ m = n ∨ m ∈ l := by
  induction l with
  | nil => simp [insertAsc]
  | cons k l ih =>
    unfold insertAsc
    split
    · simp
    · split
      · next h => subst h; simp
      · simp only [List.mem_cons, ih]; tauto

/-! ## Records -/

@[simp] theorem length_bytesOf (n v : Nat) : (bytesOf n v).length = n := by
  induction n generalizing v with
  | zero => rfl
  | succ n ih => simp [bytesOf, ih]

@[simp] theorem length_signedBytes (n : Nat) (v : Int) : (signedBytes n v).length = n := length_bytesOf _ _

theorem byteAt_cons_zero (b : Byte) (l : List Byte) : byteAt (b :: l) 0 = b.toNat := rfl

theorem byteAt_cons_succ (b : Byte) (l : List Byte) (k : Nat) : byteAt (b :: l) (k + 1) = byteAt l k := rfl

/-- A field past the first byte is that of the rest. -/
theorem fieldAt_cons_succ (b : Byte) (l : List Byte) (k n : Nat) : fieldAt (b :: l) (k + 1) n = fieldAt l k n := by
  induction n generalizing k with
  | zero => rfl
  | succ n ih => simp only [fieldAt, byteAt_cons_succ, ih]

/-- A field that begins past a first part is that of the rest. -/
theorem fieldAt_append_right (a b : List Byte) (k n : Nat) : fieldAt (a ++ b) (a.length + k) n = fieldAt b k n := by
  induction a with
  | nil => simp
  | cons x a ih =>
    rw [List.length_cons, show a.length + 1 + k = (a.length + k) + 1 by omega, List.cons_append, fieldAt_cons_succ, ih]

/-- A field that ends within a first part is that of the first part. -/
theorem fieldAt_append_left (a b : List Byte) (k n : Nat) (h : k + n ≤ a.length) :
    fieldAt (a ++ b) k n = fieldAt a k n := by
  induction n generalizing k with
  | zero => rfl
  | succ n ih =>
    have hk : byteAt (a ++ b) k = byteAt a k := by simp [byteAt, List.getD, List.getElem?_append_left (show k < a.length by omega)]
    simp only [fieldAt, hk, ih (k + 1) (by omega)]

/-- A field reads back what its bytes were made from. -/
theorem fieldAt_bytesOf (n v : Nat) (h : v < 256 ^ n) : fieldAt (bytesOf n v) 0 n = v := by
  induction n generalizing v with
  | zero => simp at h; simp [fieldAt, h]
  | succ n ih =>
    have hd : v / 256 < 256 ^ n := by rw [Nat.div_lt_iff_lt_mul (by norm_num)]; rwa [← pow_succ]
    simp only [fieldAt, bytesOf, byteAt_cons_zero, fieldAt_cons_succ, ih _ hd, BitVec.toNat_ofNat]
    omega

/-! ## Bays -/

/-- The record of a bay that has been replaced. -/
theorem RollMgr.bay_setBay_self (r : RollMgr) (b : Nat) (x : Bay) (h : 1 ≤ b) (g : b ≤ r.bays.length) :
    (r.setBay b x).bay b = x := by
  have h0 : b ≠ 0 := by omega
  simp only [RollMgr.setBay, RollMgr.bay, h0, if_false, List.getD, getElem?_setAt]
  rw [if_pos ⟨trivial, by omega⟩]; rfl

/-- The records of the other bays are as they were. -/
theorem RollMgr.bay_setBay_of_ne (r : RollMgr) (a b : Nat) (x : Bay) (h : a ≠ b) : (r.setBay b x).bay a = r.bay a := by
  unfold RollMgr.setBay RollMgr.bay
  split
  · rfl
  · split
    · rfl
    · simp only [List.getD, getElem?_setAt]
      rw [if_neg (by omega)]

@[simp] theorem RollMgr.length_setBay (r : RollMgr) (b : Nat) (x : Bay) : (r.setBay b x).bays.length = r.bays.length := by
  unfold RollMgr.setBay; split <;> simp

end Sys2Proof.Machine
end

