-- ==== Sys2Proof/Tests/Slice0.lean ====
section
/-!
SUPPORT. Tests. First the smoke test of the well-formedness checks: for each an ill-formed command that it refuses. Then,
for every statement with hypotheses, a state and operands that meet them together, clause by clause, at boundary values where
a clause has a range. Last, steps on small states whose expected results are those of the spec's rules, worked out by hand.
-/

namespace Sys2Proof.Tests

open Sys2Proof Sys2Proof.Machine

/-! ## Small states -/

/-- A profile of a 16 mm roll, in every range of the record table. -/
def prof : Profile :=
  { Profile.zero with
    id := 1, reelType := 1, gateOffset := 10000, accel := 4000, shuttleSpeed := 3000, scanSpeed := 600, indexSpeed := 500
    creepSpeed := 20, approach := 2000, stopTolerance := 20, endMargin := 50000, reverseMargin := 50000
    driftWindow := 200, tensionSetpoint := 2048, tensionBand := 200, kp := 4, ki := 1, nominalPitch := 3000
    minPitch := 1500, minLength := 1000, maxLength := 4000, edgeThreshold := 100, focusMax := 4095, defaultStep := 2000
    smallMax := 4, mediumMax := 8, spliceMin := 40, spliceMax := 44
    probeStep := 16, bandLength := 100000, softRatio := 128, imageWait := 100 }

/-- A part in RUN with an active profile. -/
def runCore : Core :=
  (State.reset.core.setModes { Modes.reset with mode := .run, progress := 0x81 }).setStore
    { Store.reset with setA := some prof, active := some .a }

/-- That part, changed. -/
def on (f : Core → Core) : State := { State.reset with core := f runCore }

/-- A state with its core changed. -/
def changed (s : State) (f : Core → Core) : State := { s with core := f s.core }

/-- A part in a mode. -/
def inMode (m : Mode) : State := on fun c => c.setModes { c.modes with mode := m }

/-- A part in START-UP at a test. -/
def atTest (n : Nat) : State := on fun c => c.setModes { Modes.reset with progress := n }

/-- The transport changed. -/
def onTr (f : Transport → Transport) : State := on fun c => c.setTr (f c.tr)

/-- The Capture Unit changed. -/
def onCap (f : Capture → Capture) : State := on fun c => c.setCap (f c.cap)

/-- The link changed, once it takes part in the bus. -/
def onLink (f : Link → Link) : State := on fun c => c.setLink (f { c.link with opened := true })

/-- The transfer of a message on the wire. -/
def sending (msg : LinkMsg) (who : LinkRequester) : Link → Link := fun l =>
  { l with opened := true, st := .address, queue := [{ msg := msg, by' := who }] }

/-- The state a command leaves meets `p`. -/
def after (i : Instr) (s : State) (p : State → Bool) : Bool :=
  match exec i s with
  | .next t => p t
  | .fault _ => false
  | .refused _ => false

/-! ## Ill-formed commands -/

theorem test_wf_enable_not_reset : (Instr.enable 2).wf = false := by decide
theorem test_wf_softReset : (Instr.softReset 1).wf = false := by decide
theorem test_wf_holdClear : (Instr.holdClear 3).wf = false := by decide
theorem test_wf_wake : (Instr.wake 1).wf = false := by decide
theorem test_wf_ignored_offset : (Instr.registerWriteIgnored 32 false 0).wf = false := by decide
theorem test_wf_ignored_register : (Instr.registerWriteIgnored 0x14 true 0).wf = false := by decide
theorem test_wf_references : (Instr.selftestTestDone (.references 1024 512 512 2048 2048)).wf = false := by decide
theorem test_wf_references_code : (Instr.selftestTestDone (.references 512 512 512 2048 4096)).wf = false := by decide
theorem test_wf_setupRead : (Instr.setupReadDone .block (.data [])).wf = false := by decide
theorem test_wf_timeout_slot : (Instr.hostReadTimeout (.slot 32)).wf = false := by decide
theorem test_wf_look_slot : (Instr.slotLook 32 .error).wf = false := by decide
theorem test_wf_look_data : (Instr.slotLook 0 (.data [1])).wf = false := by decide
theorem test_wf_profile_data : (Instr.profileReadDone (.data [1])).wf = false := by decide
theorem test_wf_count : (Instr.meteringCount .forward 0 1024 0).wf = false := by decide
theorem test_wf_regulator : (Instr.tensionRegulatorPeriod 4096 0).wf = false := by decide
theorem test_wf_exchange : (Instr.exchange (some 3)).wf = false := by decide
theorem test_wf_status : (Instr.status [1]).wf = false := by decide
theorem test_wf_survey : (Instr.survey [1]).wf = false := by decide
theorem test_wf_reservation : (Instr.reservationReadDone (.data [])).wf = false := by decide
theorem test_wf_cameraLine : (Instr.cameraLine (List.replicate 8193 0)).wf = false := by decide +kernel
theorem test_wf_lampSet : (Instr.lampSet (some 0)).wf = false := by decide
theorem test_wf_lampOff : (Instr.lampOff (some 2)).wf = false := by decide
theorem test_wf_lampStatus : (Instr.lampStatus []).wf = false := by decide
theorem test_wf_stretch : (Instr.clockStretchLimit (some 33)).wf = false := by decide
theorem test_wf_arbitration : (Instr.lostArbitration (some 33)).wf = false := by decide
theorem test_wf_watched : (Instr.watchedAddressByte 128 true).wf = false := by decide

/-! ## Hypotheses met: the window, the front, resets -/

theorem test_met_StepRunsFrontCommand : ({ State.reset with pending := [.post 1, .wake 8] }).pending = .post 1 :: [.wake 8] := by
  decide

theorem test_met_SoundKeptByEveryStep : State.reset.sound = true ∧ ∃ t, step State.reset = .next t := ⟨by decide, _, rfl⟩

theorem test_met_HeldPartDoesNothing :
    ((inMode .held).core.modes.mode = .held ∧ Instr.statusRead ≠ .startUp ∧ ∀ p, Instr.statusRead ≠ .fullReset p) ∧
    Instr.extStopAssert ≠ .startUp ∧ ∀ p, Instr.filmPresentChange true ≠ .fullReset p :=
  ⟨⟨by decide, by decide, by intro p; simp⟩, by decide, by intro p; simp⟩

theorem test_met_WindowWritesStoreOrDoNothing :
    ((inMode .dormant).core.modes.mode ≠ .held ∧ (inMode .dormant).core.modes.mode ≠ .failed) ∧
    (11 < 32 ∧ 12 < 32) ∧ (inMode .failed).core.modes.mode = .failed ∧ (inMode .startUp).core.modes.mode = .startUp ∧
    (2 : Word32).getLsbD 1 = true := by decide

/-- A setup read in progress. -/
def readingSetup : State := on fun c =>
  (c.setModes { c.modes with mode := .configWait }).setPort { c.port with
    setupRead := some { base := 0x1000, block := none, extension := none }, boardFlight := [.setup .block, .setup .extension] }

theorem test_met_EnableBeginsSetupRead :
    ((1 : Word32).getLsbD 0 = true ∧ (1 : Word32).getLsbD 1 = false ∧ (1 : Word32).getLsbD 2 = false) ∧
    ((inMode .configWait).core.modes.mode = .configWait ∧ (inMode .configWait).ready = true ∧
      (inMode .configWait).core.port.setupRead = none ∧ (inMode .configWait).front.enable = false) ∧
    (inMode .startUp).core.modes.mode = .startUp ∧
    (readingSetup.core.modes.mode = .configWait ∧ readingSetup.core.port.setupRead ≠ none) ∧
    (inMode .run).core.modes.mode = .run ∧ (inMode .standby).core.modes.mode = .standby ∧
    (1 : Word32).getLsbD 3 = false := by decide

theorem test_met_SoftResetClearsAndKeeps :
    (2 : Word32).getLsbD 1 = true ∧ (inMode .configWait).core.modes.mode = .configWait ∧
    (inMode .dormant).core.modes.mode = .dormant ∧
    (onTr fun t => { t with st := .move, plan := some (runPlan .forward 600 none false) }).core.tr.st = .move ∧
    ((onTr fun t => { t with st := .move, phase := .settle }).core.tr.phase = .settle ∧
      (onTr fun t => { t with st := .move, phase := .brake .creepEnd }).core.tr.phase = .brake .creepEnd ∧
      (onTr fun t => { t with st := .move, phase := .brake .toCreep, vRef := 1 }).core.tr.phase = .brake .toCreep ∧
      (BrakeGoal.toCreep ≠ .creepEnd) ∧
      0 < (onTr fun t => { t with st := .move, phase := .brake .toCreep, vRef := 1 }).core.tr.vRef) ∧
    ((onTr fun t => { t with st := .hold, tensioning := true }).core.tr.st = .hold ∧
      (onTr fun t => { t with st := .unthreading }).core.tr.st = .unthreading ∧
      (onTr fun t => { t with st := .unreferenced, tensionTest := true }).core.tr.st = .unreferenced ∧
      (onTr fun t => { t with st := .fault }).core.tr.st = .fault) ∧
    ((inMode .run).core.ix.waitingFrame = none) ∧
    (onLink fun l => { l with st := .down }).core.link.st = .down ∧
    (onLink fun l => { l with st := .target }).core.link.st = .target ∧
    ((onLink fun l => { l with st := .retryWait }).core.link.st ≠ .down ∧
      (onLink fun l => { l with st := .retryWait }).core.link.st ≠ .target) := by decide

theorem test_met_InterruptMessageAndHold :
    (runCore.modes.mode.sends = true ∧ Front.reset.hold = false) ∧
    ({ Front.reset with hold := true }).hold = true ∧ (inMode .startUp).core.modes.mode = .startUp ∧
    ((4 : Word32).getLsbD 1 = false ∧ (4 : Word32).getLsbD 2 = true ∧ (4 : Word32).getLsbD 3 = false) ∧
    (inMode .run).core.modes.mode = .run ∧
    ((inMode .configWait).core.modes.mode = .configWait ∧ (4 : Word32).getLsbD 0 = (inMode .configWait).front.enable) := by
  decide

/-- A part in STANDBY or DORMANT with a Work Area, a sweep interval and its transport in a state. -/
def asleep (m : Mode) (st : TState) : State := on fun c =>
  ((c.setModes { c.modes with mode := m }).setTr { c.tr with st := st }).setPort
    { c.port with workArea := some 0x1000, setup := { c.port.setup with sweepInterval := 1 } }

theorem test_met_WakeEventsReturnToRun :
    ((asleep .standby .relaxed).ready = true ∧ (asleep .standby .relaxed).core.modes.mode = .standby ∧
      (asleep .standby .relaxed).core.tr.st = .relaxed) ∧
    ((asleep .dormant .fault).ready = true ∧ (asleep .dormant .fault).core.modes.mode = .dormant ∧
      (asleep .dormant .fault).core.port.setup.sweepInterval ≠ 0 ∧ (asleep .dormant .fault).core.tr.st = .fault) ∧
    (asleep .dormant .unthreaded).core.tr.st = .unthreaded ∧
    ((8 : Word32).getLsbD 1 = false ∧ (8 : Word32).getLsbD 2 = false ∧ (8 : Word32).getLsbD 3 = true) ∧
    ((12 : Word32).getLsbD 1 = false ∧ (12 : Word32).getLsbD 2 = true ∧ (12 : Word32).getLsbD 3 = true) ∧
    ((asleep .standby .relaxed).core.cap.stop = none ∧ (asleep .standby .relaxed).core.cap.flyby = none ∧
      (asleep .standby .relaxed).core.focus.probe = none ∧
      (asleep .standby .relaxed).core.port.workArea.isSome = true ∧ (asleep .standby .relaxed).front.snapMark = .idle) ∧
    (asleep .standby .relaxed).core.rm.slots[31]? = some .lookable := by decide

theorem test_met_PostReadsNamedLookableSlots :
    (inMode .run).core.modes.mode = .run ∧ (inMode .run).ready = true ∧
    (inMode .run).core.rm.slots[31]? = some .lookable ∧ (inMode .configWait).core.modes.mode = .configWait := by decide

theorem test_met_StatusReadAnswersAndClears :
    (inMode .startUp).core.modes.mode ≠ .held ∧
    ({ Modes.reset with progress := 255 }).progress < 256 ∧
    ({ Front.reset with setupReason := 15 }).setupReason < 16 ∧ Front.reset.faults.length ≤ 16 ∧ Front.reset.faults = [] ∧
    ({ Front.reset with faults := [⟨.linkStuck, .link, 0xFFFFFF, 0xFFFFFFF⟩] }).faults =
      ⟨.linkStuck, .link, 0xFFFFFF, 0xFFFFFFF⟩ :: [] ∧
    0x0C ≠ 0x00 ∧ 0x1C ≠ 0x18 := by decide

/-- A fault entry. -/
def someFault : FaultEntry := { name := .filmBreak, source := .transport, info := 0, aux := 0 }

/-- A front with `n` faults queued. -/
def faulted (n : Nat) : Front := { Front.reset with faults := List.replicate n someFault }

theorem test_met_FaultTopPopRemovesOldest :
    (runCore.modes.mode ≠ .held ∧ runCore.modes.mode ≠ .failed ∧ runCore.modes.mode ≠ .startUp) ∧
    (inMode .failed).core.modes.mode = .failed ∧ (inMode .startUp).core.modes.mode = .startUp ∧
    2 ≤ (faulted 2).faults.length ∧
    ((faulted 1).faults.length ≤ 1 ∧ (faulted 1).overflow = false) ∧
    ((({ faulted 1 with overflow := true, discards := 1 } : Front).faults.length ≤ 1) ∧
      ({ faulted 1 with overflow := true, discards := 1 } : Front).overflow = true ∧
      0 < ({ faulted 1 with overflow := true, discards := 1 } : Front).discards) ∧
    ((faulted 0).faults = [] ∧ (faulted 0).overflow = false) ∧
    ((faulted 16).overflow = false ∧ (faulted 16).faults.length ≤ 16) ∧
    (16 ≤ (faulted 16).faults.length ∧ 2 ≤ (faulted 16).faults.length) ∧
    ((faulted 15).faults.length < 16 ∧ (faulted 0).faults.length < 16 ∧ (faulted 0).overflow = false) := by decide

/-- A front whose snapshot has `n` writes left. -/
def writing (n : Nat) (signal : Bool) : Front :=
  { Front.reset with snapMark := .writing (List.replicate n (0, [])) signal none }

theorem test_met_FaultAndSnapshotCauses :
    ((faulted 15).faults.length < 16 ∧ (faulted 15).overflow = false) ∧ 16 ≤ (faulted 16).faults.length ∧
    (writing 1 true).snapMark = .writing [(0, [])] true none ∧ (writing 1 false).snapMark = .writing [(0, [])] false none ∧
    (writing 2 true).snapMark = .writing ((0, []) :: (0, []) :: []) true none ∧
    ({ writing 1 true with snapMark := .writing [(0, [])] true (some ({ fault := true }, false)) } : Front).snapMark =
      .writing [(0, [])] true (some ({ fault := true }, false)) ∧
    (runCore.port.workArea = none ∧ (asleep .standby .hold).core.port.workArea ≠ none ∧ Front.reset.snapMark = .idle) ∧
    ((runCore.setTr { runCore.tr with p := -400000 }).tr.p = -400000 ∧ runCore.roll.mounted = none ∧
      runCore.prof.id < 256 ∧ runCore.modes.progress < 256 ∧ runCore.mountedRoll < 4294967296 ∧
      runCore.ix.entries.length < 65536 ∧ runCore.rm.pendingSet.length < 256 ∧ runCore.rm.pass = none) := by decide

theorem test_met_SelfTestAdvancesOrFails :
    ((atTest 1).core.modes.mode = .startUp ∧ (atTest 1).ready = true) ∧
    (1 ≤ (atTest 3).core.modes.progress ∧ (atTest 3).core.modes.progress ≤ 3) ∧ (atTest 4).core.modes.progress = 4 ∧
    (480 ≤ 480 ∧ 544 ≤ 544 ∧ 2016 ≤ 2016 ∧ 2080 ≤ 2080 ∧ ¬480 ≤ 479) ∧
    (atTest 7).core.modes.linkResult = none ∧
    ((atTest 8).core.modes.progress = 8 ∧ (atTest 8).front.enable = false) ∧
    ({ atTest 8 with front := { Front.reset with enable := true } }).front.enable = true := by decide

/-- START-UP at a link test that has been decided, with the link in a state. -/
def decided (n : Nat) (ok : Bool) (st : LinkState) : State := changed (atTest n) fun c =>
  (c.setModes { c.modes with linkResult := some ok }).setLink { c.link with opened := true, st := st }

theorem test_met_SelfTest_link :
    ((decided 5 true .idle).core.modes.mode = .startUp ∧ (decided 5 true .idle).ready = true ∧
      (decided 5 true .idle).core.modes.progress = 5 ∧ (decided 5 true .idle).core.modes.linkResult = some true ∧
      (decided 5 true .idle).core.link.queue = [] ∧ (decided 5 true .idle).core.link.st = .idle) ∧
    ((decided 7 false .down).ready = true ∧ (decided 7 false .down).core.modes.progress = 7 ∧
      (decided 7 false .down).core.modes.linkResult = some false ∧ (decided 6 false .down).core.link.st = .down) := by
  decide

/-- A part whose idle count runs, at rest in HOLD, with lamp control present or absent. -/
def idleFor (present : Bool) : State := on fun c =>
  (((c.setModes { c.modes with idle := some 0 }).setTr { c.tr with st := .hold }).setPort
    { c.port with workArea := some 4096 }).setCap { c.cap with lamp := { c.cap.lamp with present := present } }

theorem test_met_IdleAndDormantExpiries :
    ((idleFor true).core.modes.mode = .run ∧ (idleFor true).ready = true ∧ (idleFor true).core.modes.idle ≠ none ∧
      (idleFor true).core.cap.lamp.present = true ∧ (idleFor true).core.link.st ≠ .down ∧
      (idleFor true).core.link.queue.length < 8 ∧ (idleFor true).core.tr.steady = true ∧
      (idleFor true).core.port.workArea.isSome = true ∧ (idleFor true).front.snapMark = .idle) ∧
    ((idleFor false).core.cap.lamp.present = false ∧
      (changed (idleFor false) fun c => c.setTr { c.tr with st := .unthreaded }).core.tr.st = .unthreaded) ∧
    (∃ s : State, s.core.modes.mode = .standby ∧ s.ready = true ∧ s.core.modes.dormant ≠ none ∧
      s.core.port.setup.dormantTime ≠ 0) ∧
    ((inMode .standby).core.modes.mode = .standby ∧ (inMode .standby).ready = true ∧
      (inMode .standby).core.port.setup.dormantTime = 0) :=
  ⟨by decide, by decide,
   ⟨on fun c => (c.setModes { c.modes with mode := .standby, dormant := some 0 }).setPort
      { c.port with setup := { c.port.setup with dormantTime := 1 } }, by decide⟩, by decide⟩

/-! ## Hypotheses met: setup -/

/-- A Setup Block with a ring of two slots of 64 KiB at 100000h and an Initial Profile of reel type 1, 64 by 64 pixels, depth
1; every other field is clamped. -/
def setupBytes : List Byte :=
  bytesOf 4 7 ++ bytesOf 4 0 ++ bytesOf 8 0x100000 ++ bytesOf 4 65536 ++ bytesOf 2 2 ++ List.replicate 234 0
    ++ (bytesOf 4 9 ++ [1, 1, 1, 2] ++ List.replicate 56 0 ++ bytesOf 2 1 ++ bytesOf 2 10 ++ List.replicate 20 0
        ++ bytesOf 2 64 ++ bytesOf 2 64 ++ List.replicate 160 0 ++ bytesOf 4 9)
    ++ List.replicate 508 0 ++ bytesOf 4 7

theorem test_setupBytes_length : setupBytes.length = 1024 := by decide +kernel

/-- CONFIG WAIT with the extension read and the block in flight. -/
def halfRead : State := on fun c =>
  ((c.setModes { c.modes with mode := .configWait }).setStore Store.reset).setPort { c.port with
    setupRead := some { base := 0x1000, block := none, extension := some (List.replicate 112 0) }, boardFlight := [.setup .block] }

theorem test_met_SetupReadsAreKeptOrRefuse :
    (readingSetup.ready = true ∧
      readingSetup.core.port.setupRead = some { base := 0x1000, block := none, extension := none } ∧
      BoardRead.setup .block ∈ readingSetup.core.port.boardFlight ∧
      BoardRead.setup .extension ∈ readingSetup.core.port.boardFlight ∧ readingSetup.core.port.setupRead ≠ none) ∧
    (halfRead.ready = true ∧
      halfRead.core.port.setupRead = some { base := 0x1000, block := none, extension := some (List.replicate 112 0) } ∧
      BoardRead.setup .block ∈ halfRead.core.port.boardFlight ∧
      setupReason 0x1000 halfRead.core.store (List.replicate 1024 0) (List.replicate 112 0) = some 4) ∧
    (fieldAt setupBytes 0 4 = fieldAt setupBytes 0x3FC 4 ∧ fieldAt setupBytes 0x008 8 % 4096 = 0 ∧
      2 ≤ fieldAt setupBytes 0x014 2 ∧ fieldAt setupBytes 0x014 2 ≤ 256 ∧ 65536 ≤ fieldAt setupBytes 0x010 4 ∧
      fieldAt setupBytes 0x010 4 ≤ 67108864 ∧ fieldAt setupBytes 0x010 4 % 4096 = 0 ∧
      fieldAt setupBytes 0x008 8 + fieldAt setupBytes 0x014 2 * fieldAt setupBytes 0x010 4 ≤ 2 ^ 64 ∧ 0x1000 < 2 ^ 64) := by
  decide +kernel

theorem test_met_SetupAcceptanceTakesEffect :
    halfRead.core.modes.mode = .configWait ∧ halfRead.ready = true ∧
    halfRead.core.port.setupRead = some { base := 0x1000, block := none, extension := some (List.replicate 112 0) } ∧
    BoardRead.setup .block ∈ halfRead.core.port.boardFlight ∧
    setupReason 0x1000 halfRead.core.store setupBytes (List.replicate 112 0) = none ∧
    halfRead.core.cap.stop = none ∧ halfRead.core.cap.flyby = none ∧ halfRead.core.focus.probe = none ∧
    halfRead.core.store.setA = none ∧ halfRead.core.store.setB = none ∧ halfRead.front.snapMark = .idle ∧
    (0 = halfRead.core.roll.bayCount % 16 + 16 * halfRead.core.cap.lamp.present.toNat
        + 32 * halfRead.core.roll.changer.toNat ∧ 0 = fieldAt setupBytes 0x026 2 % 64 ∧
      (after (.setupReadDone .block (.data setupBytes)) halfRead fun t => decide (t.front.faults = [])) = true ∧
      (after (.setupReadDone .block (.data setupBytes))
        (changed halfRead fun c => c.setRoll { c.roll with changer := true, bayCount := 8 }) fun t =>
          decide (t.front.faults = [⟨.configMismatch, .systemPort, 0x28, 0⟩])) = true) ∧
    runCore.store.setA ≠ none ∧ setupReason 0x1000 runCore.store setupBytes (List.replicate 112 0) = none := by decide +kernel

/-! ## Hypotheses met: looks and requests -/

/-- The port changed. -/
def onPort (f : Port → Port) : State := on fun c => c.setPort (f c.port)

/-- A sweep timer that runs. -/
def timed : State := onPort fun p => { p with sweepTimer := some 0 }

/-- A sweep in progress. -/
def sweeping : State := onPort fun p => { p with sweepTimer := some 0, boardFlight := [.slot 31 true] }

/-- A posted request of an unknown kind, with stamp 9. -/
def unknownBytes : List Byte := bytesOf 2 9 ++ [0xFF] ++ List.replicate 59 0 ++ bytesOf 2 9 ++ List.replicate 64 0

/-- A sweep whose read of slot 31 ended first. -/
def sweptTo : State := onPort fun p =>
  { p with workArea := some 0x1000, boardFlight := [.slot 30 true], sweepEnded := [(31, .data unknownBytes)] }

theorem test_met_SweepReadsEverySlot :
    (timed.ready = true ∧ timed.core.port.sweepTimer = some 0 ∧ timed.core.port.boardQueue = [] ∧
      timed.core.port.boardFlight = []) ∧
    (sweeping.ready = true ∧ sweeping.core.port.sweepTimer = some 0 ∧ .slot 31 true ∈ sweeping.core.port.boardFlight) ∧
    ((inMode .run).ready = true ∧ (inMode .run).core.port.sweepTimer = none) ∧
    ((onPort fun p => { p with boardFlight := [.slot 30 true, .slot 31 true] }).ready = true ∧
      (onPort fun p => { p with boardFlight := [.slot 30 true, .slot 31 true] }).core.port.sweepEnded = [] ∧
      (onPort fun p => { p with boardFlight := [.slot 30 true, .slot 31 true] }).core.port.dropped = []) ∧
    (sweptTo.ready = true ∧ sweptTo.core.port.boardFlight = [.slot 30 true] ∧
      sweptTo.core.port.sweepEnded = [(31, .data unknownBytes)] ∧ sweptTo.core.port.dropped = [] ∧
      sweptTo.core.modes.mode = .run ∧
      slotClass unknownBytes = .posted ∧ kindOf (byteAt unknownBytes 2) = none ∧
      sweptTo.core.rm.slots[30]? = some .lookable ∧ sweptTo.core.rm.slots[31]? = some .lookable) := by decide +kernel

/-- A POST write's look at slot 31 in flight, with slot 31 in a state. -/
def looking (e : SlotEntry) : State := on fun c =>
  (c.setPort { c.port with workArea := some 0x1000, boardFlight := [.slot 31 false] }).setRm
    { c.rm with slots := setAt c.rm.slots 31 e }

/-- Two reads of slot 31 that another look has overtaken. -/
def overtaken : State := onPort fun p =>
  { p with boardFlight := [.slot 31 true, .slot 31 false], dropped := [(31, true), (31, false)] }

/-- R15: a sweep's look that waits for its decision is dropped when a POST write's look takes its slot. -/
theorem test_slotLook_dropsOther :
    (match exec (.slotLook 31 (.data unknownBytes)) (changed sweptTo fun c => c.setPort { c.port with
        boardFlight := [.slot 30 true, .slot 31 false] }) with
    | .next t => t.core.port.sweepEnded == [] && t.core.port.boardFlight == [.slot 30 true]
    | _ => false) = true := by decide +kernel

theorem test_met_LooksThatTakeNothing :
    ((looking .lookable).ready = true ∧ (looking .lookable).core.looksAlone 31 false = true ∧
      (looking .lookable).core.rm.slots[31]? = some .lookable) ∧
    (sweeping.ready = true ∧ sweeping.core.looksAlone 31 true = true) ∧
    slotClass (List.replicate 128 0) ≠ .posted ∧
    ((looking (.held 1 .pendingSet)).ready = true ∧ (looking (.held 1 .pendingSet)).core.looksAlone 31 false = true ∧
      (looking (.held 1 .pendingSet)).core.rm.slots[31]? ≠ some .lookable) ∧
    (overtaken.ready = true ∧ overtaken.core.port.boardFlight = .slot 31 true :: [.slot 31 false] ∧
      overtaken.core.port.dropped = (31, true) :: [(31, false)] ∧ overtaken.core.port.sweepEnded = []) ∧
    (inMode .run).core.port.boardFlight = [] := by decide +kernel

/-- A SET PROFILE whose record is being read. -/
def loading : State := on fun c =>
  (c.setPort { c.port with boardFlight := [.profile 0x2000], setup := { c.port.setup with slotAlloc := 65536 } }).setRm
    { c.rm with loading := some { slot := 3, stamp := 5, notify := true, takenAt := 0 } }

/-- A profile record that passes the checks. -/
def recordBytes : List Byte := initialProfile setupBytes

theorem test_met_HostReadTimeoutIsReadError :
    loading.ready = true ∧ loading.core.port.boardFlight = [.profile 0x2000] ∧
    loading.core.rm.loading = some { slot := 3, stamp := 5, notify := true, takenAt := 0 } := by decide

/-- A request of a kind, for roll 7. -/
def request (k : Kind) : Request := { Request.ofRoll k 7 with count := 1, target := .frame 1 }

theorem test_met_AddressesOfRequests :
    ((request .mount).kind = .mount ∧ (request .setProfile).kind = .setProfile ∧
      (request .exportIndex).kind = .exportIndex ∧ ((request .scan).kind = .scan ∧ (request .scan).argA = 0) ∧
      (({ request .scan with argA := 64, endTarget := some (.frame 2) }).argA ≠ 0 ∧
        ({ request .scan with argA := 64, endTarget := some (.frame 2) }).endTarget ≠ none) ∧
      (({ request .scan with argA := 64 }).argA ≠ 0 ∧ ({ request .scan with argA := 64 }).endTarget = none) ∧
      (request .find).kind = .find) ∧
    kindOf (byteAt unknownBytes 2) = none := by decide

/-- A request half posted with stamp 9: kind, options, roll, then from the target form on. -/
def posting (kind options roll : Nat) (rest : List Byte) : List Byte :=
  let body := bytesOf 2 9 ++ bytesOf 1 kind ++ bytesOf 1 options ++ bytesOf 4 roll ++ rest
  body ++ List.replicate (62 - body.length) 0 ++ bytesOf 2 9 ++ List.replicate 64 0

/-- A FIND of one frame, frame 1, with NOTIFY. -/
def findBytes : List Byte := posting 3 1 7 ([1, 0] ++ bytesOf 2 1 ++ bytesOf 4 1)

/-- A MOUNT of roll 7 in bay 1. -/
def mountBytes : List Byte := posting 1 0 7 (List.replicate 20 0 ++ bytesOf 8 1)

/-- A look in flight in a part whose bay 1 is in a state. -/
def lookingAt (b : Bay) : State := on fun c =>
  (c.setPort { c.port with workArea := some 0x1000, boardFlight := [.slot 31 false] }).setRoll
    { c.roll with bays := setAt c.roll.bays 0 b, bayCount := 8, changer := true, checked := true, cassette := some 1 }

/-- A bay that holds roll 7. -/
def bayOf (st : BayState) : Bay := { Bay.reset with st := st, roll := some 7 }

theorem test_met_PostedRequestsAreTaken :
    ((lookingAt (bayOf .mounted)).ready = true ∧ (lookingAt (bayOf .mounted)).core.modes.mode = .run ∧
      (lookingAt (bayOf .mounted)).core.looksAlone 31 false = true ∧
      (lookingAt (bayOf .mounted)).core.rm.slots[31]? = some .lookable ∧ slotClass findBytes = .posted) ∧
    (∃ r, validate (lookingAt (bayOf .mounted)).core findBytes = .passed r 0 ∧ r.kind.positional = true) ∧
    (slotClass mountBytes = .posted ∧
      ∃ r, validate (lookingAt { Bay.reset with st := .loaded }).core mountBytes = .passed r 0 ∧ r.kind = .mount ∧
        1 ≤ r.argA % 256 ∧ r.argA % 256 ≤ (lookingAt { Bay.reset with st := .loaded }).core.roll.bays.length ∧
        ((lookingAt { Bay.reset with st := .loaded }).core.roll.bay (r.argA % 256)).st = .loaded) ∧
    validate (lookingAt Bay.reset).core findBytes = .refused .rollAbsent 0x18 :=
  ⟨by decide +kernel, ⟨{ request .find with notify := true }, by decide +kernel⟩,
    ⟨by decide +kernel, ⟨{ Request.ofRoll .mount 7 with argA := 1 }, by decide +kernel⟩⟩, by decide +kernel⟩

/-- A SET PROFILE of the record at 2000h. -/
def setProfileBytes : List Byte := posting 0x11 0 0 (List.replicate 20 0 ++ bytesOf 8 0x2000)

/-- An EXPORT of roll 7 to a buffer of 36 bytes at 4000h. -/
def exportBytes : List Byte := posting 0x10 0 7 (List.replicate 20 0 ++ bytesOf 8 0x4000 ++ bytesOf 8 36)

/-- A CANCEL of the request of slot 2 with stamp 4. -/
def cancelBytes : List Byte := posting 0x12 0 0 (List.replicate 20 0 ++ bytesOf 8 (4 * 65536 + 2))

/-- R28's checks in their order, each met by a request that passes those before it; bay 1 of 8 is bound to roll 7, the
others are EMPTY, and Set B is empty. -/
theorem test_met_AddressesOfRequests_order :
    [posting 3 32 7 [], posting 3 0 7 [9], posting 3 0 7 [1, 1], posting 4 0 7 [1, 2], posting 3 0 7 [1, 0, 0, 0],
      posting 3 0 7 ([1, 0, 1, 0] ++ bytesOf 4 0), posting 3 0 7 ([1, 0, 1, 0] ++ bytesOf 4 16385),
      posting 3 0 7 ([3, 0, 1, 0] ++ bytesOf 4 16000001),
      posting 4 0 7 ([1, 1, 0, 0] ++ bytesOf 8 2 ++ bytesOf 4 16385),
      posting 4 0 7 ([1, 1, 0, 0] ++ bytesOf 8 2 ++ bytesOf 4 1),
      posting 0x11 0 0 (List.replicate 20 0 ++ bytesOf 8 0x2001),
      posting 1 0 0 (List.replicate 20 0 ++ bytesOf 8 1), posting 0x12 0 0 (List.replicate 20 0 ++ bytesOf 8 32),
      posting 1 0 7 (List.replicate 20 0 ++ bytesOf 8 9), posting 1 0 7 (List.replicate 20 0 ++ bytesOf 8 513),
      posting 1 0 7 (List.replicate 20 0 ++ bytesOf 8 2), posting 1 0 8 (List.replicate 20 0 ++ bytesOf 8 1),
      posting 1 0 8 (List.replicate 20 0 ++ bytesOf 8 2), posting 3 0 0 ([1, 0, 1, 0] ++ bytesOf 4 1),
      posting 3 0 8 ([1, 0, 1, 0] ++ bytesOf 4 1), exportBytes].map (fun bs =>
        match validate (lookingAt (bayOf .bound)).core bs with
        | .passed _ _ => 0
        | .refused _ d => d) =
      [0x02, 0x03, 0x04, 0x04, 0x05, 0x06, 0x06, 0x06, 0x06, 0x07, 0x08, 0x09, 0x09, 0x0A, 0x0D, 0x0C, 0x0B, 0x1B, 0x19,
        0x18, 0x1A] ∧
    [posting 3 0 7 ([1, 0, 0, 1] ++ bytesOf 4 1), posting 3 0 7 ([1, 0, 1, 1] ++ bytesOf 4 1)].map (fun bs =>
        match validate (lookingAt (bayOf .bound)).core bs with
        | .passed r k => (r.count, k)
        | .refused _ _ => (0, 0)) = [(256, 0), (256, 1)] := by decide +kernel

/-- A held request. -/
def heldRequest (r : Request) : PendReq :=
  { slot := 2, stamp := 4, req := r, passOver := 0, active := false, takenAt := 0, clamps := 0, returned := false }

/-- A part with a request held in slot 2 and a look in flight. -/
def holding : State :=
  changed (lookingAt (bayOf .mounted)) fun c => c.setRm { ReqMgr.reset with
    slots := setAt ReqMgr.reset.slots 2 (.held 4 .pendingSet), pendingSet := [heldRequest (request .find)] }

/-- The same with a SCAN whose Count of 257 was clamped at its taking. -/
def clamped : PendReq := { heldRequest { request .scan with count := 256 } with clamps := 1 }

/-- A part with that SCAN held in slot 2 and a look in flight. -/
def holdingClamped : State := changed holding fun c => c.setRm { c.rm with pendingSet := [clamped] }

/-- A part whose slot 2 is HELD by a block, with a look in flight. -/
def cancelling (who : HeldBy) (f : Core → Core) : State := changed (lookingAt (bayOf .mounted)) fun c =>
  f (c.setRm { ReqMgr.reset with slots := setAt ReqMgr.reset.slots 2 (.held 4 who) })

/-- A FIND that seeks, the film moving. -/
def cancelledPass : Pass := Pass.begin (.request .find) 2 4 0 0 (request .find) .seeking (.positioning 0)

/-- That pass, as the target of a CANCEL. -/
def cancelActive : State := cancelling .activePass fun c =>
  (c.setPass cancelledPass).setTr { c.tr with
    st := .move, phase := .cruise, vRef := 600000, plan := some (runPlan .forward 600 none false) }

/-- A MOUNT in its sequence, as the target of a CANCEL. -/
def cancelMount : State := cancelling .activePass fun c =>
  (c.setPass (Pass.begin (.request .mount) 2 4 0 0 (Request.ofRoll .mount 7) .mounting .rolls)).setRoll
    { c.roll with seq := some (Seq.begin true 8 none false) }

/-- An EXPORT in service in slot 2, as the target of a CANCEL. -/
def cancelExporting (p : Porter) : State := cancelling .immediate fun c =>
  (c.setRm { c.rm with exports :=
    [{ slot := 2, stamp := 4, roll := 7, address := 0x4000, length := 60, notify := false, takenAt := 0 }] }).setPorter p

/-- A SET PROFILE that is loading in slot 2, as the target of a CANCEL. -/
def cancelLoading : State := cancelling .immediate fun c =>
  c.setRm { c.rm with loading := some { slot := 2, stamp := 4, notify := true, takenAt := 0 } }

/-- The job of that EXPORT, after five writes. -/
def cancelledJob : ExportJob :=
  { transfer := .exportFor 2 4, address := 0x4000, stamp := 1, roll := 7, count := 9, frontier := 0, drift := 0
    profileId := 1, pitch := 0, issued := 5 }

theorem test_met_Immediate_cancels :
    (cancelActive.ready = true ∧ cancelActive.core.looksAlone 31 false = true ∧
      cancelActive.core.rm.slots[31]? = some .lookable ∧
      validate cancelActive.core cancelBytes = .passed { Request.ofRoll .cancel 0 with argA := 4 * 65536 + 2 } 0 ∧
      cancelActive.core.rm.slots[2]? = some (.held 4 .activePass) ∧ cancelActive.core.rm.pass = some cancelledPass ∧
      cancelledPass.films = true ∧ cancelledPass.ending = none ∧ cancelledPass.cancel = none ∧
      cancelActive.core.focus.probe = none ∧ cancelActive.core.cap.armed = none ∧ cancelActive.core.tr.st = .move ∧
      cancelActive.core.tr.phase ≠ .settle ∧ 0 < cancelActive.core.tr.vRef ∧ cancelledPass.st = .seeking) ∧
    (cancelMount.ready = true ∧ cancelMount.core.roll.seq = some (Seq.begin true 8 none false) ∧
      cancelMount.core.looksAlone 31 false = true) ∧
    ((cancelExporting { waiting := [.exportFor 2 4], job := .idle }).ready = true ∧
      (cancelExporting { waiting := [.exportFor 2 4], job := .idle }).core.roll.seq = none ∧
      (cancelExporting { waiting := [], job := .writing cancelledJob }).ready = true ∧
      cancelledJob.transfer = .exportFor 2 4) ∧
    (cancelLoading.ready = true ∧ cancelLoading.core.rm.exports = [] ∧
      cancelLoading.core.rm.loading = some { slot := 2, stamp := 4, notify := true, takenAt := 0 }) := by decide +kernel

/-- R45: the answers of a CANCEL to an active pass, to an EXPORT being written and to a SET PROFILE that is loading. -/
theorem test_cancel_answers :
    after (.slotLook 31 (.data cancelBytes)) cancelActive (fun t =>
      decide (t.core.rm.pass.map (·.ending) = some (some (.cancelled 0x29)) ∧ t.core.tr.phase = .brake .stop)) = true ∧
    after (.slotLook 31 (.data cancelBytes)) (cancelExporting { waiting := [], job := .writing cancelledJob }) (fun t =>
      decide (t.core.port.results.length = 3 ∧ t.core.rm.exports = [] ∧ t.core.porter.job = .idle)) = true ∧
    after (.slotLook 31 (.data cancelBytes)) cancelLoading (fun t =>
      decide (t.core.port.results.length = 2 ∧ t.core.rm.loading.isSome = true)) = true := by decide +kernel

/-- R30, R45: the Return of a pending SCAN that is cancelled keeps the COUNT bit of its taking. -/
theorem test_cancel_clamped : after (.slotLook 31 (.data cancelBytes)) holdingClamped (fun t =>
    decide (t.core.port.results = [.taken 31 (fieldAt cancelBytes 0 2),
      .result { Return.plain 2 4 false 0 .cancelled 0x28 with clamps := 1 },
      .result (Return.plain 31 (fieldAt cancelBytes 0 2) false 0 .done 0x20)])) = true := by decide +kernel

theorem test_met_Immediate_cancelClamped :
    holdingClamped.ready = true ∧ holdingClamped.core.modes.mode = .run ∧
    holdingClamped.core.looksAlone 31 false = true ∧ holdingClamped.core.rm.slots[31]? = some .lookable ∧
    slotClass cancelBytes = .posted ∧
    validate holdingClamped.core cancelBytes = .passed { Request.ofRoll .cancel 0 with argA := 4 * 65536 + 2 } 0 ∧
    (4 * 65536 + 2) % 256 = clamped.slot ∧ (4 * 65536 + 2) / 65536 % 65536 = clamped.stamp ∧
    holdingClamped.core.rm.pendingSet = [clamped] ∧ clamped.active = false ∧ clamped.returned = false ∧
    holdingClamped.core.rm.slots[clamped.slot]? = some (.held clamped.stamp .pendingSet) ∧ clamped.clamps = 1 := by
  decide +kernel

theorem test_met_ImmediateRequestsAreServed :
    (holding.ready = true ∧ holding.core.modes.mode = .run ∧ holding.core.looksAlone 31 false = true ∧
      holding.core.rm.slots[31]? = some .lookable) ∧
    (slotClass setProfileBytes = .posted ∧ slotClass exportBytes = .posted ∧ slotClass cancelBytes = .posted) ∧
    (∃ r, validate holding.core setProfileBytes = .passed r 0 ∧ r.kind = .setProfile ∧
      holding.core.store.pending = none ∧ holding.core.store.load = none) ∧
    ({ Store.reset with pending := some .b } : Store).pending ≠ none ∧
    (∃ r, validate holding.core exportBytes = .passed r 0 ∧ r.kind = .exportIndex) ∧
    (∃ r, validate holding.core cancelBytes = .passed r 0 ∧ r.kind = .cancel ∧ r.argA % 256 ≠ 31 ∧
      (heldRequest (request .find)).slot = r.argA % 256 ∧ (heldRequest (request .find)).stamp = r.argA / 65536 % 65536 ∧
      holding.core.rm.pendingSet = [heldRequest (request .find)] ∧
      holding.core.rm.slots[(heldRequest (request .find)).slot]? = some (.held 4 .pendingSet) ∧
      (lookingAt (bayOf .mounted)).core.rm.slots[r.argA % 256]? = some .lookable) :=
  ⟨by decide +kernel, by decide +kernel, ⟨{ Request.ofRoll .setProfile 0 with argA := 0x2000 }, by decide +kernel⟩,
    by decide, ⟨{ Request.ofRoll .exportIndex 7 with argA := 0x4000, argB := 36 }, by decide +kernel⟩,
    ⟨{ Request.ofRoll .cancel 0 with argA := 4 * 65536 + 2 }, by decide +kernel⟩⟩

theorem test_met_ProfileReadLoadsInactiveSet :
    (loading.ready = true ∧ loading.core.port.boardFlight = [.profile 0x2000] ∧
      loading.core.rm.loading = some { slot := 3, stamp := 5, notify := true, takenAt := 0 }) ∧
    (∃ p k, checkProfile loading.core.port.setup.slotAlloc loading.core.tr.reelTypes recordBytes = .passed p k) ∧
    checkProfile loading.core.port.setup.slotAlloc loading.core.tr.reelTypes (List.replicate 256 0) = .refused 0x11 ∧
    (runCore.store.active ≠ some .b ∧ ({ Store.reset with active := some .b } : Store).active = some .b) :=
  ⟨by decide, ⟨clampProfile (profileRaw recordBytes),
    clampFlags (profileRaw recordBytes) (clampProfile (profileRaw recordBytes)), by decide +kernel⟩, by decide +kernel,
    by decide⟩

theorem test_met_CheckedProfilesAreInRange :
    checkProfile 65536 (List.replicate 7 none) recordBytes = .passed (clampProfile (profileRaw recordBytes))
      (clampFlags (profileRaw recordBytes) (clampProfile (profileRaw recordBytes))) := by decide +kernel

/-! ## Hypotheses met: passes -/

/-- An entry of the index, 1,000 counts long. -/
def entryAt (x : Int) : Entry :=
  { lead := x, length := 1000, origin := .detected, blip := .none, batch := 0, document := 0, page := 1, spliceBefore := false,
    short := false, long := false, gapBefore := false, soft := false, captured := false, saturated := false,
    captureCount := 0, score := none }

/-- Roll 7 mounted in bay 1, the film steady at `p`, one frame in the index, and a request held in slot 2. -/
def mountedAt (p : Int) (r : Request) : State := on fun c =>
  ((((c.setRoll { c.roll with bays := setAt c.roll.bays 0 (bayOf .mounted), bayCount := 8, changer := true }).setTr
    { c.tr with st := .hold, p := p }).setIx { c.ix with entries := [entryAt 0], frontier := 1000 }).setPort
      { c.port with workArea := some 0x1000 }).setRm
        { c.rm with slots := setAt c.rm.slots 2 (.held 4 .pendingSet), pendingSet := [heldRequest r] }

/-- An INDEX up to a frame. -/
def indexTo (n : Nat) : Request := { request .index with target := .frame n }

/-- The conditions of a lone choice, at `p`, of a request for roll 7, with the index changed. -/
def chooses (p : Int) (r : Request) (f : IndexUnit → IndexUnit) : Bool :=
  let s := changed (mountedAt p r) fun c => c.setIx (f c.ix)
  decide (s.ready = true ∧ s.core.modes.mode = .run ∧ s.core.rm.pass = none ∧ s.core.rm.swap = none ∧
    s.core.rm.held = [heldRequest r] ∧ r.kind.positional = true ∧ s.core.store.pending = none ∧
    s.core.roll.mounted = some 1 ∧ s.core.roll.boundBay r.roll = some 1 ∧ r.roll = s.core.mountedRoll ∧
    s.core.tr.steady = true ∧ s.core.tr.waiting = none ∧ s.core.cap.idle = true ∧ s.core.ix.motion = none ∧
    s.core.cap.stop = none ∧ s.core.cap.flyby = none ∧ s.core.focus.probe = none ∧ s.core.focus.st ≠ .probing ∧
    2 < s.core.rm.slots.length)

theorem test_met_PassChoiceStartsIndex :
    ((inMode .run).ready = true ∧ (inMode .run).core.rm.held = []) ∧
    ((inMode .standby).ready = true ∧ (inMode .standby).core.modes.mode ≠ .run) ∧
    (chooses 0 (indexTo 1) id = true ∧ (mountedAt 0 (indexTo 1)).core.ix.find (.frame 1) = some 1) ∧
    (chooses 1000 (indexTo 2) (fun x => { x with full := true }) = true ∧
      (changed (mountedAt 1000 (indexTo 2)) fun c => c.setIx { c.ix with full := true }).core.ix.find (.frame 2) = none) ∧
    (chooses 1000 (indexTo 2) id = true ∧ (indexTo 2).mapped = false ∧
      (mountedAt 1000 (indexTo 2)).core.ix.find (.frame 2) = none ∧ (mountedAt 1000 (indexTo 2)).core.ix.full = false ∧
      (mountedAt 1000 (indexTo 2)).core.tr.p ≤ (mountedAt 1000 (indexTo 2)).core.ix.frontier ∧
      (mountedAt 1001 (indexTo 2)).core.ix.frontier < (mountedAt 1001 (indexTo 2)).core.tr.p) ∧
    (chooses 0 { request .scan with argA := 64, count := 256 } id = true ∧
      { request .scan with argA := 64, count := 256 }.mapped = true ∧
      (mountedAt 0 { request .scan with argA := 64, count := 256 }).core.ix.find (.frame 1) ≠ none) ∧
    (chooses 10479 (request .find) id = true ∧ chooses 10521 (request .probe) id = true ∧
      (request .find).mapped = false ∧ (request .find).kind ≠ .index ∧ 1 ≤ (request .find).count ∧
      (mountedAt 10479 (request .find)).core.ix.find (.frame 1) = some 1 ∧
      (mountedAt 10479 (request .find)).core.ix.entry 1 = some (entryAt 0) ∧
      (10500 : Int) = (entryAt 0).lead + ((entryAt 0).length / 2 : Nat) + (runCore.prof.gateOffset : Int) + runCore.ix.drift ∧
      (request .find).flyby = false ∧ (10500 : Int) ≤ 16000000 - 4 * (runCore.prof.stopTolerance : Int) ∧
      (runCore.prof.stopTolerance : Int) < |(10479 : Int) - 10500| ∧
      (runCore.prof.stopTolerance : Int) < |(10521 : Int) - 10500|) ∧
    (chooses 0 { request .find with flyby := true } id = true ∧ { request .find with flyby := true }.flyby = true ∧
      (0 : Int) ≠ max (10500 - (brakeDistance runCore.prof.accel runCore.prof.scanSpeed : Nat)
        - (runCore.prof.approach : Int)) (-(runCore.prof.reverseMargin : Int))) := by decide +kernel

/-- A SCAN with a Selection Map from a frame on. -/
def mapScan (n : Nat) : Request := { request .scan with argA := 64, target := .frame n }

/-- Two SCANs with maps, one from frame 2 on and one from frame 1 on, with their Pass-Over counts. -/
def candidates (a b : Nat) : List PendReq :=
  [{ heldRequest (mapScan 2) with passOver := a }, { heldRequest (mapScan 1) with slot := 3, passOver := b }]

/-- The choice between the two. -/
def choosing (a b : Nat) : State := changed (mountedAt 0 (mapScan 1)) fun c =>
  ((c.setRm { c.rm with slots := setAt c.rm.slots 3 (.held 4 .pendingSet), pendingSet := candidates a b }).setIx
    { c.ix with entries := [entryAt 0, entryAt 3000], frontier := 4000 }).setPort
      { c.port with setup := { c.port.setup with ageLimit := 15 } }

/-- A MOUNT of roll 7 in a bay. -/
def mountOf (bay : Nat) : Request := { Request.ofRoll .mount 7 with argA := bay }

/-- A MOUNT of bay 8 held, with nothing mounted and a cassette at the transport or none. -/
def mountable (cassette : Option Nat) : State := on fun c =>
  (c.setRoll { c.roll with
    bays := setAt c.roll.bays 7 (bayOf .bound), bayCount := 8, changer := true, cassette := cassette }).setRm { c.rm with
      slots := setAt c.rm.slots 2 (.held 4 .pendingSet), pendingSet := [heldRequest (mountOf 8)] }

/-- A request held with roll 7 mounted in bay 1, to be saved at an address or not, and roll 9 bound in bay 2. -/
def leaving (save : Option Nat) (r : Request) : State := changed (mountedAt 0 r) fun c =>
  c.setRoll { c.roll with
    bays := setAt (setAt c.roll.bays 0 { bayOf .mounted with saveAddress := save }) 1
      { Bay.reset with st := .bound, roll := some 9 } }

/-- A FIND held for the mounted roll, with the transport in FAULT. -/
def broken : State := changed (mountedAt 0 (request .find)) fun c =>
  (c.setTr { c.tr with st := .fault }).setPins { c.pins with filmPresent := true }

theorem test_met_CheapestCandidateIsChosen :
    runCore.cheapest [heldRequest (indexTo 1)] = some (heldRequest (indexTo 1)) ∧
    ((mountedAt 0 (indexTo 2)).core.ix.find (indexTo 2).target = none ∧
      (mountedAt 0 (indexTo 1)).core.ix.find (indexTo 1).target = some 1 ∧ (indexTo 1).kind = .index ∧
      (mountedAt 0 (indexTo 1)).core.ix.find (request .find).target = some 1 ∧ (request .find).kind ≠ .index ∧
      (mountedAt 0 (indexTo 1)).core.ix.entry 1 = some (entryAt 0)) ∧
    ((choosing 0 15).ready = true ∧ (choosing 0 15).core.modes.mode = .run ∧ (choosing 0 15).core.rm.pass = none ∧
      (choosing 0 15).core.rm.swap = none ∧ (choosing 0 15).core.rm.held = candidates 0 15 ∧
      ((choosing 0 15).core.rm.pendingSet.map (·.slot)).Nodup ∧
      (∀ r ∈ candidates 0 15, r.req.kind.positional = true ∧ r.req.roll = (choosing 0 15).core.mountedRoll) ∧
      (choosing 0 15).core.store.pending = none ∧ (choosing 0 15).core.roll.mounted = some 1 ∧
      (choosing 0 15).core.roll.boundBay (choosing 0 15).core.mountedRoll = some 1 ∧ (choosing 0 15).core.tr.st = .hold ∧
      3 < (choosing 0 15).core.rm.slots.length) ∧
    ((choosing 0 15).core.port.setup.ageLimit ≤ 15 ∧ 0 < (choosing 0 15).core.port.setup.ageLimit ∧
      (choosing 0 0).core.cost (mapScan 1) < (choosing 0 0).core.cost (mapScan 2) ∧
      (mapScan 1).mapped = true ∧ (mapScan 2).mapped = true ∧
      (choosing 0 15).core.ix.find (mapScan 1).target ≠ none ∧ (choosing 0 15).core.ix.full = false) := by decide +kernel

theorem test_met_Cheapest_sequences :
    ((mountable none).ready = true ∧ (mountable none).core.modes.mode = .run ∧ (mountable none).core.rm.pass = none ∧
      (mountable none).core.rm.swap = none ∧ (mountable none).core.rm.held = [heldRequest (mountOf 8)] ∧
      (mountable none).core.store.pending = none ∧ 2 < (mountable none).core.rm.slots.length ∧
      (mountOf 8).kind = .mount ∧ 8 = (mountOf 8).argA % 256 ∧ 8 ≤ (mountable none).core.roll.bays.length ∧
      (mountOf 8).argA / 256 % 4 = 0 ∧ (mountable none).core.roll.mounted = none ∧
      (mountable none).core.roll.changer = true ∧ (mountable none).core.roll.cassette = none ∧
      (mountable none).core.tr.st = .unthreaded ∧ (mountable none).core.link.st ≠ .down ∧
      (mountable none).core.link.queue.length < 8) ∧
    (broken.core.tr.st = .fault ∧ broken.core.pins.extStop = false ∧ broken.core.pins.filmPresent = true ∧
      broken.ready = true ∧ broken.core.rm.held = [heldRequest (request .find)] ∧ broken.core.roll.mounted = some 1 ∧
      (request .find).roll = broken.core.mountedRoll ∧ (broken.core.roll.bay 1).saveAddress = none ∧
      (broken.core.roll.bay 1).selection = 0) := by decide +kernel

theorem test_met_Cheapest_leaving :
    ((leaving none (Request.ofRoll .unmount 7)).ready = true ∧
      (leaving none (Request.ofRoll .unmount 7)).core.rm.held = [heldRequest (Request.ofRoll .unmount 7)] ∧
      (leaving none (Request.ofRoll .unmount 7)).core.roll.mounted = some 1 ∧
      (leaving none (Request.ofRoll .unmount 7)).core.tr.steady = true ∧
      (leaving none (Request.ofRoll .unmount 7)).core.unmoved = true ∧
      (leaving none (Request.ofRoll .unmount 7)).core.roll.boundBay 7 = some 1 ∧
      ((leaving none (Request.ofRoll .unmount 7)).core.roll.bay 1).saveAddress = none ∧
      ((leaving (some 0x4000) (Request.ofRoll .unmount 7)).core.roll.bay 1).saveAddress = some 0x4000) ∧
    ((leaving none (Request.ofRoll .find 9)).ready = true ∧ Kind.find.positional = true ∧
      (leaving none (Request.ofRoll .find 9)).core.roll.boundBay 9 = some 2 ∧
      ((leaving none (Request.ofRoll .find 9)).core.roll.bay 2).st = .bound ∧
      9 ≠ (leaving none (Request.ofRoll .find 9)).core.mountedRoll) := by decide +kernel

/-- A pass that waits for its Selection Map. -/
def mapPass (target : Nat) : Pass :=
  Pass.begin (.request .scan) 2 4 0 0 { request .scan with argA := 64, count := 4, target := .frame target } .seeking .mapRead

/-- That pass, with the map's read in flight. -/
def mapping (target : Nat) : State :=
  changed (mountedAt 0 (indexTo 1)) fun c =>
    (c.setPass (mapPass target)).setPort { c.port with boardFlight := [.selectionMap 64 1] }

/-- A map of zeros for a range of frames 1 to 4097 that are in the index. -/
def longMapping : State := changed (mapping 1) fun c =>
  (c.setPass { mapPass 1 with
    req := { (mapPass 1).req with endTarget := some (.frame 4097) }, size := none }).setIx
      { c.ix with entries := List.replicate 4097 (entryAt 0) }

theorem test_met_SelectionMap_range :
    longMapping.ready = true ∧ (mapPass 1).beyondEnd = false ∧ (mapPass 1).beyondFull = false ∧
    longMapping.core.ix.find (.frame 1) = some 1 ∧ longMapping.core.ix.findFrom 1 (.frame 4097) = some 4097 ∧
    4096 < 4097 - 1 + 1 ∧ longMapping.core.ix.findFrom 1 (.frame 4096) = some 4096 ∧ 4096 - 1 + 1 ≤ 4096 := by
  decide +kernel

theorem test_met_SelectionMapReadEnds :
    ((mapping 2).ready = true ∧ (mapping 2).core.port.boardFlight = [.selectionMap 64 1] ∧
      (mapping 2).core.rm.pass = some (mapPass 2) ∧ (mapPass 2).act = .mapRead ∧ (mapPass 2).ending = none ∧
      (mapPass 2).kind = .request .scan ∧ (mapPass 2).req.kind = .scan ∧ (mapPass 2).decided = false ∧
      (mapPass 2).waitStop = false ∧ (mapPass 2).waitProbe = false ∧ (mapping 2).core.cap.idle = true ∧
      (mapping 2).core.tr.steady = true ∧ (mapping 2).core.tr.waiting = none) ∧
    (2 ∈ mapCodes [2] 4 ∧ (mapping 2).core.port.setup.slotAlloc < 64 + 64 * 64 * 2 + 4) ∧
    (∀ k ∈ mapCodes [0] 4, k = 0) ∧
    (2 ∉ mapCodes [3] 4 ∧ (∃ k ∈ mapCodes [3] 4, k ≠ 0) ∧ (mapping 2).core.ix.find (.frame 2) = none ∧
      (mapping 2).core.ix.full = false ∧ (mapping 2).core.tr.p ≤ (mapping 2).core.ix.frontier) := by decide +kernel

/-! ## Hypotheses met: grants and Returns -/

/-- A Return of the request in slot 2 with its stamp left to write. -/
def lastWrite (notify endsPass : Bool) : Return :=
  { Return.plain 2 4 notify 0 .done 0 with endsPass := endsPass, sampled := some (0, 0), issued := 2 }

/-- A part with something for the Result Writer. -/
def returning (l : List ResultItem) (returnCount : Nat) : State :=
  changed (mountedAt 0 (indexTo 1)) fun c => c.setPort { c.port with
    results := l, setup := { Setup.reset with returnCount := returnCount, returnDelay := 10 } }

/-- An export that has written `n` times. -/
def exportAt (n : Nat) : ExportJob :=
  { transfer := .exportFor 2 4, address := 0x4000, stamp := 1, roll := 7, count := 1, frontier := 1000, drift := 0,
    profileId := 1, pitch := 0, issued := n }

/-- An image whose first write is to come. -/
def anImage : Image :=
  { ringSlot := 0, address := 0x100000, alloc := 65536, roll := 7, frame := 1, lead := 0, pStrobe := 0, step := 0, width := 64,
    height := 64, depth := 1, unsettled := false, fullDepth := false, stopMode := true, recapture := false, damaged := false,
    slot := 2, stamp := 4, source := none, entered := 0, ended := false, score := none, soft := none, imageStamp := 0,
    headDone := 0, rowsDone := 0, chunksDone := 0, closed := false }

/-- The EXPORT that `exportAt` writes. -/
def anExport : Export :=
  { slot := 2, stamp := 4, roll := 7, address := 0x4000, length := 60, notify := false, takenAt := 0 }

/-- An export in progress. -/
def exporting (n : Nat) (l : List Export) : State := changed (mountedAt 0 (indexTo 1)) fun c =>
  (c.setPorter { waiting := [], job := .writing (exportAt n) }).setRm { c.rm with exports := l }

/-- An image being written, with lines in the Line FIFO. -/
def writingImage (im : Image) (fifo : List (List Byte)) : State := onCap fun k => { k with filling := [im], fifo := fifo }

/-- An image at its first row, with `n` of the row's runs written. -/
def rowAt (n : Nat) : Image := { anImage with headDone := 2, entered := 1, chunksDone := n }

/-- An image whose rows are all written. -/
def endedImage (closed : Bool) : Image :=
  { anImage with headDone := 2, entered := 64, rowsDone := 64, ended := true, closed := closed }

/-- A part with a snapshot being written. -/
def snapping (n : Nat) : State := { asleep .standby .relaxed with front := writing n true }

theorem test_met_Grant_images :
    ((∃ x, (writingImage anImage []).arbitrate = some (.imageWriter, x)) ∧ (writingImage anImage []).ready = true ∧
      anImage.headDone = 0) ∧
    ((∃ x, (writingImage { anImage with headDone := 1 } []).arbitrate = some (.imageWriter, x)) ∧
      (writingImage { anImage with headDone := 1 } []).ready = true) ∧
    ((∃ x, (writingImage (rowAt 0) [List.replicate 257 0]).arbitrate = some (.imageWriter, x)) ∧
      (writingImage (rowAt 0) [List.replicate 257 0]).ready = true ∧ (rowAt 0).headDone = 2 ∧
      (rowAt 0).rowsDone < (rowAt 0).entered ∧ ((rowAt 0).chunksDone + 1) * 256 < (List.replicate 257 (0 : Byte)).length) ∧
    ((∃ x, (writingImage (rowAt 1) [List.replicate 257 0]).arbitrate = some (.imageWriter, x)) ∧
      (writingImage (rowAt 1) [List.replicate 257 0]).ready = true ∧
      (List.replicate 257 (0 : Byte)).length ≤ ((rowAt 1).chunksDone + 1) * 256) ∧
    ((∃ x, (writingImage (endedImage false) []).arbitrate = some (.imageWriter, x)) ∧
      (writingImage (endedImage false) []).ready = true ∧ (endedImage false).headDone = 2 ∧
      (endedImage false).rowsDone = (endedImage false).entered ∧ (endedImage false).ended = true) ∧
    ((∃ x, (writingImage (endedImage true) []).arbitrate = some (.imageWriter, x)) ∧
      (writingImage (endedImage true) []).ready = true ∧ (endedImage true).closed = true ∧
      (writingImage (endedImage true) []).core.rm.pass = none) ∧
    ((∃ x, (snapping 2).arbitrate = some (.statusWriter, x)) ∧ (snapping 2).ready = true ∧
      (snapping 2).front.snapMark = .writing ((0, []) :: (0, []) :: []) true none ∧
      (snapping 1).front.snapMark = .writing ((0, []) :: []) true none ∧
      ∃ x, (snapping 1).arbitrate = some (.statusWriter, x)) :=
  ⟨⟨⟨_, rfl⟩, by decide, by decide⟩, ⟨⟨_, rfl⟩, by decide⟩,
    ⟨⟨_, rfl⟩, by decide, by decide, by decide, by decide +kernel⟩, ⟨⟨_, rfl⟩, by decide, by decide +kernel⟩,
    ⟨⟨_, rfl⟩, by decide, by decide, by decide, by decide⟩, ⟨⟨_, rfl⟩, by decide, by decide, by decide⟩,
    ⟨⟨_, rfl⟩, by decide, by decide, by decide, ⟨_, rfl⟩⟩⟩

theorem test_met_GrantIssuesTransaction :
    ((inMode .run).core.modes.mode ≠ .held ∧ (inMode .run).arbitrate = none) ∧
    (∃ x, (onPort fun p => { p with boardQueue := [.slot 0 false] }).arbitrate = some (.boardReader, x)) ∧
    (∃ x, (onPort fun p => { p with boardQueue := [.profile 64] }).arbitrate = some (.boardReader, x)) ∧
    (onPort fun p => { p with boardQueue := [.slot 0 false] }).ready = true ∧
    (∃ x, (onCap fun k => { k with reservation := .queued }).arbitrate = some (.reservationReader, x)) ∧
    (onCap fun k => { k with reservation := .queued }).ready = true ∧
    (∃ x, (exporting 3 []).arbitrate = some (.indexPorter, x)) ∧ (exporting 3 []).ready = true ∧
    (exportAt 3).issued < (exportAt 3).count + 3 ∧
    (∃ x, (exporting 4 [anExport]).arbitrate = some (.indexPorter, x)) ∧ (exporting 4 [anExport]).ready = true ∧
    ((exportAt 4).issued = (exportAt 4).count + 3 ∧ (exporting 4 [anExport]).core.roll.seq = none ∧
      (exportAt 4).transfer = .exportFor anExport.slot anExport.stamp) ∧
    (∃ x, (returning [.taken 2 4] 1).arbitrate = some (.resultWriter, x)) ∧ (returning [.taken 2 4] 1).ready = true ∧
    (∃ x, (returning [.result { lastWrite true true with issued := 0 }] 1).arbitrate = some (.resultWriter, x)) ∧
    (∃ x, (returning [.result { lastWrite true true with issued := 1 }] 1).arbitrate = some (.resultWriter, x)) ∧
    (returning [.result { lastWrite true true with issued := 0 }] 1).ready = true ∧
    (returning [.result { lastWrite true true with issued := 1 }] 1).ready = true :=
  ⟨by decide, ⟨_, rfl⟩, ⟨_, rfl⟩, by decide, ⟨_, rfl⟩, by decide, ⟨_, rfl⟩, by decide, by decide, ⟨_, rfl⟩, by decide,
    by decide, ⟨_, rfl⟩, by decide, ⟨_, rfl⟩, ⟨_, rfl⟩, by decide, by decide⟩

/-- An escalated Image Writer with a write ready. -/
def escalated : State := on fun c =>
  (c.setCap { c.cap with filling := [anImage] }).setPort { c.port with escalated := true }

/-- An escalated Image Writer with no write ready, and a Taken Stamp to write. -/
def escalatedIdle : State := changed (returning [.taken 2 4] 1) fun c => c.setPort { c.port with escalated := true }

theorem test_met_RoundRobin_escalatedIdle :
    escalatedIdle.core.port.escalated = true ∧ escalatedIdle.offer .imageWriter = none ∧
    (∃ x, escalatedIdle.arbitrate = some (.resultWriter, x)) ∧
    ([Requester.imageWriter, .boardReader, .resultWriter, .indexPorter, .statusWriter, .reservationReader])[5]? =
      some escalatedIdle.core.port.last := ⟨by decide, by decide, ⟨_, rfl⟩, by decide⟩

theorem test_met_RoundRobinIsFair :
    (escalated.core.port.escalated = true ∧ ∃ x, escalated.offer .imageWriter = some x) ∧
    ((returning [.taken 2 4] 1).core.port.escalated = false ∧
      ∃ x, (returning [.taken 2 4] 1).arbitrate = some (.resultWriter, x)) ∧
    ([Requester.imageWriter, .boardReader, .resultWriter, .indexPorter, .statusWriter, .reservationReader])[5]? =
      some (returning [.taken 2 4] 1).core.port.last := ⟨⟨by decide, _, rfl⟩, ⟨by decide, _, rfl⟩, by decide⟩

theorem test_met_ReturnsEndRequestsAndNotify :
    ((returning [.result (lastWrite true true)] 1).ready = true ∧ (lastWrite true true).issued = 2 ∧
      (∃ x, (returning [.result (lastWrite true true)] 1).arbitrate = some (.resultWriter, x)) ∧
      2 < (returning [.result (lastWrite true true)] 1).core.rm.slots.length ∧
      (returning [.result (lastWrite true true)] 1).core.port.setup.returnCount ≤
        (returning [.result (lastWrite true true)] 1).core.rm.notifyCount + 1) ∧
    ((returning [.result (lastWrite true false)] 2).core.rm.notifyCount + 1 <
      (returning [.result (lastWrite true false)] 2).core.port.setup.returnCount) ∧
    (lastWrite false false).notify = false ∧
    (∃ s : State, s.ready = true ∧ s.core.rm.returnDelay = some 0) ∧
    ((inMode .run).ready = true ∧ (inMode .run).core.rm.returnDelay = none) :=
  ⟨⟨by decide, by decide, ⟨_, rfl⟩, by decide, by decide⟩, by decide, by decide,
    ⟨on fun c => c.setRm { c.rm with notifyCount := 1, returnDelay := some 0 }, by decide⟩, by decide⟩

/-! ## Hypotheses met: film -/

theorem test_met_CountMovesFilm :
    ((onTr fun t => { t with st := .move, p := 16000000 }).ready = true ∧
      (onTr fun t => { t with st := .move, p := 16000000 }).core.cap.armed = none ∧
      (onTr fun t => { t with st := .move, p := 16000000 }).core.cap.flyby = none ∧
      (onTr fun t => { t with st := .move, p := 16000000 }).core.tr.phase ≠ .settle) ∧
    ((onTr fun t => { t with st := .move, p := 15999998 }).core.tr.p < 16000000 ∧
      ((onTr fun t => { t with st := .move, p := 15999998 }).core.tr.p + 1) % 4 ≠ 0) ∧
    ((onTr fun t => { t with st := .hold }).core.tr.st ≠ .move ∧ (onTr fun t => { t with st := .hold }).core.tr.st ≠ .threading) ∧
    ((onTr fun t => { t with st := .move, p := -400000 }).ready = true ∧
      (onTr fun t => { t with st := .move, p := -400000 }).core.ix.motion = none) ∧
    (({ pulses := 0, counts := 0, dir := none } : Window).dir ≠ some .reverse) := by decide

theorem test_met_DetectorConfirmsEdges :
    2 ≤ 2 ∧ 0 + 1 < 2 ∧ 1 + 1 = 2 ∧ 2 ≤ 64 ∧ 62 + 1 < 64 ∧ 63 + 1 = 64 ∧ true = decide (DetState.gap = .gap) ∧
      false = decide (DetState.resync = .gap) := by decide

/-- The next sample of a film at its speed comes at `pos`; the index has one entry, with its frontier at 1,000. -/
def sampledAt (pos : Int) (f : IndexUnit → IndexUnit) : State := changed (mountedAt (pos - 1) (indexTo 1)) fun c =>
  (c.setTr { c.tr with
    st := .move, plan := some (runPlan .forward 600 none false), phase := .cruise, vRef := 600000
    supply := { c.tr.supply with radius := some 30000, length := 6000000 } }).setIx (f { c.ix with
      refImage := some 0, refBlip := some 0, refEdge := some 0 })

/-- A motion in EXTEND. -/
def extendMotion : Motion := { Motion.begin 500 with extending := true, leftResync := some 504 }

/-- The unit in EXTEND with a detector. -/
def extended (d : DetState) (run : Option (Int × Nat)) (x : IndexUnit) : IndexUnit :=
  { x with motion := some extendMotion, unit := .extend, detector := { st := d, run := run } }

/-- What every clause on a sample asks for. -/
def sampleMet (extend : Bool) (pos : Int) (s : State) : Bool :=
  s.ready && s.core.sampling && s.core.indexesOn && decide (pos = s.core.tr.p + 1)
    && (if extend then s.core.ix.inExtend pos else s.core.ix.inVerify pos)

/-- A frame opened at 2,000, with the pulse it holds. -/
def frameAt (h : Option HeldPulse) (trail : Option Int) : OpenFrame :=
  { lead := 2000, merged := false, gapBefore := false, blip := h, trail := trail }

theorem test_met_Detector_leading :
    (sampleMet true 1504 (sampledAt 1504 (extended .gap (some (1500, 1)))) = true ∧
      (sampledAt 1504 (extended .gap (some (1500, 1)))).core.lanesQuiet 0 0 = true ∧
      1 + 1 = prof.confirmCount ∧ differs prof.edgeThreshold (some 0) 1023 = true ∧
      (entryAt 0).lead + (prof.minPitch : Int) ≤ 1500 ∧ 1499 < (entryAt 0).lead + (prof.minPitch : Int) ∧
      sampleMet true 1504 (sampledAt 1504 (extended .gap (some (1499, 1)))) = true) ∧
    ((sampledAt 2000 fun x => { x with begins := true, detector := { st := .frame, run := none } }).ready = true ∧
      (sampledAt 2000 fun x => { x with begins := true, detector := { st := .frame, run := none } }).core.sampling = true ∧
      (sampledAt 2000 fun x => { x with begins := true, detector := { st := .frame, run := none } }).core.indexesOn = true ∧
      (sampledAt 2000 fun x => { x with begins := true, detector := { st := .frame, run := none } }).core.ix.motion = none ∧
      (sampledAt 2000 fun x => { x with begins := true, detector := { st := .frame, run := none } }).core.ix.waitingFrame =
        none) := by decide +kernel

theorem test_met_Detector_trailing :
    (sampleMet true 3004 (sampledAt 3004 fun x =>
        { extended .frame (some (3000, 1)) x with openFrame := some (frameAt none none) }) = true ∧
      (sampledAt 3004 fun x =>
        { extended .frame (some (3000, 1)) x with openFrame := some (frameAt none none) }).core.lanesQuiet 0 0 = true ∧
      differs prof.edgeThreshold (some 0) 99 = false ∧ (frameAt none none).merged = false ∧ (frameAt none none).blip = none) ∧
    (sampleMet true 3004 (sampledAt 3004 fun x => { extended .frame (some (3000, 1)) x with
        entries := List.replicate 16383 (entryAt 0), openFrame := some (frameAt none none) }) = true ∧
      (List.replicate 16383 (entryAt 0)).length + 1 = 16384) ∧
    sampleMet true 3004 (sampledAt 3004 fun x => { extended .frame (some (3000, 1)) x with
        openFrame := some { frameAt none none with merged := true } }) = true ∧
    ({ frameAt none none with merged := true } : OpenFrame).merged = true ∧
    (sampleMet true 3004 (sampledAt 3004 fun x => { extended .frame (some (3000, 1)) x with
        openFrame := some { frameAt (some { start := 3004, length := 4, cls := some .small }) none with merged := true } }) =
      true) :=
  ⟨by decide +kernel, ⟨by decide +kernel, by rw [List.length_replicate]⟩, by decide +kernel, rfl, by decide +kernel⟩

theorem test_met_Detector_predicts :
    (sampleMet true 3016 (sampledAt 3016 fun x => { extended .gap none x with pitch := some 3000, predictedRun := 2 }) = true ∧
      (sampledAt 3016 fun x =>
        { extended .gap none x with pitch := some 3000, predictedRun := 2 }).core.ix.entries.getLast? = some (entryAt 0) ∧
      (sampledAt 3016 fun x =>
        { extended .gap none x with pitch := some 3000, predictedRun := 2 }).core.lanesQuiet 0 0 = true ∧
      extendMotion.deadlineDone = false ∧ (entryAt 0).lead + 3000 + 8 * (prof.confirmCount : Int) ≤ 3016) ∧
    sampleMet true 3016 (sampledAt 3016 fun x => { extended .gap none x with pitch := some 3000, predictedRun := 3 }) =
      true := by decide +kernel

/-- A frame at 2,000 that waits for its pulse, which has come to a length at `pos`. -/
def waitingFor (length : Nat) (x : IndexUnit) : IndexUnit :=
  { extended .gap none x with
    blipPulse := some { start := 2500, length := length }
    waitingFrame := some (frameAt (some { start := 2500, length := length, cls := none }) (some 2504)) }

/-- A mark on the Edge Lane that has come to a length. -/
def splicing (length : Nat) (x : IndexUnit) : IndexUnit :=
  { extended .gap none x with
    edgePulse := some { start := 2500, length := length }, motion := some { extendMotion with deadlineDone := true } }

theorem test_met_Detector_lanes :
    ((sampleMet true 2600 (sampledAt 2600 (waitingFor 4)) = true ∧
      (sampledAt 2600 (waitingFor 4)).core.ix.edgePulse = none ∧ differs prof.edgeThreshold (some 0) 0 = false) ∧
      (entryAt 0).batch < 65535 ∧ (entryAt 0).document < 65535 ∧ (entryAt 0).page < 65535 ∧ prof.smallMax ≤ 4 ∧
      4 < prof.mediumMax ∧ prof.mediumMax ≤ 8) ∧
    (sampleMet true 2600 (sampledAt 2600 (splicing 40)) = true ∧ (sampledAt 2600 (splicing 40)).core.ix.blipPulse = none ∧
      prof.spliceMin ≤ 40 ∧ 44 ≤ prof.spliceMax ∧ 36 < prof.spliceMin ∧ prof.spliceMax < 48) := by decide +kernel

/-- A run at its speed, at P, with 50,001 counts on the supply reel. -/
def cruising (d : Dir) (p : Int) : State := onTr fun t =>
  { t with st := .move, plan := some (runPlan d 600 none false), phase := .cruise, vRef := 600000, dir := d, p := p
           supply := { t.supply with radius := some 30000, length := 50001 } }

theorem test_met_Count_limits :
    ((cruising .forward 0).ready = true ∧ (cruising .forward 0).core.tr.st = .move ∧
      (cruising .forward 0).core.tr.plan = some (runPlan .forward 600 none false) ∧
      (cruising .forward 0).core.tr.dir = .forward ∧ (cruising .forward 0).core.tr.phase = .cruise ∧
      (cruising .forward 0).core.cap.armed = none ∧ (cruising .forward 0).core.ix.motion = none) ∧
    ((cruising .reverse (-49999)).core.tr.dir = .reverse ∧ (cruising .reverse (-49999)).core.tr.phase = .cruise) ∧
    (after (.meteringCount .forward 0 0 0) (cruising .forward 0) fun t =>
      decide (t.core.tr.lRem = 50000 ∧ t.core.tr.phase = .brake .filmEnd)) = true ∧
    (after (.meteringCount .forward 0 0 0) (changed (cruising .forward 0) fun c =>
        c.setTr { c.tr with supply := { c.tr.supply with length := 50002 } }) fun t =>
      decide (t.core.tr.lRem = 50001 ∧ t.core.tr.phase = .cruise)) = true ∧
    (after (.meteringCount .reverse 0 0 0) (cruising .reverse (-49999)) fun t =>
      decide (t.core.tr.p = -50000 ∧ t.core.tr.phase = .brake .filmEnd)) = true := by decide +kernel

/-- The compare armed for frame 1. -/
def armedFor (compare target : Int) : Armed := { frame := 1, fullDepth := false, target := target, compare := compare }

/-- The pass of a flyby FIND at its one frame. -/
def walkPass : Pass :=
  { Pass.begin (.request .find) 2 4 0 0 { request .find with flyby := true } .capturing (.walking 0) with
    start := some 1, size := some 1, plan := [{ code := 1, st := .waiting }] }

/-- A flyby walk at P with the compare of its last frame armed. -/
def walking (p compare target : Int) : State := changed (mountedAt p (request .find)) fun c =>
  (((c.setTr { c.tr with
    st := .move, plan := some (runPlan .forward 600 none false), phase := .cruise, vRef := 600000
    supply := { c.tr.supply with radius := some 30000, length := 6000000 } }).setCap { c.cap with
      armed := some (armedFor compare target), flyby := some { frame := 1, fullDepth := false }, inHand := some 1 })).setPass
        walkPass

/-- That walk, its last frame taken and its image whole but for its tail stamp. -/
def reporting (damaged : Bool) : State := changed (walking 10 12 14) fun c =>
  (c.setCap { c.cap with
    armed := none, flyby := none, inHand := none, filling := [{ endedImage true with damaged := damaged, stopMode := false }] }).setPass
    { walkPass with act := .walkTail 1, plan := [{ code := 1, st := .fired }], captured := true }

theorem test_met_Grant_walkEnds :
    (∃ x, (reporting true).arbitrate = some (.imageWriter, x)) ∧ (reporting true).ready = true ∧
    (reporting false).ready = true ∧ (endedImage true).closed = true ∧ (endedImage true).frame = 1 + 0 ∧
    (reporting true).core.tr.st = .move ∧ 0 < (reporting true).core.tr.vRef ∧ (reporting true).core.tr.phase ≠ .settle ∧
    walkPass.start = some 1 ∧ walkPass.size = some (0 + 1) ∧ walkPass.retryList.length < 256 :=
  ⟨⟨_, rfl⟩, by decide, by decide, by decide, by decide, by decide, by decide, by decide, by decide, by decide, by decide⟩

/-- R159, R162: the walk's last frame reported DAMAGED stops the film and joins the Retry List. -/
theorem test_walk_ends_at_report :
    after (.meteringCount .forward 0 0 0) (walking 11 12 14) (fun t =>
      decide (t.core.rm.pass.map (·.act) = some (.walkTail 1) ∧ t.core.tr.phase ≠ .brake .stop)) = true ∧
    after .memoryPortGrant (reporting true) (fun t =>
      decide (t.core.rm.pass.map (fun q => (q.act, q.retryList)) = some (.walkStop, [1]) ∧
        t.core.tr.phase = .brake .stop)) = true := by decide +kernel

/-- A flyby walk at frame 1 of four, with two entries in the index. -/
def walkingOn (p : Int) : State := changed (walking p 12 14) fun c =>
  (c.setIx { c.ix with entries := [entryAt 0, entryAt 5000] }).setPass
    { walkPass with given := true, size := some 4, req := { walkPass.req with count := 4, retry := 1 } }

/-- R159: at FILM_END every frame whose entry is in the index was given, and is on the Retry List. -/
theorem test_given_frames_are_retried :
    ((walkingOn 10).core.missGiven 4097 { walkPass with given := true, size := some 4 } 0).retryList = [1, 2] := by
  decide +kernel

/-- R159, R161: at the Full report a flyby run whose frames are all in the index goes on to its stop-mode frame; one that
reaches beyond the index ends. -/
theorem test_full_ends_the_run :
    (let c := (walkingOn 10).core
     let q (codes : List Nat) : Pass := { walkPass with given := true, size := some 4, codes := some codes }
     decide (((c.setPass (q [1, 3, 1, 1])).passFull.rm.pass.map (·.act)) = some (.walking 0) ∧
       ((c.setPass (q [1, 1, 1, 3])).passFull.rm.pass.map fun p => (p.act, p.retryList)) = some (.walkStop, [1, 2]))) = true := by
  decide +kernel

/-- R164: with the film ahead of the frontier, a walk that STOP is ending goes back to F - A first. -/
theorem test_walk_stop_goes_back :
    (let c := ((walkingOn 9000).core.setIx { (walkingOn 9000).core.ix with frontier := 8000 }).setPass
        { walkPass with act := .walkStop, captured := true }
     let d := c.passTruncated 3
     decide (d.rm.pass.map (·.act) = some (.backToFrontier 4096) ∧
       d.tr.plan.map (·.order) = some (.run .reverse c.prof.shuttleSpeed (some (8000 - c.prof.approach)) false))) = true := by
  decide +kernel

/-- R77: a POSITION that replaces a braking with its staging point far ahead runs at speed again, in either direction. -/
theorem test_full_approach_accelerates :
    (((walking 10 12 14).core.setTr { (walking 10 12 14).core.tr with phase := .brake .stop }).replaceOrder
      (.position 9000000)).tr.phase = .accel ∧
    (((walking 9000000 12 14).core.setTr { (walking 9000000 12 14).core.tr with
      phase := .brake .filmEnd, dir := .reverse }).replaceOrder (.position 100000)).tr.phase = .accel := by decide +kernel

theorem test_met_Count_compare :
    ((walking 10 12 14).ready = true ∧ (walking 10 12 14).core.cap.armed = some (armedFor 12 14) ∧
      (walking 10 12 14).core.tr.p < 16000000 ∧ ((walking 10 12 14).core.tr.p + 1) % 4 ≠ 0 ∧
      (walking 10 12 14).core.tr.st = .move ∧ (walking 10 12 14).core.tr.phase ≠ .settle ∧
      0 < (walking 10 12 14).core.tr.vRef ∧ (walking 10 12 14).core.rm.pass = some walkPass ∧ walkPass.ending = none ∧
      walkPass.act = .walking 0 ∧ walkPass.start = some 1 ∧ walkPass.size = some (0 + 1) ∧
      walkPass.retryList.length < 256) ∧
    ((10 : Int) + 1 < 12 ∧ (10 : Int) + 1 ≤ 11 ∧ (11 : Int) ≤ 10 + 1 ∧ (10 : Int) < 10 + 1) := by decide +kernel

/-- A pass whose film settles at 21. -/
def arrivePass (k : Kind) : Pass :=
  { Pass.begin (.request k) 2 4 0 0 (request k) .seeking (.positioning 0) with start := some 1, size := some 1, target := 21 }

/-- That SETTLE at P = 0, for a stop-mode capture or a PROBE, with the Focus Map's first band. -/
def arriving (k : Kind) (band : Option BandEntry) : State := changed (mountedAt 0 (request k)) fun c =>
  (((c.setTr { c.tr with
    st := .move, phase := .settle, settleCount := some 0
    plan := some { order := .position 21, staging := 0, leg := .creep, endPoint := some 21, retried := false } }).setPass
      (arrivePass k)).setCap { c.cap with
        stop := if k = .probe then none
          else some { frame := 1, target := 21, fullDepth := false, recapture := false, arrived := false } }).setFocus
            { c.focus with map := setAt c.focus.map 0 band }

theorem test_met_Count_settle :
    ((arriving .find none).ready = true ∧ (arriving .find none).core.tr.st = .move ∧
      (arriving .find none).core.tr.phase = .settle ∧ (arriving .find none).core.unmoved = true ∧
      (arriving .find none).core.cap.flyby = none ∧ (arriving .find none).core.focus.probe = none ∧
      ((arriving .find none).core.tr.p + 1) % 4 ≠ 0 ∧
      |(arriving .find none).core.tr.p + 1 - 21| ≤ (runCore.prof.stopTolerance : Int) ∧
      (arriving .find none).core.rm.pass = some (arrivePass .find) ∧ (arrivePass .find).films = true ∧
      (arrivePass .find).ending = none ∧ (arrivePass .find).act = .positioning 0 ∧ (arrivePass .find).target = 21 ∧
      (arriving .find none).core.cap.stop ≠ none ∧ (arriving .find none).core.cap.inHand = none) ∧
    ((arriving .probe none).ready = true ∧ (arriving .probe none).core.rm.pass = some (arrivePass .probe) ∧
      (arrivePass .probe).films = true ∧ (arrivePass .probe).req.kind = .probe ∧
      (arriving .probe none).core.cap.stop = none ∧ (arriving .probe none).core.focus.map[0]? = some none ∧
      focusBand runCore.prof (0 + 1 - (runCore.prof.gateOffset : Int)) = 0 ∧
      (arriving .probe (some { best := 100, reference := 9, probes := 1 })).core.focus.map[0]? =
        some (some { best := 100, reference := 9, probes := 1 }) ∧
      (arriving .probe (some { best := 100, reference := 9, probes := 2 })).core.focus.map[0]? =
        some (some { best := 100, reference := 9, probes := 2 })) := by decide +kernel

/-- A supply reel with a window of `n` pulses, driven. -/
def winding (n : Nat) : State := onTr fun t =>
  { t with st := .move, geometry := reelType [] 1
           supply := { Reel.reset with window := some { pulses := n, counts := 100, dir := some .forward }, stall := some 0 } }

/-- A run at its speed whose supply reel is at its window's last pulse, with a hub of 16,000. -/
def lastPulse (counts : Nat) : State := changed (cruising .forward 0) fun c => c.setTr { c.tr with
  geometry := reelType [] 1
  supply := { c.tr.supply with window := some { pulses := 63, counts := counts, dir := some .forward } } }

/-- An unthread with film on the take-up reel. -/
def unwinding (n : Nat) : State := onTr fun t =>
  { t with st := .unthreading, takeUp := { t.takeUp with radius := some 30000, length := n } }

/-- A take-up reel with a window of `n` pulses, driven. -/
def windingUp (n : Nat) : State := onTr fun t =>
  { t with st := .move, geometry := reelType [] 1
           takeUp := { Reel.reset with window := some { pulses := n, counts := 100, dir := some .forward }, stall := some 0 } }

theorem test_met_Tachometer_takeUp :
    (windingUp 62).ready = true ∧ (windingUp 62).core.tr.timerRuns = true ∧
    (windingUp 62).core.tr.takeUp.window = some { pulses := 62, counts := 100, dir := some .forward } ∧
    (windingUp 63).core.tr.takeUp.window = some { pulses := 63, counts := 100, dir := some .forward } ∧
    (after (.tachometerPulse .takeUp) (windingUp 63) fun t =>
      decide (t.core.tr.takeUp.radius = some 16000 ∧ t.core.tr.supply.radius = none)) = true := by decide +kernel

theorem test_met_TachometerWindowMeasuresRadius :
    ((winding 62).ready = true ∧ (winding 62).core.tr.timerRuns = true ∧ (winding 62).core.tr.supply.stall ≠ none) ∧
    ((winding 63).core.tr.supply.window = some { pulses := 63, counts := 100, dir := some .forward } ∧
      (winding 63).core.tr.geometry = some { hub := 16000, flange := 44000, thickness := 100, nominal := 6000000 } ∧
      16000 ≤ 44000) ∧
    ((onTr fun t => { t with st := .move }).core.tr.supply.window = none ∧
      (onTr fun t => { t with st := .move }).core.tr.supply.stall = none) ∧
    ((onTr fun t => { t with st := .hold }).ready = true ∧ (onTr fun t => { t with st := .hold }).core.tr.timerRuns = false) ∧
    ((lastPulse 20107).ready = true ∧ (lastPulse 20107).core.tr.timerRuns = true ∧
      (lastPulse 20107).core.tr.dir = .forward ∧ (lastPulse 20107).core.tr.phase = .cruise ∧
      (after (.tachometerPulse .supply) (lastPulse 20107) fun t =>
        decide (t.core.tr.supply.radius = some 16001 ∧ t.core.tr.phase = .brake .filmEnd)) = true ∧
      (after (.tachometerPulse .supply) (lastPulse 37699) fun t =>
        decide (t.core.tr.supply.radius = some 30000 ∧ t.core.tr.phase = .cruise)) = true) ∧
    ((unwinding 399999).ready = true ∧ (unwinding 399999).core.tr.timerRuns = true ∧
      (unwinding 399999).core.tr.lTu = some 399999 ∧ (unwinding 400000).core.tr.lTu = some 400000) := by decide +kernel

/-- A run forward, in a phase, at a reference. -/
def running (ph : Phase) (v : Nat) : State := onTr fun t =>
  { t with st := .move, plan := some (runPlan .forward 600 none false), phase := ph, vRef := v
           supply := { t.supply with radius := some 30000, length := 6000000 } }

/-- A FIND that is ending and waits for its film to stop. -/
def stoppingPass : Pass :=
  { Pass.begin (.request .find) 2 4 0 0 (request .find) .ending .walkStop with ending := some .walkDone, waitStop := true }

theorem test_met_ProfileTimerRampsReference :
    ((onTr fun t => { t with st := .threading, vRef := 49999 }).ready = true ∧
      (onTr fun t => { t with st := .threading, vRef := 49999 }).core.tr.st = .threading ∧
      (onTr fun t => { t with st := .threading, vRef := 49999 }).core.tr.resetBraking = false ∧
      (onTr fun t => { t with st := .threading, vRef := 49999 }).core.tr.threadStep = .feed) ∧
    ((running .accel 0).ready = true ∧ (running .accel 0).core.tr.st = .move ∧
      (running .accel 0).core.tr.plan = some (runPlan .forward 600 none false) ∧ (running .accel 0).core.tr.phase = .accel ∧
      (running .accel 0).core.limitReached (runPlan .forward 600 none false) = false ∧
      (running .accel 0).core.brakeTest (runPlan .forward 600 none false) = none ∧ (running .accel 0).core.cap.armed = none ∧
      (running .accel 0).core.tr.vRef + (running .accel 0).core.prof.accel < (running .accel 0).core.bound * 1000) ∧
    ((running .accel 596000).core.tr.vRef ≤ (running .accel 596000).core.bound * 1000 ∧
      (running .accel 596000).core.bound * 1000 ≤
        (running .accel 596000).core.tr.vRef + (running .accel 596000).core.prof.accel) ∧
    ((running (.brake .stop) 4000).ready = true ∧ (running (.brake .stop) 4000).core.tr.phase = .brake .stop ∧
      (running (.brake .stop) 4000).core.tr.vRef ≤ (running (.brake .stop) 4000).core.prof.accel ∧
      (running (.brake .stop) 4000).core.unmoved = true ∧ (running (.brake .stop) 4000).core.rm.pass = none ∧
      (running (.brake .stop) 4001).core.prof.accel < (running (.brake .stop) 4001).core.tr.vRef) ∧
    ((changed (running (.brake .stop) 4000) fun c => c.setPass stoppingPass).ready = true ∧ stoppingPass.films = true ∧
      stoppingPass.ending ≠ none) ∧
    ((onTr fun t => { t with st := .hold }).ready = true ∧ (onTr fun t => { t with st := .hold }).core.tr.timerRuns = false) := by
  decide

/-- A flyby walk that accelerates, with its compare armed. -/
def armedRun (v : Nat) : State := changed (walking 10 12 14) fun c => c.setTr { c.tr with phase := .accel, vRef := v }

theorem test_met_ProfileTimer_armed :
    (armedRun 596000).ready = true ∧ (armedRun 596000).core.tr.st = .move ∧
    (armedRun 596000).core.tr.plan = some (runPlan .forward 600 none false) ∧ (armedRun 596000).core.tr.phase = .accel ∧
    (armedRun 596000).core.limitReached (runPlan .forward 600 none false) = false ∧
    (armedRun 596000).core.brakeTest (runPlan .forward 600 none false) = none ∧
    (armedRun 596000).core.cap.armed = some (armedFor 12 14) ∧ (armedRun 596000).core.ix.entry 1 = some (entryAt 0) ∧
    (armedRun 596000).core.tr.vRef ≤ (armedRun 596000).core.bound * 1000 ∧
    (10500 : Int) = (entryAt 0).lead + ((entryAt 0).length / 2 : Nat) + (prof.gateOffset : Int) + (armedRun 596000).core.ix.drift ∧
    (armedRun 596000).core.tr.p < max (10500 - (prof.gateOffset : Int))
      (10500 - ((2 * (600 * prof.strobeLatency) + 5000) / 10000 : Nat)) ∧
    (after .profileTimerExpiry (armedRun 596000) fun t =>
      decide (t.core.cap.armed = some (armedFor 10500 10500) ∧ t.core.tr.vRef = 600000)) = true := by decide +kernel

/-- A SETTLE at P = 0 toward a target, tried once before or not. -/
def settling (target : Int) (retried : Bool) : State := onTr fun t =>
  { t with st := .move, phase := .settle, settleCount := some 0
           plan := some { order := .position target, staging := 0, leg := .creep, endPoint := some target, retried := retried } }

/-- The second SETTLE of a FIND that has not come to its target at 21, with slots being filled. -/
def missing (l : List Image) : State := changed (arriving .find none) fun c =>
  (c.setTr { c.tr with plan := c.tr.plan.map fun pl => { pl with retried := true } }).setCap { c.cap with filling := l }

theorem test_met_SettleTimeoutRetriesOnce :
    ((settling (-50) false).ready = true ∧ (settling (-50) false).core.tr.st = .move ∧
      (settling (-50) false).core.tr.phase = .settle ∧ (settling (-50) false).core.tr.settleCount = some 0 ∧
      (settling (-50) false).core.unmoved = true) ∧
    ((missing []).ready = true ∧ (missing []).core.unmoved = true ∧ (missing []).core.tr.st = .move ∧
      (missing []).core.tr.phase = .settle ∧ (missing []).core.tr.settleCount = some 0 ∧
      (missing []).core.tr.plan.map (·.retried) = some true ∧ (missing []).core.rm.pass = some (arrivePass .find) ∧
      (arrivePass .find).films = true ∧ (arrivePass .find).ending = none ∧ (missing []).core.tr.waiting = none ∧
      (arrivePass .find).decided = false ∧ (arrivePass .find).waitStop = false ∧ (arrivePass .find).waitProbe = false ∧
      (missing []).core.cap.filling = []) ∧
    ((inMode .run).ready = true ∧ (inMode .run).core.tr.settleCount = none) ∧
    (0 ≤ (8388608 : Int) ∧ missInfo 8388608 = 8388607 ∧ missInfo 0 = 0 ∧ missInfo (-1) = 16777215 ∧
      missInfo (-8388608) = 8388609) := by decide +kernel

/-- A regulator that runs, with tension established or not. -/
def regulated (established : Bool) : State := onTr fun t => { t with st := .hold, established := established }

/-- A regulator whose supply dancer has been out on a side since 1, with its correction clamped and a sum of -300; the
take-up dancer is out on the low side. -/
def outOf (established high : Bool) (since : Nat) : State := onTr fun t =>
  { t with
    st := .hold, established := established
    supplyDancer := { Dancer.reset with out := some (high, since), clamped := true, sum := -300 }
    takeUpDancer := { Dancer.reset with out := some (false, since) } }

/-- A transport in its relax ramp, with an order that waits or none. -/
def relaxing (o : Option MoveOrder) : State := onTr fun t => { t with st := .hold, relaxRamp := some 0, waiting := o }

theorem test_met_RegulatorPeriodSamplesDancers :
    ((regulated false).ready = true ∧ (regulated false).core.tr.regulating = true ∧
      (regulated false).core.tr.watching = false) ∧
    ((regulated true).core.tr.watching = true ∧ (15 < 16 ∧ 4079 < 4080) ∧
      (regulated true).core.prof.tensionSetpoint + (regulated true).core.prof.tensionBand < 2249 ∧
      (regulated true).core.tr.supplyDancer.out = none ∧ (regulated true).core.tr.supplyDancer.clamped = false) ∧
    (((1847 : Nat) : Int) < ((regulated true).core.prof.tensionSetpoint : Int) - (regulated true).core.prof.tensionBand ∧
      ((regulated true).core.prof.tensionSetpoint : Int) - (regulated true).core.prof.tensionBand ≤ (1848 : Nat) ∧
      2248 ≤ (regulated true).core.prof.tensionSetpoint + (regulated true).core.prof.tensionBand) ∧
    ((outOf true true 1).core.tr.supplyDancer.out = some (true, 1) ∧ (outOf true false 1).core.tr.takeUpDancer.out = some (false, 1) ∧
      (outOf true true 1).ready = true ∧ (outOf true true 1).core.tr.watching = true ∧
      (outOf true true 1).core.tr.supplyDancer.clamped = true ∧ (regulated true).core.tr.relaxRamp = none ∧
      (relaxing none).ready = true ∧ (relaxing none).core.tr.regulating = true ∧ (relaxing none).core.tr.relaxRamp ≠ none) ∧
    ((inMode .run).ready = true ∧ (inMode .run).core.tr.regulating = false) := by decide

/-- R58: the count starts on the high side, goes on, is cleared in band and starts anew on the low side; and R57: a sum
that grows while the correction is clamped stays. -/
theorem test_regulator_outOfBand :
    after (.tensionRegulatorPeriod 2249 1847) (regulated true) (fun t =>
      decide (t.core.tr.supplyDancer.out = some (true, 0) ∧ t.core.tr.takeUpDancer.out = some (false, 0))) = true ∧
    after (.tensionRegulatorPeriod 2249 2249) (outOf true true 1) (fun t =>
      decide (t.core.tr.supplyDancer.out = some (true, 1) ∧ t.core.tr.supplyDancer.sum = -300)) = true ∧
    after (.tensionRegulatorPeriod 1847 1848) (outOf true true 1) (fun t =>
      decide (t.core.tr.supplyDancer.out = some (false, 0) ∧ t.core.tr.takeUpDancer.out = none ∧
        t.core.tr.supplyDancer.sum = -99)) = true := by decide

/-- A wake with tension in band, and what waits for it. -/
def waking (o : Option MoveOrder) (unthread : Bool) : State := onTr fun t =>
  { t with
    st := .hold, tensioning := true, inBand := some 0, wakeCount := some 0, wakeWaits := true, waiting := o
    waitingUnthread := unthread }

/-- A recovery's tension test with film on the take-up reel. -/
def testing (n : Nat) : State := onTr fun t =>
  { t with
    st := .unreferenced, tensionTest := true, inBand := some 0, testCount := some 0
    takeUp := { t.takeUp with radius := some 30000, length := n } }

theorem test_met_TensionEstablishedGoesOn :
    (∃ s : State, s.ready = true ∧ s.core.tr.established = false ∧ s.core.tr.inBand = some 0 ∧ s.core.tr.st = .threading ∧
      s.core.tr.threadStep = .feed ∧ s.core.tr.resetBraking = false) ∧
    ((waking none false).ready = true ∧ (waking none false).core.tr.established = false ∧
      (waking none false).core.tr.inBand = some 0 ∧ (waking none false).core.tr.st = .hold ∧
      (waking none false).core.tr.tensioning = true ∧ (waking none false).core.tr.waiting = none ∧
      (waking none false).core.tr.waitingUnthread = false) ∧
    ((waking (some (.run .forward 600 none false)) false).ready = true ∧
      (waking (some (.run .forward 600 none false)) false).core.tr.waiting = some (.run .forward 600 none false) ∧
      (waking (some (.run .forward 600 none false)) false).core.tr.waitingUnthread = false ∧
      (waking (some (.run .forward 600 none false)) false).core.unmoved = true) ∧
    ((waking none true).ready = true ∧ (waking none true).core.tr.waitingUnthread = true ∧
      (waking none true).core.unmoved = true) ∧
    ((testing 399999).ready = true ∧ (testing 399999).core.tr.established = false ∧ (testing 399999).core.tr.inBand = some 0 ∧
      (testing 399999).core.tr.st = .unreferenced ∧ (testing 399999).core.tr.tensionTest = true ∧
      (testing 399999).core.unmoved = true ∧ (testing 399999).core.tr.lTu = some 399999 ∧
      (testing 400000).core.tr.lTu = some 400000) :=
  ⟨⟨onTr fun t => { t with st := .threading, inBand := some 0 }, by decide⟩, by decide, by decide, by decide, by decide⟩

/-- A part that moves film, with every count of a safety event running; its supply dancer is out of band. -/
def risky (high : Bool) (st : TState) : State := on fun c =>
  (c.setTr { c.tr with
    st := st, established := true, wakeCount := some 0, testCount := some 0, feedCount := some 0
    supplyDancer := { Dancer.reset with out := some (high, 0) }
    takeUp := { Reel.reset with stall := some 0 } }).setPins { c.pins with filmPresent := true, dancerTakeUp := 2048 }

/-- An unthread whose travel has passed its limit. -/
def farUnthread : State := onTr fun t => { t with st := .unthreading, travel := 400001 }

/-- A wake with the dancers at two codes. -/
def dancers (a b : Nat) : State :=
  changed (risky true .hold) fun c => c.setPins { c.pins with dancerSupply := a, dancerTakeUp := b }

theorem test_met_SafetyEventsHoldTheFilm :
    ((risky true .move).ready = true ∧ (risky true .move).core.unmoved = true ∧ (risky true .move).core.focus.probe = none) ∧
    (risky true .move).core.tr.supplyDancer.out = some (true, 0) ∧
    (risky false .move).core.tr.supplyDancer.out = some (false, 0) ∧
    ((risky true .move).core.tr.takeUp.stall ≠ none ∧ (risky true .move).core.tr.timerRuns = true ∧
      (risky true .move).core.tr.unthreadEnding = false) ∧
    ((risky true .move).core.pins.filmPresent = true ∧ (risky true .relaxed).core.tr.st = .relaxed) ∧
    ((risky true .move).core.tr.watching = true ∧ (15 ≤ 15 ∧ 4080 ≤ 4080 ∧ 15 < 16 ∧ 4079 < 4080)) ∧
    ((risky true .move).core.pins.extStop = false ∧ (risky true .relaxed).core.tr.stopSensitive = true) ∧
    ((risky true .hold).core.tr.wakeCount ≠ none ∧ (risky true .unreferenced).core.tr.testCount ≠ none ∧
      bandOf (risky true .hold).core.prof (risky true .hold).core.pins.dancerSupply ≠ .inside ∧
      bandOf (risky true .hold).core.prof (risky true .hold).core.pins.dancerTakeUp = .inside) ∧
    (bandOf prof (dancers 2048 0).core.pins.dancerSupply = .inside ∧ bandOf prof (dancers 2048 0).core.pins.dancerTakeUp ≠ .inside ∧
      bandOf prof (dancers 2048 2048).core.pins.dancerTakeUp = .inside ∧
      bandOf prof (dancers 0 0).core.pins.dancerSupply ≠ .inside ∧ (dancers 0 0).ready = true ∧
      (dancers 0 0).core.unmoved = true ∧ (dancers 0 0).core.tr.wakeCount ≠ none) ∧
    ((risky true .threading).core.tr.st = .threading ∧ (risky true .threading).core.tr.threadStep = .feed ∧
      (risky true .threading).core.tr.feedCount ≠ none) ∧
    (farUnthread.ready = true ∧ farUnthread.core.unmoved = true ∧ farUnthread.core.focus.probe = none ∧
      farUnthread.core.tr.st = .unthreading ∧ farUnthread.core.tr.unthreadEnding = false ∧
      farUnthread.core.tr.resetBraking = false ∧ farUnthread.core.tr.nominal + 400000 < farUnthread.core.tr.travel) ∧
    ((risky true .move).front.faults.length < 16 ∧ (risky true .move).front.overflow = false) := by decide

theorem test_met_InputsWithoutSafetyEvent :
    ((inMode .run).ready = true ∧ (inMode .run).core.tr.stopSensitive = false ∧ (inMode .run).core.tr.st = .unthreaded) ∧
    ((risky true .unthreading).ready = true ∧ (risky true .unthreading).core.pins.filmPresent = true ∧
      (risky true .unthreading).core.tr.st = .unthreading) := by decide

theorem test_met_SearchLimitAndRelaxEnd :
    (∃ s : State, s.ready = true ∧ s.core.tr.st = .threading ∧ s.core.tr.threadStep = .seek ∧ s.core.tr.resetBraking = false ∧
      s.core.tr.markP + 600000 = s.core.tr.p) ∧
    (∃ s : State, s.ready = true ∧ s.core.tr.st = .threading ∧ s.core.tr.threadStep = .seek ∧ s.core.tr.resetBraking = false ∧
      s.core.tr.p + 1 = s.core.tr.markP + 600000) ∧
    ((relaxing none).ready = true ∧ (relaxing none).core.tr.relaxRamp = some 0 ∧ (relaxing none).core.tr.wakePending = false ∧
      (relaxing none).core.tr.waiting = none ∧ (relaxing none).core.tr.waitingUnthread = false) ∧
    ((relaxing (some (.position 0))).ready = true ∧ (relaxing (some (.position 0))).core.tr.waiting ≠ none) :=
  ⟨⟨onTr fun t => { t with st := .threading, threadStep := .seek, p := 600000 }, by decide⟩,
   ⟨onTr fun t => { t with st := .threading, threadStep := .seek, p := 599999 }, by decide⟩, by decide, by decide⟩

/-! ## Hypotheses met: index transfers -/

/-- A transfer waits for a free Porter; the EXPORT has a buffer of `n` bytes. -/
def porting (t : Transfer) (n : Nat) : State := changed (mountedAt 0 (indexTo 1)) fun c =>
  (c.setPorter { waiting := [t], job := .idle }).setRm { c.rm with
    exports := [{ slot := 2, stamp := 4, roll := 7, address := 0x4000, length := n, notify := false, takenAt := 0 }] }

theorem test_met_IndexTransferStarts :
    ((porting (.exportFor 2 4) 59).ready = true ∧ (porting (.exportFor 2 4) 59).core.porter.job = .idle ∧
      (porting (.exportFor 2 4) 59).core.porter.waiting = [.exportFor 2 4] ∧
      59 < 36 + 24 * (porting (.exportFor 2 4) 59).core.ix.entries.length) ∧
    (36 + 24 * (porting (.exportFor 2 4) 60).core.ix.entries.length ≤ 60) ∧
    ((porting (.save 8 0x4000 7) 0).ready = true ∧ (porting (.save 8 0x4000 7) 0).core.porter.waiting = [.save 8 0x4000 7] ∧
      8 ≤ (porting (.save 8 0x4000 7) 0).core.roll.bays.length) ∧
    ((porting (.load 0x4000 7 2 4) 0).ready = true ∧
      (porting (.load 0x4000 7 2 4) 0).core.porter.waiting = [.load 0x4000 7 2 4]) ∧
    ((inMode .run).ready = true ∧ (inMode .run).core.porter.waiting = []) := by decide

/-- The sequence of a mount of bay 8, at a step. -/
def seqAt (step : SeqStep) (x : Option Exchange) : Seq :=
  { Seq.begin true 8 (some 0x4000) false with step := step, exchange := x }

/-- The pass of a MOUNT of bay 8. -/
def mountPass : Pass := Pass.begin (.request .mount) 2 4 0 0 { Request.ofRoll .mount 7 with argA := 8 } .mounting .rolls

/-- A mount of roll 7 in bay 8 at a step of its sequence. -/
def mounting (step : SeqStep) (x : Option Exchange) : State := on fun c =>
  (c.setPass mountPass).setRoll { c.roll with
    bays := setAt c.roll.bays 7 (bayOf .bound), bayCount := 8, changer := true, checked := true, cassette := some 8
    seq := some (seqAt step x) }

/-- The read of an import. -/
def importJob (header : Option (List Byte)) : ImportJob :=
  { address := 0x4000, roll := 7, slot := 2, stamp := 4, header := header, inFlight := true }

/-- A mount whose import is being read. -/
def importing (header : Option (List Byte)) : State := changed (mounting .load none) fun c =>
  c.setPorter { waiting := [], job := .reading (importJob header) }

/-- The header of an index record of roll 7 with `n` entries and stamp 1. -/
def importHead (n : Nat) : List Byte := bytesOf 4 1 ++ bytesOf 4 7 ++ bytesOf 4 n ++ List.replicate 20 0

/-- A body with one entry. -/
def importBody : List Byte := (entryAt 0).bytes 1 ++ bytesOf 4 1

theorem test_met_ImportReadsEnd :
    ((importing none).ready = true ∧ (importing none).core.porter.job = .reading (importJob none) ∧
      (importJob none).inFlight = true ∧ (importing none).core.rm.pass = some mountPass ∧
      mountPass.kind = .request .mount ∧ (importing none).core.roll.seq = some (seqAt .load none) ∧
      (seqAt .load none).step = .load ∧ (seqAt .load none).cancel = false ∧ (seqAt .load none).emptied = false ∧
      (seqAt .load none).bay = 8 ∧ 8 ≤ (importing none).core.roll.bays.length) ∧
    (fieldAt (importHead 16384) 4 4 = 7 ∧ fieldAt (importHead 16384) 8 4 ≤ 16384) ∧
    (fieldAt (List.replicate 32 0) 4 4 ≠ 7) ∧ (fieldAt (importHead 16385) 4 4 = 7 ∧ 16384 < fieldAt (importHead 16385) 8 4) ∧
    ((importing (some (importHead 1))).ready = true ∧
      checkImportBody (importHead 1) (fieldAt (importHead 1) 8 4) importBody = .passed [entryAt 0] ∧
      (seqAt .load none).rejected = false) := by decide

/-- The body of a record of one entry, with its tail stamp. -/
def bodyOf (n : Nat) (e : Entry) (stamp : Nat) : List Byte := e.bytes n ++ bytesOf 4 stamp

theorem test_met_Import_bodies :
    ¬ stampsAgree (importHead 1) (bodyOf 1 (entryAt 0) 2) ∧
    (stampsAgree (importHead 1) (bodyOf 2 (entryAt 0) 1) ∧ ¬ framesNumbered (importHead 1) (bodyOf 2 (entryAt 0) 1)) ∧
    (stampsAgree (importHead 1) (bodyOf 1 (entryAt (-1)) 1) ∧
      framesNumbered (importHead 1) (bodyOf 1 (entryAt (-1)) 1) ∧ ¬ leadsRise (importHead 1) (bodyOf 1 (entryAt (-1)) 1)) ∧
    (stampsAgree (importHead 1) (bodyOf 1 { entryAt 0 with length := 0 } 1) ∧
      framesNumbered (importHead 1) (bodyOf 1 { entryAt 0 with length := 0 } 1) ∧
      leadsRise (importHead 1) (bodyOf 1 { entryAt 0 with length := 0 } 1) ∧
      ¬ fieldsInRange (importHead 1) (bodyOf 1 { entryAt 0 with length := 0 } 1)) ∧
    (stampsAgree (importHead 1) importBody ∧ framesNumbered (importHead 1) importBody ∧
      leadsRise (importHead 1) importBody ∧ fieldsInRange (importHead 1) importBody) := by decide +kernel

/-- R111: the reason of a body's first failed check. -/
theorem test_import_reasons :
    checkImportBody (importHead 1) 1 (bodyOf 1 (entryAt 0) 2) = .rejected 2 ∧
    checkImportBody (importHead 1) 1 (bodyOf 2 (entryAt 0) 1) = .rejected 5 ∧
    checkImportBody (importHead 1) 1 (bodyOf 1 (entryAt (-1)) 1) = .rejected 6 ∧
    checkImportBody (importHead 1) 1 (bodyOf 1 { entryAt 0 with length := 0 } 1) = .rejected 7 ∧
    checkImportBody (importHead 1) 1 (bodyOf 1 (entryAt 16000000) 1) = .rejected 7 := by decide +kernel

theorem test_met_IndexEntryRoundTrips :
    65535 < 65536 ∧ (-2147483648 ≤ (entryAt (-2147483648)).lead) ∧ (entryAt 2147483647).lead ≤ 2147483647 ∧
    (entryAt 0).length < 4294967296 ∧ (entryAt 0).batch < 65536 ∧ (entryAt 0).document < 65536 ∧ (entryAt 0).page < 65536 ∧
    ({ entryAt 0 with captureCount := 255 }).captureCount < 256 ∧
    (∀ v, ({ entryAt 0 with score := some 16777215 }).score = some v → v < 16777216) :=
  ⟨by decide, by decide, by decide, by decide, by decide, by decide, by decide, by decide, by intro v h; cases h; decide⟩

/-- A motion in VERIFY that has tested the first entry. -/
def verifyMotion : Motion := { Motion.begin 4800 with tested := 1, leftResync := some 4800 }

/-- Two entries, the second at 5,000 and of an origin, with the film between them and the frontier. -/
def verified (run : Option (Int × Nat)) (o : Origin) (st : ImportStatus) (x : IndexUnit) : IndexUnit :=
  { x with
    entries := [entryAt 0, { entryAt 5000 with origin := o }], frontier := 6000, motion := some verifyMotion, unit := .verify
    detector := { st := .gap, run := run }, importStatus := st, importCount := if st = .none then 0 else 2 }

theorem test_met_CaptureReportsMarkEntries :
    (1 ≤ 1 ∧ (mountedAt 0 (indexTo 1)).core.ix.entries[1 - 1]? = some (entryAt 0) ∧ (entryAt 0).lead = 0) ∧
    (∀ e, (mountedAt 0 (indexTo 1)).core.ix.entries[1 - 1]? = some e → e.lead ≠ 4) ∧
    (sampleMet false 5204 (sampledAt 5204 (verified (some (5200, 1)) .detected .none)) = true ∧
      (sampledAt 5204 (verified (some (5200, 1)) .detected .none)).core.lanesQuiet 0 0 = true ∧
      (sampledAt 5204 (verified (some (5200, 1)) .detected .none)).core.ix.wake = false ∧
      (sampledAt 5204 (verified (some (5200, 1)) .detected .none)).core.ix.entries[1]? = some (entryAt 5000) ∧
      (verifyMotion).tested = 1 ∧ (1 + 1) ∉ verifyMotion.matched ∧ 1 + 1 = prof.confirmCount ∧
      differs prof.edgeThreshold (some 0) 1023 = true ∧ (5204 : Int) < 5000 + prof.driftWindow + 4 * (prof.confirmCount : Int) ∧
      verifyMotion.lastEdge = none ∧ |(5200 : Int) - 5000| ≤ prof.driftWindow ∧ |(5200 : Int) - 5000| < |(5200 : Int) - 0|) ∧
    (sampleMet false 5204 (sampledAt 5204 (verified (some (5200, 1)) .imported .unconfirmed)) = true ∧
      sampleMet false 5204 (sampledAt 5204 (verified (some (5200, 1)) .predicted .none)) = true) ∧
    (sampleMet false 5208 (sampledAt 5208 (verified none .detected .none)) = true ∧
      (sampledAt 5208 (verified none .detected .none)).core.porter.job = .idle ∧
      differs prof.edgeThreshold (some 0) 99 = false ∧
      (5000 : Int) + prof.driftWindow + 4 * (prof.confirmCount : Int) ≤ 5208 ∧ Origin.detected ≠ .predicted ∧
      verifyMotion.start ≤ 5000 - (prof.driftWindow : Int) ∧ verifyMotion.leftResync = some 4800 ∧
      (4800 : Int) ≤ 5000 - prof.driftWindow) ∧
    (sampleMet false 5208 (sampledAt 5208 (verified none .imported .unconfirmed)) = true ∧ 1 + 1 ≤ 2 + 1) :=
  ⟨by decide, by intro e h; cases h; decide, by decide +kernel, by decide +kernel, by decide +kernel, by decide +kernel⟩

/-! ## Hypotheses met: the changer and the lamp -/

/-- An exchange of bay 8 under serial 1. -/
def exchanging : Exchange := { serial := 1, bay := 8, poll := some 0, timer := some 0 }

/-- A fetch with a message on the wire. -/
def fetching (msg : LinkMsg) : State := changed (mounting .fetch (some exchanging)) fun c =>
  c.setLink (sending msg .rollManager c.link)

theorem test_met_ExchangesArePolled :
    ((fetching (.exchange 8 1)).ready = true ∧ (fetching (.exchange 8 1)).core.roll.seq = some (seqAt .fetch (some exchanging)) ∧
      (seqAt .fetch (some exchanging)).step = .fetch ∧
      (fetching (.exchange 8 1)).core.onWire { msg := .exchange 8 1, by' := .rollManager } = true ∧
      (fetching (.exchange 8 1)).core.rm.pass = some mountPass) ∧
    ((mounting .fetch (some exchanging)).ready = true ∧ (mounting .fetch (some exchanging)).core.link.st ≠ .down ∧
      (mounting .fetch (some exchanging)).core.link.queue.length < 8) ∧
    ((fetching (.status 1)).ready = true ∧
      (fetching (.status 1)).core.onWire { msg := .status 1, by' := .rollManager } = true ∧
      (seqAt .fetch (some exchanging)).cancel = false ∧ (seqAt .fetch (some exchanging)).emptied = false ∧
      (fetching (.status 1)).core.tr.st = .unthreaded) := by decide

theorem test_met_ChangerFailuresFailTheBay :
    (fetching (.status 1)).ready = true ∧ (fetching (.status 1)).core.roll.seq = some (seqAt .fetch (some exchanging)) ∧
    exchanging.serial = 1 ∧ (seqAt .fetch (some exchanging)).bay = 8 ∧
    8 ≤ (fetching (.status 1)).core.roll.bays.length ∧ (fetching (.status 1)).core.rm.pass = some mountPass ∧
    (fetching (.status 1)).core.onWire { msg := .status 1, by' := .rollManager } = true ∧ exchanging.poll = some 0 := by
  decide

/-- START-UP with the SURVEY on the wire. -/
def surveying : State := changed (atTest 7) fun c => c.setLink (sending .survey .startUp c.link)

theorem test_met_SurveySetsUpBays :
    (surveying.ready = true ∧ surveying.core.modes.mode = .startUp ∧
      surveying.core.onWire { msg := .survey, by' := .startUp } = true) ∧
    (([2, 0, 8, 8, 0x81] : List Byte).length = 5 ∧ byteAt [2, 0, 8, 8, 0x81] 0 ≤ 2 ∧ 1 ≤ byteAt [2, 0, 8, 1, 0x81] 3 ∧
      byteAt [2, 0, 8, 8, 0x81] 3 ≤ 8) ∧
    (2 < byteAt [3, 0, 0, 8, 0] 0 ∧ byteAt [0, 0, 0, 0, 0] 3 = 0 ∧ 8 < byteAt [0, 0, 0, 9, 0] 3) := by decide

/-- A message being taken, with bay 8 in a state and a cassette at the transport. -/
def receiving (st : BayState) (cassette : Option Nat) : State := on fun c =>
  (c.setLink { c.link with opened := true, st := .target }).setRoll { c.roll with
    bays := setAt c.roll.bays 7 (bayOf st), bayCount := 8, changer := true, checked := true, cassette := cassette }

theorem test_met_BayEventsChangeRecords :
    ((receiving .empty none).ready = true ∧ (receiving .empty none).core.link.opened = true ∧
      (receiving .empty none).core.modes.mode ≠ .failed ∧ (receiving .empty none).core.link.st = .target ∧
      (receiving .empty none).core.link.failed = none ∧ (receiving .empty none).core.link.dropMessage = false ∧
      (receiving .empty none).core.roll.checked = true ∧ (receiving .empty none).core.roll.changer = true) ∧
    ((onLink fun l => { l with st := .target, dropMessage := true }).ready = true ∧
      (onLink fun l => { l with st := .target, dropMessage := true }).core.link.dropMessage = true ∧
      (onLink fun l => { l with st := .target, dropMessage := true }).core.link.failed = none) ∧
    ((8 : Byte).toNat ≤ (receiving .empty none).core.roll.bayCount ∧
      ((receiving .empty none).core.roll.bay (8 : Byte).toNat).st = .empty) ∧
    (((receiving .loaded none).core.roll.bay (8 : Byte).toNat).st = .loaded ∧
      (receiving .loaded none).core.roll.cassette ≠ some (8 : Byte).toNat) ∧
    (((receiving .bound none).core.roll.bay (8 : Byte).toNat).st = .bound ∧ (receiving .bound none).core.roll.seq = none ∧
      (receiving .bound none).core.rm.swap = none) ∧
    (((receiving .mounted (some 8)).core.roll.bay (8 : Byte).toNat).st = .mounted ∧
      (receiving .loaded (some 8)).core.roll.cassette = some (8 : Byte).toNat) ∧
    ((receiving .empty none).core.roll.bayCount < (9 : Byte).toNat ∧ 1 < (2 : Byte).toNat) ∧
    bayMessage [0x0B, 8, 1, 0] = none ∧
    (((receiving .mounted (some 8)).core.roll.bay (8 : Byte).toNat).st = .mounted ∧
      ((receiving .empty none).core.roll.bay (8 : Byte).toNat).st = .empty) ∧
    ((changed (receiving .loaded none) fun c => c.setRoll { c.roll with checked := false }).ready = true ∧
      (changed (receiving .loaded none) fun c => c.setRoll { c.roll with checked := false }).core.roll.checked = false ∧
      (changed (receiving .loaded none) fun c => c.setRoll { c.roll with changer := false }).core.roll.changer = false) :=
  by decide

/-- A part with a lamp transaction on the wire, under poll record 1. -/
def lampSending (msg : LinkMsg) (polling : Bool) : State := changed (inMode .run) fun c =>
  (c.setLink (sending msg .captureUnit c.link)).setCap { c.cap with
    lamp := { c.cap.lamp with present := true, st := .warming, polling := polling, serial := 1 } }

theorem test_met_LampTransactionsEnd :
    ((lampSending (.lampSet 200) false).ready = true ∧
      (lampSending (.lampSet 200) false).core.onWire { msg := .lampSet 200, by' := .captureUnit } = true) ∧
    ((lampSending .lampOff false).ready = true ∧
      (lampSending .lampOff false).core.onWire { msg := .lampOff, by' := .captureUnit } = true) ∧
    ((lampSending (.lampStatus 1) true).ready = true ∧
      (lampSending (.lampStatus 1) true).core.onWire { msg := .lampStatus 1, by' := .captureUnit } = true ∧
      (lampSending (.lampStatus 1) true).core.cap.lamp.polling = true ∧
      (lampSending (.lampStatus 1) true).core.cap.lamp.serial = 1 ∧
      (lampSending (.lampStatus 1) true).core.strobeless = true ∧ (254 : Byte).toNat % 2 = 0 ∧ (1 : Byte).toNat % 2 = 1) ∧
    (lampSending (.lampStatus 1) false).core.cap.lamp.polling = false ∧
    (lampSending (.lampStatus 0) true).core.cap.lamp.serial ≠ 0 := by decide

/-- A lamp with every count running. -/
def lampCounting : State := onCap fun k =>
  { k with lamp := { k.lamp with present := true, st := .warming, polling := true, serial := 1, pollTimer := some 0,
                                 pollLimit := some 0, fixed := some 0, lastSent := 200 } }

theorem test_met_LampCountsExpire :
    (lampCounting.ready = true ∧ lampCounting.core.cap.lamp.pollTimer = some 0 ∧ lampCounting.core.link.st ≠ .down ∧
      lampCounting.core.link.queue.length < 8 ∧ lampCounting.core.cap.lamp.pollLimit = some 0 ∧
      lampCounting.core.strobeless = true ∧ lampCounting.core.cap.lamp.fixed = some 0) ∧
    ((inMode .run).ready = true ∧ (inMode .run).core.cap.lamp.pollTimer = none ∧
      (inMode .run).core.cap.lamp.pollLimit = none ∧ (inMode .run).core.cap.lamp.fixed = none) := by decide

/-! ## Hypotheses met: the link -/

/-- A LAMP OFF on the wire with its retries and losses. -/
def trying (retries losses : Nat) : State := onLink fun l =>
  { sending .lampOff .captureUnit l with retries := retries, losses := losses }

/-- The LAMP OFF of the Capture Unit. -/
def offItem : LinkItem := { msg := .lampOff, by' := .captureUnit }

/-- A LAMP OFF that a clock stretch has failed, with a STATUS behind it. -/
def stretched : State := onLink fun l =>
  { l with st := .stop, failed := some .stretch, queue := [offItem, { msg := .status 1, by' := .rollManager }] }

theorem test_met_LinkRetriesAfterNak :
    ((trying 2 0).ready = true ∧ (trying 2 0).core.onWire offItem = true ∧ (trying 2 0).core.link.retries < 3) ∧
    ((trying 3 0).ready = true ∧ (trying 3 0).core.onWire offItem = true ∧ 3 ≤ (trying 3 0).core.link.retries ∧
      offItem.by' = .captureUnit) ∧
    ((onLink fun l => { l with st := .retryWait, retryWait := some 0 }).ready = true ∧
      (onLink fun l => { l with st := .retryWait, retryWait := some 0 }).core.link.opened = true ∧
      (onLink fun l => { l with st := .retryWait, retryWait := some 0 }).core.link.retryWait ≠ none) ∧
    ((onLink fun l => { l with st := .waitFree }).ready = true ∧ (onLink fun l => { l with st := .waitFree }).core.linkCheck = false ∧
      (onLink fun l => { l with st := .waitFree }).core.modes.mode ≠ .failed) ∧
    (stretched.ready = true ∧ stretched.core.link.opened = true ∧ stretched.core.modes.mode ≠ .failed ∧
      stretched.core.linkCheck = false ∧ stretched.core.link.st = .stop ∧ stretched.core.link.failed = some .stretch ∧
      stretched.core.link.waiting = [] ∧
      stretched.core.link.queue = [offItem, { msg := .status 1, by' := .rollManager }]) ∧
    ((atTest 5).ready = true ∧ (atTest 5).core.linkCheck = true) := by decide

theorem test_met_LinkMeetsOtherControllers :
    ((trying 0 6).ready = true ∧ (trying 0 6).core.onWire offItem = true ∧ (trying 0 6).core.link.losses < 7) ∧
    ((trying 0 7).core.onWire offItem = true ∧ (trying 0 7).core.link.losses = 7 ∧ offItem.by' ≠ .startUp) ∧
    0 < offItem.msg.bytes.length ∧
    ((onLink id).ready = true ∧ (onLink id).core.link.opened = true ∧ (onLink id).core.modes.mode ≠ .failed ∧
      (onLink id).core.link.st = .idle ∧ (onLink id).core.link.address = 0x40 ∧ 0x41 ≠ (onLink id).core.link.address ∧ 0x40 ≠ 0) ∧
    (stretched.ready = true ∧ stretched.core.link.opened = true ∧ stretched.core.modes.mode ≠ .failed ∧
      stretched.core.link.st = .stop ∧ stretched.core.link.failed = some .stretch ∧ stretched.core.link.waiting = [] ∧
      stretched.core.link.queue = offItem :: [{ msg := .status 1, by' := .rollManager }] ∧
      stretched.core.link.address = 0x40) ∧
    ((onLink fun l => { l with st := .listen }).ready = true ∧ (onLink fun l => { l with st := .listen }).core.link.st = .listen ∧
      (onLink fun l => { l with st := .listen }).core.link.failed = none) := by decide

theorem test_met_LowLineIsRecovered :
    ((onLink id).ready = true ∧ (onLink id).core.link.st = .idle ∧ (onLink id).core.link.queue = [] ∧
      (onLink id).core.link.waiting = [] ∧ (onLink id).core.linkCheck = false ∧ (onLink id).core.link.opened = true ∧
      (onLink id).core.modes.mode ≠ .failed) ∧
    ((atTest 5).ready = true ∧ (atTest 5).core.link.st = .idle ∧ (atTest 5).core.linkCheck = true) := by decide

/-! ## Hypotheses met: lens, reservations, camera -/

/-- An actuator past its homing run. -/
def lens (counter commanded : Nat) (st : FocusState) (settle : Count) : State := on fun c =>
  c.setFocus { c.focus with homing := 0, counter := counter, commanded := commanded, st := st, settle := settle }

theorem test_met_FocusStepsAndSettles :
    ((inMode .run).ready = true ∧ 1 < (inMode .run).core.focus.homing) ∧
    ((lens 4094 4095 .settled none).ready = true ∧ (lens 4094 4095 .settled none).core.focus.homing = 0 ∧
      (lens 4094 4095 .settled none).core.focus.counter < (lens 4094 4095 .settled none).core.focus.commanded) ∧
    ((lens 1 0 .settled none).ready = true ∧
      (lens 1 0 .settled none).core.focus.commanded < (lens 1 0 .settled none).core.focus.counter) ∧
    ((lens 0 0 .settled none).ready = true ∧ (lens 0 0 .settled none).core.focus.settle = none) ∧
    ((lens 0 0 (.moving .park) (some 0)).ready = true ∧ (lens 0 0 (.moving .park) (some 0)).core.focus.settle ≠ none) ∧
    ((lens 0 0 (.moving .place) (some 0)).ready = true ∧ (lens 0 0 (.moving .place) (some 0)).core.strobeless = true) := by
  decide

/-- A Focus Map with entries in bands 1 and 5. -/
def mapped : Focus := { runCore.focus with
  map := setAt (setAt runCore.focus.map 1 (some { best := 100, reference := 9, probes := 1 })) 5
    (some { best := 5000, reference := 9, probes := 1 }) }

/-- R120: of the entries of bands 1 and 5, as far from band 3, the lower is taken; band 9 is four away from band 5, and
band 10 has none near it. -/
theorem test_met_Focus_choice :
    mapped.map[1]? = some (some { best := 100, reference := 9, probes := 1 }) ∧
    mapped.map[5]? = some (some { best := 5000, reference := 9, probes := 1 }) ∧ prof.focusMin ≤ prof.focusMax ∧
    [3, 4, 9, 10].map (mapped.choose prof) = [(100, some 1), (4095, some 5), (4095, some 5), (2000, none)] := by
  decide +kernel

/-- The pass of a FIND at rest at its one frame, with a probe wanted on a soft image or not. -/
def atFramePass (probe : Bool) : Pass :=
  { Pass.begin (.request .find) 2 4 0 0 { request .find with probeOnSoft := probe } .capturing (.atFrame 0) with
    start := some 1, size := some 1, target := 10500, plan := [{ code := 1, st := .waiting }] }

/-- Everything is ready for that frame's strobe but the lens, which settles next. -/
def settlingAt (p : Int) (probe : Bool) : State := changed (mountedAt p (request .find)) fun c =>
  ((c.setCap { c.cap with
    stop := some { frame := 1, target := 10500, fullDepth := false, recapture := false, arrived := true }
    inHand := some 1, lamp := { c.cap.lamp with st := .ready } }).setFocus { c.focus with
      homing := 0, counter := 2000, commanded := 2000, st := .moving .place, settle := some 0
      placement := some { frame := 1, band := 0, step := 2000, source := none } }).setPass (atFramePass probe)

theorem test_met_Focus_strobes :
    ((settlingAt 10520 true).ready = true ∧ (settlingAt 10520 true).core.focus.settle ≠ none ∧
      (settlingAt 10520 true).core.focus.st = .moving .place ∧
      ((settlingAt 10520 true).core.focus.placement.map (·.frame)) = some 1 ∧ (settlingAt 10520 true).core.focus.probe = none ∧
      (settlingAt 10520 true).core.cap.flyby = none ∧ (settlingAt 10520 true).core.cap.armed = none ∧
      (settlingAt 10520 true).core.cap.stop =
        some { frame := 1, target := 10500, fullDepth := false, recapture := false, arrived := true } ∧
      (settlingAt 10520 true).core.cap.lamp.st = .ready ∧ (settlingAt 10520 true).core.cap.inHand = some 1 ∧
      (settlingAt 10520 true).core.cap.camera = .idle ∧ (settlingAt 10520 true).core.tr.steady = true ∧
      (settlingAt 10520 true).core.tr.waiting = none) ∧
    ((settlingAt 10520 true).core.rm.pass = some (atFramePass true) ∧ (atFramePass true).films = true ∧
      (atFramePass true).ending = none ∧ (atFramePass true).act = .atFrame 0 ∧ (atFramePass true).place 1 = some 0 ∧
      (atFramePass true).target = 10500 ∧ (atFramePass true).req.probeOnSoft = true ∧
      (atFramePass false).req.probeOnSoft = false ∧ (atFramePass false).size = some (0 + 1) ∧
      (atFramePass false).retrying = false ∧ (atFramePass false).req.retry = 0 ∧
      (atFramePass false).stateAt 0 ≠ .delivered) ∧
    (|(10520 : Int) - 10500| ≤ prof.stopTolerance ∧ (prof.stopTolerance : Int) < |(10521 : Int) - 10500| ∧
      (settlingAt 10521 true).ready = true ∧ (settlingAt 10521 true).core.ix.motion = none ∧
      (10500 : Int) ≤ 16000000 - 4 * (prof.stopTolerance : Int)) := by decide +kernel

/-- A probe at frame 1, its first window around step 2,000, with the scores it has. -/
def aProbe (scores : List Nat) (ph : ProbePhase) (cancelled : Bool) : Probe :=
  { frame := 1, target := 10500, band := 0, delta := 16, centre := 2000, shift := 0, scores := scores, phase := ph,
    cancelled := cancelled }

/-- The pass of a PROBE at its frame. -/
def probePass : Pass :=
  { Pass.begin (.request .probe) 2 4 0 0 (request .probe) .probing (.probing 0) with
    start := some 1, size := some 1, target := 10500 }

/-- A probe whose lens settles at its first point. -/
def previewing (p : Int) : State := changed (mountedAt p (request .probe)) fun c =>
  ((c.setCap { c.cap with lamp := { c.cap.lamp with st := .ready } }).setFocus { c.focus with
    homing := 0, counter := 1968, commanded := 1968, st := .probing, settle := some 0
    probe := some (aProbe [] .waiting false) }).setPass probePass

theorem test_met_Focus_previews :
    ((previewing 10520).ready = true ∧ (previewing 10520).core.focus.settle ≠ none ∧
      (previewing 10520).core.focus.st = .probing ∧ (previewing 10520).core.focus.probe = some (aProbe [] .waiting false) ∧
      (previewing 10520).core.cap.stop = none ∧ (previewing 10520).core.cap.flyby = none ∧
      (previewing 10520).core.cap.lamp.st = .ready ∧ (previewing 10520).core.cap.camera = .idle ∧
      (previewing 10520).core.tr.steady = true) ∧
    ((previewing 10521).ready = true ∧ (previewing 10521).core.unmoved = true ∧
      (previewing 10521).core.rm.pass = some probePass ∧ probePass.kind = .request .probe ∧ probePass.req.kind = .probe ∧
      probePass.ending = none ∧ probePass.act = .probing 0 ∧ probePass.target = 10500 ∧
      (aProbe [] .waiting false).target = 10500) := by decide +kernel

/-- A stop-mode capture that waits for a slot. -/
def waitingSlot (f : Capture → Capture) : State := changed (onCap fun k => f { k with
    stop := some { frame := 1, target := 0, fullDepth := false, recapture := false, arrived := false } }) fun c =>
  (c.setPort { c.port with setup := { c.port.setup with slotCount := 2 } }).setTr { c.tr with st := .hold }

/-- The pass of a FIND. -/
def findPass : Pass := Pass.begin (.request .find) 2 4 0 0 (request .find) .seeking (.positioning 0)

/-- An Image Wait that runs in a FIND. -/
def starving : State := changed (waitingSlot fun k => { k with imageWait := some 0 }) fun c => c.setPass findPass

/-- The frame of a flyby walk waits for a slot only. -/
def arming (p : Int) : State := changed (walking p 0 0) fun c => c.setCap { c.cap with
  armed := none, inHand := none, reservation := .flight, lamp := { c.cap.lamp with st := .ready } }

/-- R159: one count that appends an entry and fires the frame walked to gives that frame once. -/
theorem test_walk_givesOnce :
    (let c := (arming 10501).core
      let q := { walkPass with given := true, size := some 2 }
      let c := (c.setIx { c.ix with entries := [entryAt 0, entryAt 4000] }).setPass q
      let t := ({ c.setCap { c.cap with flyby := none } with sig := [.appended 2, .flybyFired 1] } : Core).settle
      (t.rm.pass.map fun q => (q.act, q.retryList, q.stateAt 0), t.cap.flyby.map (·.frame))) =
    (some (.walking 1, [], .fired), some 2) := by decide +kernel

/-- R162: RETRYING ends with its last round, though an image is still filling. -/
theorem test_retry_ends :
    (let c := (arming 10501).core
      let q := { walkPass with retrying := true, round := 1, roundAt := some 1, retryList := [1] }
      let t := Core.retryNext 4 (c.setCap { c.cap with filling := [anImage] }) q
      t.rm.pass.map fun q => (q.st, q.ending, q.retryList)) = some (.ending, some .walkDone, [1]) := by decide +kernel

theorem test_met_ReservationsFollowTheRing :
    (starving.core.cap.inHand = none ∧ starving.core.cap.reservation = .none) ∧
    ((waitingSlot fun k => { k with reservation := .flight }).ready = true ∧
      (waitingSlot fun k => { k with reservation := .flight }).core.cap.reservation = .flight ∧
      (waitingSlot fun k => { k with reservation := .flight }).core.strobeless = true ∧
      (waitingSlot fun k => { k with reservation := .flight }).core.prof.imageWait ≠ 0) ∧
    (fieldAt [0, 0, 0, 0] 0 4 = 0 ∧ fieldAt [0, 0, 0, 1] 0 4 ≠ 0) ∧
    ((waitingSlot fun k => { k with reread := some 0 }).ready = true ∧
      (waitingSlot fun k => { k with reread := some 0 }).core.cap.inHand = none ∧
      (waitingSlot fun k => { k with reread := some 0 }).core.cap.reservation = .none) ∧
    (starving.ready = true ∧ starving.core.cap.imageWait = some 0 ∧ starving.core.rm.pass = some findPass ∧
      findPass.films = true ∧ findPass.ending = none ∧ starving.core.cap.armed = none ∧ starving.core.tr.st = .hold ∧
      starving.core.tr.waiting = none) ∧
    ((arming 10499).ready = true ∧ (arming 10499).core.cap.reservation = .flight ∧ (arming 10499).core.cap.stop = none ∧
      (arming 10499).core.cap.flyby = some { frame := 1, fullDepth := false } ∧ (arming 10499).core.cap.armed = none ∧
      (arming 10499).core.focus.probe = none ∧ (arming 10499).core.focus.st ≠ .probing ∧
      (arming 10499).core.cap.camera = .idle ∧ (arming 10499).core.cap.lamp.st = .ready ∧
      (arming 10499).core.ix.entry 1 = some (entryAt 0) ∧
      (10500 : Int) = (entryAt 0).lead + ((entryAt 0).length / 2 : Nat) + (prof.gateOffset : Int) + (arming 10499).core.ix.drift ∧
      (10500 : Int) = max (10500 - (prof.gateOffset : Int))
        (10500 - ((2 * ((arming 10499).core.tr.vRef / 1000 * prof.strobeLatency) + 5000) / 10000 : Nat)) ∧
      (arming 10499).core.tr.p < 10500) ∧
    ((10500 : Int) < (arming 10501).core.tr.p ∧ (arming 10501).ready = true ∧
      (arming 10501).core.rm.pass = some walkPass ∧ walkPass.ending = none ∧ walkPass.act = .walking 0 ∧
      walkPass.start = some 1 ∧ walkPass.size = some (0 + 1) ∧ (arming 10501).core.tr.st = .move ∧
      0 < (arming 10501).core.tr.vRef ∧ (arming 10501).core.tr.phase ≠ .settle) := by decide +kernel

/-- The readout of an image of 64 by 64 pixels after `n` lines. -/
def readAt (n : Nat) : Readout :=
  { preview := false, stopMode := false, width := 64, height := 64, depth := 1, lines := n, holdTotal := 0, holdSince := none }

/-- An image being read out. -/
def reading (n : Nat) (cam : CameraState) (hold : Bool) : State := onCap fun k =>
  { k with camera := cam, readout := some (readAt n), filling := [{ anImage with entered := n }], camHold := hold }

theorem test_met_CameraLinesEnterTheFifo :
    ((reading 62 .readout false).ready = true ∧ (reading 62 .readout false).core.cap.readout = some (readAt 62) ∧
      (reading 62 .readout false).core.cap.filling = [] ++ [{ anImage with entered := 62 }] ∧
      (reading 62 .readout false).core.cap.camera = .readout ∧ (readAt 62).preview = false ∧
      (List.replicate 64 (0 : Pixel)).length = (readAt 62).width ∧ (readAt 62).lines + 1 < (readAt 62).height) ∧
    ((reading 63 .readout false).ready = true ∧ (readAt 63).lines + 1 = (readAt 63).height ∧
      (reading 63 .readout false).core.strobeless = true) ∧
    (List.replicate 63 (0 : Pixel)).length ≠ (readAt 0).width ∧
    ((reading 62 .discarding false).ready = true ∧ (reading 62 .discarding false).core.cap.camera = .discarding) := by decide

/-- A preview whose next line is the last row of its Focus Window that is taken, with a sum from before. -/
def scoring (q : Probe) (p : Option Pass) : State := changed (on fun c => c.setFocus { c.focus with
    homing := 0, counter := 2000, commanded := 2000, st := .probing, probe := some q
    map := setAt c.focus.map 0 (some { best := 5, reference := 9, probes := 255 }) }) fun c =>
  (c.setCap { c.cap with
    camera := .readout, readout := some { readAt 10 with preview := true, stopMode := true }
    score := some { sum := 800, x := 2, y := 10, width := 4, height := 2, shift := 2 } }).setRm { c.rm with pass := p }

theorem test_met_Camera_scores :
    ((scoring (aProbe [1, 2, 3] .reading false) none).ready = true ∧
      (scoring (aProbe [1, 2, 3] .reading false) none).core.cap.camera = .readout ∧
      (List.replicate 64 (0 : Pixel)).length = (readAt 10).width ∧ (readAt 10).lines + 1 < (readAt 10).height ∧
      10 ≤ (readAt 10).lines ∧ ((readAt 10).lines - 10) % 2 = 0 ∧ (readAt 10).lines < 10 + 2 ∧
      10 + 2 ≤ (readAt 10).lines + 2 ∧ (aProbe [1, 2, 3] .reading false).phase = .reading ∧
      (200 : Nat) = min ((800 + 0) / 2 ^ 2) 16777215 ∧
      [1, 2, 3].length < 4 ∧ [1, 2, 3, 4].length = 4) ∧
    (4 = bestPoint ([1, 2, 3, 4] ++ [200]) ∧ 0 = bestPoint ([300, 2, 3, 4] ++ [200]) ∧
      2 = bestPoint ([200, 200, 200, 200] ++ [200]) ∧ 1 = bestPoint ([1, 300, 2, 300] ++ [200]) ∧
      probeCentre prof 16 (2000 - 2 * 16) ≠ 2000 ∧ probeCentre prof 16 (2000 + 2 * 16) ≠ 2000 ∧ prof.focusMin ≤ prof.focusMax) ∧
    ((scoring { aProbe [300, 2, 3, 4] .reading false with shift := 3 } (some probePass)).ready = true ∧
      (aProbe [] .reading false).band < (scoring (aProbe [] .reading false) none).core.focus.map.length ∧
      (scoring (aProbe [] .reading false) none).core.focus.map[0]? =
        some (some { best := 5, reference := 9, probes := 255 }) ∧
      (scoring (aProbe [] .reading true) (some { probePass with ending := some .noRoom, waitProbe := true })).ready = true) := by
  decide +kernel

/-- R127 to R130: the score of the line goes to the probe; its fifth moves the window, or ends the probe. -/
theorem test_camera_probe :
    after (.cameraLine (List.replicate 64 0)) (scoring (aProbe [1, 2, 3] .reading false) none) (fun t =>
      decide (t.core.focus.probe.map (·.scores) = some [1, 2, 3, 200] ∧ t.core.focus.commanded = 2032)) = true ∧
    after (.cameraLine (List.replicate 64 0)) (scoring (aProbe [1, 2, 3, 4] .reading false) none) (fun t =>
      decide (t.core.focus.probe.map (fun q => (q.scores, q.centre, q.shift)) = some ([], 2032, 1) ∧
        t.core.focus.commanded = 2000)) = true ∧
    after (.cameraLine (List.replicate 64 0))
      (scoring { aProbe [300, 2, 3, 4] .reading false with shift := 3 } (some probePass)) (fun t =>
      decide (t.core.focus.probe = none ∧
        t.core.focus.map[0]? = some (some { best := 1968, reference := 300, probes := 255 }) ∧
        t.core.rm.pass.bind (·.ending) = some (.fixed .done 0))) = true := by decide +kernel

theorem test_met_CameraFailuresDamageTheImage :
    ((reading 5 .readout false).ready = true ∧ (reading 5 .readout false).core.cap.readout = some (readAt 5) ∧
      (reading 5 .readout false).core.cap.filling = [] ++ [{ anImage with entered := 5 }] ∧ (readAt 5).preview = false ∧
      (reading 5 .readout false).core.cap.camHold = false ∧ (reading 5 .readout false).core.strobeless = true) ∧
    ((reading 5 .idle false).ready = true ∧ (reading 5 .idle false).core.cap.camera = .idle) ∧
    ((reading 5 .readout true).ready = true ∧ (reading 5 .readout true).core.cap.camera = .readout ∧
      (reading 5 .readout true).core.cap.camHold = true ∧ (readAt 5).stopMode = false) := by decide

/-! ## Steps on small states: the window, modes and resets -/

/-- R2: the low 12 bits of WA_BASE_LO stay 0. -/
theorem test_waBaseWrite_lo : after (.waBaseWrite false 0x12345FFF) (inMode .run) (fun t =>
    decide (t.front.waBaseLo = 0x12345000 ∧ t.core.port.workArea = none)) = true := by decide

/-- R3: ENABLE taken in CONFIG WAIT asks for the reads of the block and of the extension. -/
theorem test_enable_begins : after (.enable 1) (inMode .configWait) (fun t =>
    decide (t.core.port.boardQueue = [.setup .block, .setup .extension] ∧ t.front.enable = true)) = true := by decide

/-- R3: ENABLE has no effect in RUN. -/
theorem test_enable_run : after (.enable 1) (inMode .run) (fun t => decide (t = inMode .run)) = true := by decide

/-- R205: a soft reset clears a mounted roll's request and goes to CONFIG WAIT with Progress 80h, the position kept. -/
theorem test_softReset_keeps_p : after (.softReset 2) (mountedAt 700 (indexTo 1)) (fun t =>
    decide (t.core.modes.mode = .configWait ∧ t.core.modes.progress = 0x80 ∧ t.core.tr.p = 700 ∧
      t.core.rm.pendingSet = [] ∧ (t.core.roll.bay 1).st = .mounted)) = true := by decide

/-- R19: with FAULT pending HOLD_CLEAR sends the message again and Hold stays set. -/
theorem test_holdClear_resends : after (.holdClear 4)
    { inMode .run with front := { Front.reset with hold := true, causeFault := true } } (fun t =>
    decide (t.front.hold = true ∧ t.front.causeFault = true)) = true := by decide

/-- R19: with no cause pending Hold clears. -/
theorem test_holdClear_clears : after (.holdClear 4) { inMode .run with front := { Front.reset with hold := true } } (fun t =>
    decide (t.front.hold = false)) = true := by decide

/-- R207: WAKE in DORMANT returns to RUN. -/
theorem test_wake_dormant : after (.wake 8) (inMode .dormant) (fun t => decide (t.core.modes.mode = .run)) = true := by decide

/-- R14: POST with bits 0 and 31 asks for slots 0 and 31 in that order. -/
theorem test_post_order : after (.post 0x80000001) (inMode .run) (fun t =>
    decide (t.core.port.boardQueue = [.slot 0 false, .slot 31 false])) = true := by decide

/-- R4: STATUS in RUN, with Mode and Progress 81h, one fault queued, and FAULT pending; the read clears the cause. -/
theorem test_statusRead_word : after .statusRead { inMode .run with front := { faulted 1 with causeFault := true } } (fun t =>
    decide (t.front.busReply.extractLsb' 0 8 = 0x81#8 ∧ t.front.busReply.extractLsb' 15 1 = 1#1 ∧
      t.front.busReply.extractLsb' 17 5 = 1#5 ∧ t.front.causeFault = false ∧ t.front.faults.length = 1)) = true := by decide

/-- R200: the pop that empties an overflowed queue brings FAULTS_DISCARDED with the count. -/
theorem test_faultTopPop_discards : after (.faultTopPop 0)
    { inMode .run with front := { faulted 1 with overflow := true, discards := 5 } } (fun t =>
    decide (t.front.faults.map (fun e => (e.name, e.info)) = [(.faultsDiscarded, 5#24)] ∧ t.front.overflow = false)) = true := by
  decide

/-- R1: a write to STATUS has no effect. -/
theorem test_registerWriteIgnored : after (.registerWriteIgnored 0 true 1) (inMode .run) (fun t =>
    decide (t = inMode .run)) = true := by decide

/-- R49, R202: the part is held with the brake on. -/
theorem test_fullReset_brake : after (.fullReset true) (mountedAt 5 (indexTo 1)) (fun t =>
    decide (t.core.modes.mode = .held ∧ t.core.brake = true)) = true := by decide

/-- R203: START-UP begins at Progress 01h with the index and the position clear. -/
theorem test_startUp_progress : after .startUp (inMode .held) (fun t =>
    decide (t.core.modes.mode = .startUp ∧ t.core.modes.progress = 1 ∧ t.core.tr.p = 0)) = true := by decide

/-- R203: the references' window is 480 to 544, and 2,016 to 2,080 for the dancers. -/
theorem test_selftest_references : after (.selftestTestDone (.references 480 544 512 2016 2080)) (atTest 4) (fun t =>
    decide (t.core.modes.progress = 5)) = true ∧
    after (.selftestTestDone (.references 479 544 512 2016 2080)) (atTest 4) (fun t =>
    decide (t.core.modes.mode = .failed)) = true := by decide

/-! ## Steps: setup, looks, requests -/

/-- R11: the last read of a good setup brings RUN with Set A active and the cursor at slot 0. -/
theorem test_setupReadDone_accepts : after (.setupReadDone .block (.data setupBytes)) halfRead (fun t =>
    decide (t.core.modes.mode = .run ∧ t.core.modes.progress = 0x81 ∧ t.core.store.active = some .a ∧
      t.core.prof.id = 1 ∧ t.core.cap.cursor = 0)) = true := by decide +kernel

/-- R8: a read error is Setup Reason 8. -/
theorem test_setupReadDone_error : after (.setupReadDone .block .error) halfRead (fun t =>
    decide (t.front.setupBad = true ∧ t.front.setupReason = 8 ∧ t.core.modes.mode = .configWait)) = true := by decide +kernel

/-- R13: a sweep asks for all 32 slots. -/
theorem test_sweep_slots : after .sweepTimerExpiry timed (fun t =>
    decide (t.core.port.boardQueue.length = 32 ∧ t.core.port.boardQueue[31]? = some (.slot 31 true))) = true := by decide

/-- R16: a posted FIND is held with its stamp, 9. -/
theorem test_slotLook_takes : after (.slotLook 31 (.data findBytes)) (lookingAt (bayOf .mounted)) (fun t =>
    decide (t.core.rm.slots[31]? = some (.held 9 .pendingSet) ∧ t.core.port.results = [.taken 31 9])) = true := by
  decide +kernel

/-- R27: a FIND of a roll that no bay has is returned ROLL_ABSENT. -/
theorem test_slotLook_absent : after (.slotLook 31 (.data findBytes)) (lookingAt Bay.reset) (fun t =>
    decide (t.core.rm.pendingSet = [] ∧ t.core.port.results.length = 2)) = true := by decide +kernel

/-- R6, R41: an expired profile read is a read error, and the SET PROFILE is returned BAD_REQUEST with 0Eh. -/
theorem test_hostReadTimeout_profile : after (.hostReadTimeout .profile) loading (fun t =>
    decide (t.core.port.results = [.result (Return.plain 3 5 true 0 .badRequest 0x0E)])) = true := by decide +kernel

/-- R43: with Set A active the record loads Set B, which is then pending. -/
theorem test_profileReadDone_inactive : after (.profileReadDone (.data recordBytes)) loading (fun t =>
    decide (t.core.store.pending = some .b ∧ t.core.store.active = some .a ∧ t.core.store.setA = some prof ∧
      t.core.store.setB.isSome = true)) = true := by decide +kernel

/-! ## Steps: passes, grants, Returns -/

/-- R163: an INDEX whose target is in the index ends at once, with no film moved. -/
theorem test_passChoice_indexed : after .passChoice (mountedAt 0 (indexTo 1)) (fun t =>
    decide (t.core.tr.st = .hold ∧ t.core.port.results.length = 1)) = true := by decide +kernel

/-- R157: from past the frontier the film first runs back. -/
theorem test_passChoice_back : after .passChoice (mountedAt 1001 (indexTo 2)) (fun t =>
    decide (t.core.tr.st = .move ∧ t.core.tr.dir = .reverse)) = true := by decide +kernel

/-- R31, R36: a SCAN refused over its map returns its counts and its Clamp flags as 0 (notes/assumptions/100.md). -/
theorem test_selectionMap_refused : after (.selectionMapReadDone .error)
    (changed (mapping 2) fun c => c.setPass { mapPass 2 with clamps := 1 }) (fun t =>
    decide (t.core.port.results.map (fun i => match i with
      | .result r => (r.outcome, r.detail, r.clamps, r.missed, r.endsPass)
      | .taken _ _ => (.done, 0, 0, 0, false)) = [(.badRequest, 0x0E, 0, 0, true)])) = true := by decide +kernel

/-- R161: a map of no code at all is done, with nothing scanned. -/
theorem test_selectionMap_none : after (.selectionMapReadDone (.data [0])) (mapping 2) (fun t =>
    decide (t.core.tr.st = .hold ∧ t.core.port.results.length = 1)) = true := by decide +kernel

/-- R144, with the Work Area's table: slot 1 is the 128 bytes at 1080h from the base, here 1000h. -/
theorem test_grant_slot : after .memoryPortGrant
    (onPort fun p => { p with workArea := some 0x1000, boardQueue := [.slot 1 false] }) (fun t =>
    decide (t.core.port.issued = some (.read .boardReader 0x2080 128))) = true := by decide +kernel

/-- R18: the Return Stamp frees the slot. -/
theorem test_grant_return : after .memoryPortGrant (returning [.result (lastWrite true true)] 1) (fun t =>
    decide (t.core.rm.slots[2]? = some .lookable ∧ t.front.causeReturn = true)) = true := by decide +kernel

/-- R20: the delay's expiry raises RETURN and clears the count. -/
theorem test_returnDelay : after .returnDelayExpiry (on fun c => c.setRm { c.rm with notifyCount := 3, returnDelay := some 0 })
    (fun t => decide (t.core.rm.notifyCount = 0 ∧ t.front.causeReturn = true)) = true := by decide

/-! ## Steps: film -/

/-- R50: P moves by one, held at 16,000,000. -/
theorem test_meteringCount_limits :
    after (.meteringCount .forward 0 0 0) (onTr fun t => { t with st := .hold, p := 16000000 }) (fun t =>
      decide (t.core.tr.p = 16000000)) = true ∧
    after (.meteringCount .reverse 0 0 0) (onTr fun t => { t with st := .hold, p := 0 }) (fun t =>
      decide (t.core.tr.p = -1)) = true := by decide

/-- R63: 64 pulses over 100 counts would be a radius of 40 units, below the hub's 16,000. -/
theorem test_tachometer_hub : after (.tachometerPulse .supply) (winding 63) (fun t =>
    decide (t.core.tr.supply.radius = some 16000 ∧ t.core.tr.supply.length = 0)) = true := by decide

/-- R53: at 4,000 units a period the reference reaches 600 at its 150th, and the leg cruises. -/
theorem test_profileTimer_cruise : after .profileTimerExpiry (running .accel 596000) (fun t =>
    decide (t.core.tr.vRef = 600000 ∧ t.core.tr.phase = .cruise)) = true := by decide +kernel

/-- R56: the second overshoot stops the move with STOP_MISS. -/
theorem test_settleTimeout_twice : after .settleTimeout (settling (-50) true) (fun t =>
    decide (t.core.tr.st = .hold ∧ t.front.faults.map (·.name) = [.stopMiss])) = true := by decide +kernel

/-- R57: kp 4 and ki 1, set point 2,048 and code 2,000: the sum is 48 and the correction 4 * 48 * 4 + 48. -/
theorem test_regulator_correction : after (.tensionRegulatorPeriod 2000 2048) (regulated true) (fun t =>
    decide (t.core.tr.supplyDancer.sum = 48 ∧ t.core.tr.supplyDancer.correction = 816 ∧
      t.core.tr.takeUpDancer.correction = 0)) = true := by decide

/-- R70: a wake's tension leaves the transport steady. -/
theorem test_tensionEstablished_wake : after .tensionEstablished
    (onTr fun t => { t with st := .hold, tensioning := true, wakeCount := some 0, inBand := some 0 }) (fun t =>
    decide (t.core.tr.tensioning = false ∧ t.core.tr.wakeCount = none ∧ t.core.tr.st = .hold)) = true := by decide

/-- R58: TENSION_HIGH puts the transport in FAULT. -/
theorem test_outOfBand_high : after (.outOfBandExpiry .supply) (risky true .move) (fun t =>
    decide (t.core.tr.st = .fault ∧ t.front.faults.map (·.name) = [.tensionHigh])) = true := by decide +kernel

/-- R60: the take-up reel is reel 2. -/
theorem test_reelStall_takeUp : after (.reelStall .takeUp) (risky true .move) (fun t =>
    decide (t.front.faults.map (fun e => (e.name, e.info)) = [(.reelStall, 2#24)])) = true := by decide +kernel

/-- R59: a film that ends in HOLD is a FILM_BREAK. -/
theorem test_filmPresent_hold : after (.filmPresentChange false) (risky true .hold) (fun t =>
    decide (t.core.tr.st = .fault ∧ t.front.faults.map (fun e => (e.name, e.info)) = [(.filmBreak, 0#24)])) = true := by
  decide +kernel

/-- R61: EXT_STOP in a relaxed transport stops it with the brake on. -/
theorem test_extStopAssert_relaxed : after .extStopAssert (risky true .relaxed) (fun t =>
    decide (t.core.tr.st = .fault ∧ t.core.brake = true ∧ t.core.tr.drives = false)) = true := by decide +kernel

/-- R49: the release of EXT_STOP takes the brake off a transport in HOLD. -/
theorem test_extStopRelease : after .extStopRelease
    (on fun c => (c.setPins { c.pins with extStop := true }).setTr { c.tr with st := .hold }) (fun t =>
    decide (t.core.brake = false)) = true := by decide

/-- R66: 10 s of feed is THREAD_FAIL. -/
theorem test_threadFeedTimeout : after .threadFeedTimeout (risky true .threading) (fun t =>
    decide (t.core.tr.st = .fault ∧ t.front.faults.map (fun e => (e.name, e.info)) = [(.threadFail, 10000#24)])) = true := by
  decide +kernel

/-- R59: an end stop of either dancer. -/
theorem test_safety_endStops :
    [(15, 2048), (16, 4080), (4080, 15), (16, 15)].map (fun (c : Nat × Nat) =>
      match exec (.tensionRegulatorPeriod c.1 c.2) (risky true .move) with
      | .next t => t.front.faults.map (·.info)
      | .fault _ => []
      | .refused _ => []) =
      [[0x1000F#24], [0x20FF0#24], [0x10FF0#24], [0x2000F#24]] := by decide +kernel

/-- R66: a feed of 10 s in a MOUNT ends its sequence. -/
theorem test_threadFeed_inMount : after .threadFeedTimeout (changed (mounting .thread none) fun c =>
        c.setTr { c.tr with st := .threading, rollWaits := true, feedCount := some 0 }) (fun t =>
      decide (t.core.tr.st = .fault ∧ t.core.roll.seq = none ∧ t.front.faults.map (·.name) = [.threadFail])) = true := by
  decide +kernel

/-- R66: the search brakes at 600,000 counts. -/
theorem test_searchLimit : after .firstFrameSearchLimit
    (onTr fun t => { t with st := .threading, threadStep := .seek, p := 600000 }) (fun t =>
    decide (t.core.tr.threadStep = .noFrames)) = true := by decide

/-- R68: 400,001 counts of travel with no nominal length are 400 thousands. -/
theorem test_unthreadLimit : after .unthreadTravelLimit farUnthread (fun t =>
    decide (t.core.tr.st = .fault ∧ t.front.faults.map (fun e => (e.name, e.info)) = [(.threadFail, 400#24)])) = true := by
  decide +kernel

/-- R70: a wake without tension is TENSION_LOW. -/
theorem test_wakeTimeout : after .wakeTimeout (risky true .hold) (fun t =>
    decide (t.core.tr.st = .fault ∧ t.front.faults.map (·.name) = [.tensionLow])) = true := by decide +kernel

/-- R71: a recovery without tension is TENSION_LOW. -/
theorem test_recoveryTimeout : after .recoveryTensionTimeout (risky true .unreferenced) (fun t =>
    decide (t.core.tr.st = .fault ∧ t.front.faults.map (·.name) = [.tensionLow])) = true := by decide +kernel

/-- R69: the relax ramp's end takes the drives off. -/
theorem test_relaxRampEnd : after .relaxRampEnd (onTr fun t => { t with st := .hold, relaxRamp := some 0 })
    (fun t => decide (t.core.tr.st = .relaxed ∧ t.core.tr.drives = false)) = true := by decide

/-! ## Steps: the index and the changer -/

/-- R38: one entry takes 60 bytes; a buffer of 59 is too short, and the stamp is used up. -/
theorem test_transferStart_short : after .indexTransferStart (porting (.exportFor 2 4) 59) (fun t =>
    decide (t.core.port.results = [.result (Return.plain 2 4 false 0 .noRoom 0x59)] ∧ t.core.ix.exportStamp = 2)) = true := by
  decide +kernel

/-- R111: a header of another roll is reason 3; the bay is MOUNTED all the same, with an empty index. -/
theorem test_importReadDone_roll : after (.importReadDone (.data (List.replicate 32 0))) (importing none) (fun t =>
    decide (t.front.faults.map (fun e => (e.name, e.info)) = [(.importRejected, 3#24)] ∧ (t.core.roll.bay 8).st = .mounted ∧
      t.core.ix.entries = [])) = true := by decide +kernel

/-- R178: a refused EXCHANGE ends the sequence with LINK_FAULT; the bay stays bound. -/
theorem test_exchange_refused : after (.exchange (some 2)) (fetching (.exchange 8 1)) (fun t =>
    decide (t.core.roll.seq = none ∧ (t.core.roll.bay 8).st = .bound ∧ t.front.faults.map (·.name) = [.linkDataNak])) = true := by
  decide +kernel

/-- R174: the poll timer submits STATUS. -/
theorem test_changerPollTimer : after .changerPollTimer (mounting .fetch (some exchanging)) (fun t =>
    decide (t.core.link.queue.map (·.msg) = [.status 1])) = true := by decide +kernel

/-- R175: READY threads the film. -/
theorem test_status_ready : after (.status [1, 0, 0]) (fetching (.status 1)) (fun t =>
    decide (t.core.tr.st = .threading ∧ t.core.tr.p = 0)) = true := by decide +kernel

/-- R178: ERROR with code 7 fails bay 8: 8 * 65,536 + 7 * 256 + 2. -/
theorem test_status_error : after (.status [2, 7, 0]) (fetching (.status 1)) (fun t =>
    decide ((t.core.roll.bay 8).st = .failed ∧
      t.front.faults.map (fun e => (e.name, e.info)) = [(.changerFault, 526082#24)])) = true := by decide +kernel

/-- R178: 30 s without READY fails bay 8 for reason 1. -/
theorem test_exchangeTimeout : after .exchangeTimeout (mounting .fetch (some exchanging)) (fun t =>
    decide ((t.core.roll.bay 8).st = .failed ∧
      t.front.faults.map (fun e => (e.name, e.info)) = [(.changerFault, 524289#24)])) = true := by decide +kernel

/-- R169: four bays with the first and the fourth occupied. -/
theorem test_survey_bays : after (.survey [0, 0, 0, 4, 0x09]) (changed surveying fun c => c.setPins { c.pins with strapBays := 7 })
    (fun t => decide (t.core.roll.bayCount = 4 ∧ (t.core.roll.bay 1).st = .loaded ∧ (t.core.roll.bay 2).st = .empty ∧
      (t.core.roll.bay 4).st = .loaded)) = true := by decide +kernel

/-- R181: a cassette put in an EMPTY bay 8; the check byte is the exclusive or of the others. -/
theorem test_bayEvent_in : after (.bayEvent [0x0B, 8, 1, 0x02]) (receiving .empty none) (fun t =>
    decide ((t.core.roll.bay 8).st = .loaded)) = true := by decide +kernel

/-! ## Steps: lens, capture, lamp -/

/-- R117: the homing run takes 4,096 steps. -/
theorem test_focusStep_homing : after .focusStepTick (inMode .run) (fun t =>
    decide (t.core.focus.homing = 4095)) = true := by decide

/-- R116: a lens that has settled at its frame. -/
theorem test_focusSettle : after .focusSettleDone (lens 5 5 (.moving .place) (some 0)) (fun t =>
    decide (t.core.focus.st = .settled)) = true := by decide

/-- R134: a ring of two slots: from slot 1 the cursor goes to slot 0. -/
theorem test_reservation_wraps : after (.reservationReadDone (.data [0, 0, 0, 0]))
    (waitingSlot fun k => { k with reservation := .flight, cursor := 1 }) (fun t =>
    decide (t.core.cap.inHand = some 1 ∧ t.core.cap.cursor = 0)) = true := by decide +kernel

/-- R135: the reread asks for the read again. -/
theorem test_reread : after .reservationRereadTimer (waitingSlot fun k => { k with reread := some 0 }) (fun t =>
    decide (t.core.cap.reservation = .queued)) = true := by decide +kernel

/-- R135: the Image Wait's end ends the pass with NO_ROOM. -/
theorem test_imageWait : after .imageWaitExpiry starving (fun t =>
    decide (t.core.rm.pass.bind (·.ending) = some .noRoom)) = true := by decide +kernel

/-- R139: at depth 2 a pixel is two bytes, low byte first. -/
theorem test_lineBytes : lineBytes 2 [0x0123#16, 0x0FFF#16] = [0x23, 0x01, 0xFF, 0x0F] := by decide

/-- R137: the 64th line of 64 frees the port. -/
theorem test_cameraLine_last : after (.cameraLine (List.replicate 64 0)) (reading 63 .readout false) (fun t =>
    decide (t.core.cap.camera = .idle ∧ t.core.cap.filling.map (·.ended) = [true])) = true := by decide +kernel

/-- R137: CAMERA_TIMEOUT names the 5 lines received. -/
theorem test_cameraTimeout : after .cameraTimeout (reading 5 .readout false) (fun t =>
    decide (t.front.faults.map (fun e => (e.name, e.info)) = [(.cameraTimeout, 5#24)] ∧
      t.core.cap.filling.map (·.damaged) = [true])) = true := by decide +kernel

/-- R140: a truncated flyby image releases CAM_HOLD. -/
theorem test_flybyHoldLimit : after .flybyHoldLimit (reading 5 .readout true) (fun t =>
    decide (t.core.cap.camHold = false ∧ t.core.cap.camera = .discarding)) = true := by decide +kernel

/-- R145, R193: LAMP SET's second byte refused: 2Ah * 65,536 + 10h * 256 + 2. -/
theorem test_lampSet_refused : after (.lampSet (some 2)) (lampSending (.lampSet 200) false) (fun t =>
    decide (t.front.faults.map (fun e => (e.name, e.info)) = [(.linkDataNak, 0x2A1002#24)])) = true := by decide +kernel

/-- R145: LAMP OFF acknowledged. -/
theorem test_lampOff : after (.lampOff none) (lampSending .lampOff false) (fun t =>
    decide (t.core.link.queue = [] ∧ t.front.faults = [])) = true := by decide +kernel

/-- R146: bit 0 of the first byte is the ready bit. -/
theorem test_lampStatus_ready : after (.lampStatus [1, 0]) (lampSending (.lampStatus 1) true) (fun t =>
    decide (t.core.cap.lamp.st = .ready)) = true := by decide +kernel

/-- R146: after 20 ms LAMP STATUS is submitted again. -/
theorem test_lampPollTimer : after .lampPollTimer lampCounting (fun t =>
    decide (t.core.link.queue.map (·.msg) = [.lampStatus 1])) = true := by decide +kernel

/-- R146: LAMP_TIMEOUT with the intensity last sent. -/
theorem test_lampTimeout : after .lampTimeout lampCounting (fun t =>
    decide (t.front.faults.map (fun e => (e.name, e.info)) = [(.lampTimeout, 200#24)] ∧ t.core.cap.lamp.st = .ready)) = true := by
  decide +kernel

/-- R146: the fixed warm-up's end. -/
theorem test_fixedWarmUpEnd : after .fixedWarmUpEnd lampCounting (fun t =>
    decide (t.core.cap.lamp.st = .ready)) = true := by decide +kernel

/-! ## Steps: the link and the modes' counts -/

/-- R187: the head goes to the wire. -/
theorem test_busFree : after .busFree (onLink fun l => { sending .lampOff .captureUnit l with st := .waitFree }) (fun t =>
    decide (t.core.link.st = .address)) = true := by decide +kernel

/-- R188: the retry's wait is over. -/
theorem test_retryWaitEnd : after .retryWaitEnd
    (onLink fun l => { sending .lampOff .captureUnit l with st := .retryWait, retryWait := some 0 }) (fun t =>
    decide (t.core.link.st = .waitFree)) = true := by decide +kernel

/-- R188: the fourth NAK of the address fails the lamp's message: 2Ah, 11h and 4 tries, requester 2. -/
theorem test_addressNak_fails : after .addressNotAcknowledged (trying 3 0) (fun t =>
    decide (t.front.faults.map (fun e => (e.name, e.info, e.aux)) = [(.linkNak, 0x2A1104#24, 2#28)])) = true := by
  decide +kernel

/-- R190: the eighth loss of arbitration in a row. -/
theorem test_lostArbitration_eighth : after (.lostArbitration none) (trying 0 7) (fun t =>
    decide (t.front.faults.map (fun e => (e.name, e.info)) = [(.linkArb, 0x2A1108#24)] ∧ t.core.link.st = .listen)) = true := by
  decide +kernel

/-- R191: a stretch after one data byte. -/
theorem test_clockStretch : after (.clockStretchLimit (some 1)) (trying 0 0) (fun t =>
    decide (t.front.faults.map (fun e => (e.name, e.info)) = [(.linkStretch, 0x2A1101#24)])) = true := by decide +kernel

/-- R192: SDA stays low: SCL's level in bit 17, SDA's in bit 16, and the link is DOWN. -/
theorem test_lowLine_down : after (.lowLineLimit true true false) (onLink id) (fun t =>
    decide (t.front.faults.map (fun e => (e.name, e.info)) = [(.linkStuck, 0x20000#24)] ∧ t.core.link.st = .down ∧
      t.core.pins.linkPulses = 9)) = true := by decide +kernel

/-- R194: the part's own address, 40h with the straps at 0, in the write direction. -/
theorem test_watchedAddress : after (.watchedAddressByte 0x40 true) (onLink id) (fun t =>
    decide (t.core.link.st = .target)) = true := by decide +kernel

/-- R190: another controller's stop condition ends LISTEN. -/
theorem test_foreignStop : after .foreignStopCondition (onLink fun l => { l with st := .listen }) (fun t =>
    decide (t.core.link.st = .idle)) = true := by decide +kernel

/-- R206: the idle count's end is STANDBY. -/
theorem test_idleTimeExpiry : after .idleTimeExpiry (on fun c => c.setModes { c.modes with idle := some 0 }) (fun t =>
    decide (t.core.modes.mode = .standby)) = true := by decide

/-- R207: the dormant count's end is DORMANT, where the sweep timer stops. -/
theorem test_dormantTimeExpiry : after .dormantTimeExpiry
    (on fun c => (c.setModes { c.modes with mode := .standby, dormant := some 0 }).setPort
      { c.port with sweepTimer := some 0, setup := { c.port.setup with dormantTime := 1 } }) (fun t =>
    decide (t.core.modes.mode = .dormant ∧ t.core.port.sweepTimer = none)) = true := by decide

/-- A step takes the command at the front of the queue; with none it lets 1 ms pass (notes/assumptions/1.md). -/
theorem test_step_front : (match step { inMode .run with pending := [.waBaseWrite true 3, .wake 8] } with
    | .next t => decide (t.front.waBaseHi = 3 ∧ t.pending = [.wake 8])
    | .fault _ => false
    | .refused _ => false) = true := by decide

/-! ## The spec's worked figures -/

/-- R63 and the worked figures after R65: 37,699 counts make a radius of 30,000, and L_rem of a type 2 roll is 6,225,187. -/
theorem test_worked_remaining_film : after (.tachometerPulse .supply)
    (onTr fun t => { t with st := .move, geometry := reelType [] 2
                            supply := { Reel.reset with window := some { pulses := 63, counts := 37699, dir := none } } }) (fun t =>
    decide (t.core.tr.supply.radius = some 30000 ∧ t.core.tr.lRem = 6225187)) = true := by decide

/-- R63: 31,416 counts make a radius of 25,000. -/
theorem test_worked_radius : after (.tachometerPulse .takeUp)
    (onTr fun t => { t with st := .move, geometry := reelType [] 2
                            takeUp := { Reel.reset with window := some { pulses := 63, counts := 31416, dir := none } } }) (fun t =>
    decide (t.core.tr.takeUp.radius = some 25000)) = true := by decide

/-- R79's table: a = 4000, End Margin 200,000, Creep Speed 40. -/
theorem test_worked_end_guard :
    [6225187, 290000, 200400, 200040, 200010, 200000].map (fun l =>
      endGuard { prof with accel := 4000, creepSpeed := 40 } (l - 200000)) = [15524, 1897, 126, 40, 40, 40] := by decide

/-- R80's worked case: G = 24,000, a = 4000, Index Speed 1000. -/
theorem test_worked_frontier_cap :
    [100000, 10000, 0].map (fun f : Int => (on fun c => (c.setStore { c.store with
        setA := some { prof with gateOffset := 24000, accel := 4000, indexSpeed := 1000 } }).setIx
          { c.ix with frontier := f }).core.extendCap) = [2116, 937, 692] := by decide

/-- R83: with T = 1,237,936, v = 1200 and L = 50, C = 1,237,924. -/
theorem test_worked_compare :
    (on fun c => (c.setStore { c.store with setA := some { prof with strobeLatency := 50 } }).setTr
      { c.tr with vRef := 1200000 }).core.compareValue 1237936 = 1237924 := by decide

/-- R85: D goes from 36 to 38 for an error of 52, to 33 for -3, and stays 33 for 37. -/
theorem test_worked_drift : driftToward 36 52 = 38 ∧ driftToward 38 (-3) = 33 ∧ driftToward 33 37 = 33 := by decide

/-- R67 and R80: B(50) = 63 and B(692) = 11,972 at a = 4000. -/
theorem test_worked_brake : brakeDistance 4000 50 = 63 ∧ brakeDistance 4000 692 = 11972 := by decide

/-- R129's worked probe: 24 steps between points scored 8400, 9100 and 8900 give an offset of 6. -/
theorem test_worked_probe_offset : probeOffset 24 8400 9100 8900 = 6 := by decide

end Sys2Proof.Tests
end

section
/-!
SUPPORT. The interrupt causes and Hold (R19): what raising each cause gives by Hold and by mode, and what a write of
CONTROL with HOLD_CLEAR leaves.
-/

namespace Sys2Proof.Machine

variable (c : Core) (f : Front)

/-! ## The message and Hold -/

/-- In the modes that send, the message sets Hold, and is counted where MSI is enabled. -/
theorem Front.message_sends (h : c.modes.mode.sends = true) :
    f.message c = { f with hold := true, msiSent := if c.pins.msiEnabled then f.msiSent + 1 else f.msiSent } := by
  rw [Front.message, if_pos h]

theorem Front.message_silent (h : c.modes.mode.sends = false) : f.message c = f := by
  simp [Front.message, h]

theorem Mode.sends_startUp_failed {m : Mode} (h : m = .startUp ∨ m = .failed) : m.sends = false := by
  rcases h with rfl | rfl <;> rfl

/-- With Hold clear a raised cause is the message. -/
theorem Front.causeRaised_clear (h : f.hold = false) : f.causeRaised c = f.message c := by
  simp [Front.causeRaised, h]

/-- With Hold set, and in START-UP and FAILED, a raised cause only stays pending. -/
theorem Front.causeRaised_pending (h : f.hold = true ∨ c.modes.mode = .startUp ∨ c.modes.mode = .failed) :
    f.causeRaised c = f := by
  unfold Front.causeRaised
  split
  · rfl
  · next hc => exact f.message_silent c (Mode.sends_startUp_failed (h.resolve_left hc))

/-- With Hold clear, in the modes that send, a raised cause sets Hold and is counted as a message. -/
theorem Front.causeRaised_sends (h : c.modes.mode.sends = true) (hc : f.hold = false) :
    (f.causeRaised c).hold = true ∧
    (f.causeRaised c).msiSent = (if c.pins.msiEnabled then f.msiSent + 1 else f.msiSent) := by
  simp [f.causeRaised_clear c hc, f.message_sends c h]

/-- HOLD_CLEAR leaves Hold set, by the message sent again, exactly when a cause is pending. -/
theorem Front.holdClear_sends (h : c.modes.mode.sends = true) :
    f.holdClear c = { f with
      hold := f.causeReturn || f.causeFault || f.causeSnapshot
      msiSent := if (f.causeReturn || f.causeFault || f.causeSnapshot) && c.pins.msiEnabled then f.msiSent + 1
        else f.msiSent } := by
  rw [Front.holdClear, if_pos h]
  cases hp : f.causeReturn || f.causeFault || f.causeSnapshot <;> simp [hp, Front.message_sends, h]

/-! ## HOLD_CLEAR in a write of CONTROL -/

theorem exec_holdClear (w : Word32) (s : State) : exec (.holdClear w) s = .next (s.controlWrite w) := by
  rfl

@[simp] theorem State.wakeField_false (s : State) : s.wakeField false = s := by
  unfold State.wakeField
  split <;> rfl

/-- A write of CONTROL without SOFT_RESET and WAKE, in the modes that send, is its ENABLE and HOLD_CLEAR fields. -/
theorem State.controlWrite_awake {w : Word32} {s : State} (hr : w.getLsbD 1 = false) (hw : w.getLsbD 3 = false)
    (h : s.core.modes.mode.sends = true) :
    s.controlWrite w = (s.enableField (w.getLsbD 0)).holdClearField (w.getLsbD 2) := by
  rw [State.controlWrite, hr, hw, State.wakeField_false]
  split
  · next hm => simp [hm, Mode.sends] at h
  · next hm => simp [hm, Mode.sends] at h
  · rfl

/-- The ENABLE field changes nothing in RUN, STANDBY and DORMANT, and in CONFIG WAIT while a setup read is in progress
or when it repeats the latch (R3). -/
theorem State.enableField_unchanged {b : Bool} {s : State}
    (h : s.core.modes.mode = .run ∨ s.core.modes.mode = .standby ∨ s.core.modes.mode = .dormant ∨
      s.core.modes.mode = .configWait ∧ (s.core.port.setupRead ≠ none ∨ b = s.front.enable)) :
    s.enableField b = s := by
  rcases h with hm | hm | hm | ⟨hm, hb⟩
  · simp [State.enableField, hm]
  · simp [State.enableField, hm]
  · simp [State.enableField, hm]
  · rcases hb with hread | rfl
    · simp [State.enableField, hm, Option.isSome_iff_ne_none.mpr hread]
    · simp [State.enableField, hm]

/-- Settles O9: each raised cause goes through `causeRaised`, and HOLD_CLEAR through `holdClear_sends`. -/
theorem interruptMessageAndHold : Obligations.InterruptMessageAndHold := by
  refine ⟨fun c f => ?sets, fun c f hm hc => ?sends, fun c f h => ?pending, fun w s hr hh hw hm => ?clears⟩
  case sets =>
    simp [Front.raiseReturn, Front.raiseFaultCause, Front.raiseSnapshot, Front.causeRaised_fields]
  case sends =>
    obtain ⟨holdR, msiR⟩ := Front.causeRaised_sends c { f with causeReturn := true } hm hc
    obtain ⟨holdF, msiF⟩ := Front.causeRaised_sends c { f with causeFault := true } hm hc
    obtain ⟨holdS, msiS⟩ := Front.causeRaised_sends c { f with causeSnapshot := true } hm hc
    exact ⟨holdR, holdF, holdS, msiR, msiF, msiS⟩
  case pending =>
    exact ⟨Front.causeRaised_pending c _ h, Front.causeRaised_pending c _ h, Front.causeRaised_pending c _ h⟩
  case clears =>
    have hs : s.core.modes.mode.sends = true := by
      rcases hm with hm | hm | hm | ⟨hm, -⟩ <;> rw [hm] <;> rfl
    rw [exec_holdClear, State.controlWrite_awake hr hw hs, State.enableField_unchanged hm, hh, State.holdClearField,
      if_pos rfl, Front.holdClear_sends s.core s.front hs]

end Sys2Proof.Machine
end

section
/-!
SUPPORT. The Status Writer (R21 to R23): what a trigger and the issue of a write do to the write mark, and the fields
of the record as they are read back from its bytes.
-/

namespace Sys2Proof.Machine

/-! ## Reading a record back -/

/-- A field that begins past a first part is that of the rest, at its offset there. -/
theorem fieldAt_append_past (a b : List Byte) {k : Nat} (n : Nat) (h : a.length ≤ k) :
    fieldAt (a ++ b) k n = fieldAt b (k - a.length) n := by
  rw [← fieldAt_append_right a b (k - a.length) n, Nat.add_sub_cancel' h]

/-- A signed field reads back what its bytes were made from. -/
theorem signedAt_signedBytes {n : Nat} {v : Int} (hn : 1 ≤ n) (hl : -2 ^ (8 * n - 1) ≤ v) (hu : v < 2 ^ (8 * n - 1)) :
    signedAt (signedBytes n v) 0 n = v := by
  have htwice : 2 ^ (8 * n) = 2 * 2 ^ (8 * n - 1) := by rw [← pow_succ', Nat.sub_add_cancel (by omega)]
  have hcast (k : Nat) : (2 : Int) ^ k = (2 ^ k : Nat) := by push_cast; rfl
  have hfits : (v % (2 ^ (8 * n) : Nat)).toNat < 256 ^ n := by
    rw [show 256 ^ n = 2 ^ (8 * n) by rw [pow_mul]; norm_num]
    omega
  simp only [signedAt, signedBytes, fieldAt_bytesOf _ _ hfits]
  simp only [hcast, htwice] at hl hu ⊢
  generalize 2 ^ (8 * n - 1) = half at *
  rcases Int.lt_or_le v 0 with hneg | hpos
  · rw [← Int.add_emod_right, Int.emod_eq_of_lt (by omega) (by omega)]
    split <;> omega
  · rw [Int.emod_eq_of_lt hpos (by omega)]
    split <;> omega

/-! ## The Triggers field -/

/-- The Triggers field as a binary number: the triggers from bit 0 on, and the signal flag in bit 15. -/
theorem Triggers.field_eq_bits (t : Triggers) (b : Bool) :
    t.field b = Nat.bit t.setup (Nat.bit t.mode (Nat.bit t.mountDone (Nat.bit t.unmountDone (Nat.bit t.passEnd
      (Nat.bit t.fault (Nat.bit t.mapEmptied (256 * b.toNat))))))) := by
  simp only [Triggers.field, Nat.bit_val]
  ring

theorem Triggers.field_lt (t : Triggers) (b : Bool) : t.field b < 65536 := by
  unfold Triggers.field
  linarith [t.setup.toNat_le, t.mode.toNat_le, t.mountDone.toNat_le, t.unmountDone.toNat_le, t.passEnd.toNat_le,
    t.fault.toNat_le, t.mapEmptied.toNat_le, b.toNat_le]

theorem Triggers.field_testBit (t : Triggers) (b : Bool) :
    (t.field b).testBit 0 = t.setup ∧ (t.field b).testBit 1 = t.mode ∧ (t.field b).testBit 2 = t.mountDone ∧
    (t.field b).testBit 3 = t.unmountDone ∧ (t.field b).testBit 4 = t.passEnd ∧ (t.field b).testBit 5 = t.fault ∧
    (t.field b).testBit 6 = t.mapEmptied ∧ (t.field b).testBit 15 = b := by
  have hsignal : (256 * b.toNat).testBit 8 = b := by cases b <;> rfl
  simp [Triggers.field_eq_bits, Nat.testBit_bit_succ, hsignal]

/-! ## The record's second write -/

/-- The bytes of a snapshot between its head stamp and the capture counter: offsets 04h to 1Dh of R23's record. -/
def snapshotBody (f : Front) (c : Core) (t : Triggers) (signal : Bool) : List Byte :=
  bytesOf 2 (t.field signal) ++ bytesOf 1 c.modes.mode.code ++ bytesOf 1 c.tr.st.code ++ signedBytes 4 c.tr.p
    ++ bytesOf 1 (c.roll.mounted.getD 0) ++ bytesOf 1 c.prof.id ++ bytesOf 1 c.modes.progress
    ++ bytesOf 1 (f.faults.length + 128 * f.overflow.toNat) ++ bytesOf 4 c.mountedRoll ++ signedBytes 4 c.ix.frontier
    ++ bytesOf 2 c.ix.count ++ signedBytes 2 c.ix.drift ++ bytesOf 1 c.rm.pendingSet.length ++ bytesOf 1 c.passSlot

section body
variable (f : Front) (c : Core) (t : Triggers) (b : Bool)

theorem snapshotWrites_eq (stamp : Nat) :
    snapshotWrites f c stamp t b = [(0x00, bytesOf 4 stamp), (0x04, snapshotBody f c t b),
      (0x20, bytesOf 4 c.cap.counter), (0xFC, bytesOf 4 stamp)] := rfl

theorem length_snapshotBody : (snapshotBody f c t b).length = 26 := by
  simp [snapshotBody]

/-- Each part of the body stands at its offset. -/
theorem fieldAt_snapshotBody :
    fieldAt (snapshotBody f c t b) 0 2 = fieldAt (bytesOf 2 (t.field b)) 0 2 ∧
    fieldAt (snapshotBody f c t b) 2 1 = fieldAt (bytesOf 1 c.modes.mode.code) 0 1 ∧
    fieldAt (snapshotBody f c t b) 3 1 = fieldAt (bytesOf 1 c.tr.st.code) 0 1 ∧
    fieldAt (snapshotBody f c t b) 4 4 = fieldAt (signedBytes 4 c.tr.p) 0 4 ∧
    fieldAt (snapshotBody f c t b) 8 1 = fieldAt (bytesOf 1 (c.roll.mounted.getD 0)) 0 1 ∧
    fieldAt (snapshotBody f c t b) 9 1 = fieldAt (bytesOf 1 c.prof.id) 0 1 ∧
    fieldAt (snapshotBody f c t b) 10 1 = fieldAt (bytesOf 1 c.modes.progress) 0 1 ∧
    fieldAt (snapshotBody f c t b) 11 1 = fieldAt (bytesOf 1 (f.faults.length + 128 * f.overflow.toNat)) 0 1 ∧
    fieldAt (snapshotBody f c t b) 12 4 = fieldAt (bytesOf 4 c.mountedRoll) 0 4 ∧
    fieldAt (snapshotBody f c t b) 16 4 = fieldAt (signedBytes 4 c.ix.frontier) 0 4 ∧
    fieldAt (snapshotBody f c t b) 20 2 = fieldAt (bytesOf 2 c.ix.count) 0 2 ∧
    fieldAt (snapshotBody f c t b) 22 2 = fieldAt (signedBytes 2 c.ix.drift) 0 2 ∧
    fieldAt (snapshotBody f c t b) 24 1 = fieldAt (bytesOf 1 c.rm.pendingSet.length) 0 1 ∧
    fieldAt (snapshotBody f c t b) 25 1 = fieldAt (bytesOf 1 c.passSlot) 0 1 := by
  simp [snapshotBody, fieldAt_append_left, fieldAt_append_past]

theorem Mode.code_lt (m : Mode) : m.code < 256 := by cases m <;> decide

theorem TState.code_lt (st : TState) : st.code < 256 := by cases st <;> decide

/-- The entry count with Overflow above it, as the record's byte holds them. -/
theorem faultByte_eq (h : f.faults.length ≤ 16) :
    fieldAt (bytesOf 1 (f.faults.length + 128 * f.overflow.toNat)) 0 1 =
      f.faults.length + (if f.overflow then 128 else 0) := by
  cases f.overflow
  · exact fieldAt_bytesOf 1 _ (by simp; omega)
  · exact fieldAt_bytesOf 1 _ (by simp; omega)

/-- The signed fields of the body read back the numbers sampled. -/
theorem signedAt_snapshotBody :
    (-2147483648 ≤ c.tr.p → c.tr.p ≤ 2147483647 → signedAt (snapshotBody f c t b) 4 4 = c.tr.p) ∧
    (-2147483648 ≤ c.ix.frontier → c.ix.frontier ≤ 2147483647 →
      signedAt (snapshotBody f c t b) 16 4 = c.ix.frontier) ∧
    (-32768 ≤ c.ix.drift → c.ix.drift ≤ 32767 → signedAt (snapshotBody f c t b) 22 2 = c.ix.drift) := by
  obtain ⟨-, -, -, position, -, -, -, -, -, frontier, -, drift, -⟩ := fieldAt_snapshotBody f c t b
  simp only [signedAt, position, frontier, drift]
  refine ⟨fun hl hu => ?_, fun hl hu => ?_, fun hl hu => ?_⟩
  · exact signedAt_signedBytes (n := 4) (by decide) (by omega) (by omega)
  · exact signedAt_signedBytes (n := 4) (by decide) (by omega) (by omega)
  · exact signedAt_signedBytes (n := 2) (by decide) (by omega) (by omega)

end body

/-! ## The write mark -/

section mark
variable (c : Core) (f : Front)

/-- With a Work Area, a trigger that meets no write begins one. -/
theorem Front.trigger_idle {t : Triggers} {b : Bool} (hw : c.port.workArea ≠ none) (hm : f.snapMark = .idle) :
    f.trigger c t b = f.startSnapshot c t b := by
  simp [Front.trigger, Option.isSome_iff_ne_none.mpr hw, hm]

/-- The first trigger that meets a write in progress is its follow-up. -/
theorem Front.trigger_writing {t : Triggers} {b d : Bool} {left : List (Nat × List Byte)}
    (hw : c.port.workArea ≠ none) (hm : f.snapMark = .writing left d none) :
    f.trigger c t b = { f with snapMark := .writing left d (some (t, b)) } := by
  simp [Front.trigger, Option.isSome_iff_ne_none.mpr hw, hm]

/-- A further trigger is merged into the follow-up held. -/
theorem Front.trigger_merged {t u : Triggers} {a b d : Bool} {left : List (Nat × List Byte)}
    (hw : c.port.workArea ≠ none) (hm : f.snapMark = .writing left d (some (u, a))) :
    f.trigger c t b = { f with snapMark := .writing left d (some (u.union t, a || b)) } := by
  simp [Front.trigger, Option.isSome_iff_ne_none.mpr hw, hm]

/-- The front once a snapshot's last write has been issued, before a follow-up begins. -/
def Front.snapshotDone (c : Core) (signal : Bool) (f : Front) : Front :=
  if signal then ({ f with snapMark := .idle }).raiseSnapshot c else { f with snapMark := .idle }

/-- A completed snapshot raises SNAPSHOT when its signal flag is set, and touches neither the stamp nor the queue. -/
theorem Front.snapshotDone_fields (signal : Bool) :
    (f.snapshotDone c signal).causeSnapshot = (signal || f.causeSnapshot) ∧
    (f.snapshotDone c signal).snapMark = .idle ∧ (f.snapshotDone c signal).snapStamp = f.snapStamp ∧
    (f.snapshotDone c signal).faults = f.faults ∧ (f.snapshotDone c signal).overflow = f.overflow := by
  cases signal with
  | false => simp [Front.snapshotDone]
  | true => simp [Front.snapshotDone, Front.raiseSnapshot, Front.causeRaised_fields]

/-- The issue of a write that is not the last. -/
theorem Front.snapshotIssued_more {x y : Nat × List Byte} {l : List (Nat × List Byte)} {b : Bool}
    {u : Option (Triggers × Bool)} (h : f.snapMark = .writing (x :: y :: l) b u) :
    f.snapshotIssued c = { f with snapMark := .writing (y :: l) b u } := by
  simp [Front.snapshotIssued, h]

/-- The issue of the last write, with no follow-up held. -/
theorem Front.snapshotIssued_last {x : Nat × List Byte} {b : Bool} (h : f.snapMark = .writing [x] b none) :
    f.snapshotIssued c = f.snapshotDone c b := by
  simp [Front.snapshotIssued, Front.snapshotDone, h]

/-- The issue of the last write, with a follow-up held: it begins. -/
theorem Front.snapshotIssued_followUp {x : Nat × List Byte} {b a : Bool} {t : Triggers}
    (h : f.snapMark = .writing [x] b (some (t, a))) :
    f.snapshotIssued c = (f.snapshotDone c b).startSnapshot c t a := by
  simp [Front.snapshotIssued, Front.snapshotDone, h]

/-- A write that begins leaves the causes as they are. -/
theorem Front.startSnapshot_causeSnapshot (t : Triggers) (b : Bool) :
    (f.startSnapshot c t b).causeSnapshot = f.causeSnapshot := rfl

/-- SNAPSHOT after the last write, whether or not a follow-up begins. -/
theorem Front.snapshotIssued_causeSnapshot {x : Nat × List Byte} {b : Bool} {u : Option (Triggers × Bool)}
    (h : f.snapMark = .writing [x] b u) : (f.snapshotIssued c).causeSnapshot = (b || f.causeSnapshot) := by
  obtain ⟨cause, -⟩ := f.snapshotDone_fields c b
  cases u with
  | none => rw [f.snapshotIssued_last c h, cause]
  | some u => rw [f.snapshotIssued_followUp c h, Front.startSnapshot_causeSnapshot, cause]

/-- Of the front, a record samples the Fault Queue alone. -/
theorem snapshotWrites_congr {f g : Front} (hf : g.faults = f.faults) (ho : g.overflow = f.overflow) (stamp : Nat)
    (t : Triggers) (b : Bool) : snapshotWrites g c stamp t b = snapshotWrites f c stamp t b := by
  simp [snapshotWrites, hf, ho]

/-- The follow-up takes the next stamp, and samples the part as it stands at the completion. -/
theorem Front.snapshotIssued_restarts {x : Nat × List Byte} {b a : Bool} {t : Triggers}
    (h : f.snapMark = .writing [x] b (some (t, a))) :
    (f.snapshotIssued c).snapStamp = nextStamp 4294967295 f.snapStamp ∧
    (f.snapshotIssued c).snapMark =
      .writing (snapshotWrites f c (nextStamp 4294967295 f.snapStamp) t a) a none := by
  obtain ⟨-, -, stamp, faults, overflow⟩ := f.snapshotDone_fields c b
  rw [f.snapshotIssued_followUp c h, ← stamp, ← snapshotWrites_congr c faults overflow]
  exact ⟨rfl, rfl⟩

end mark

theorem Core.passSlot_of_none {c : Core} (h : c.rm.pass = none) : c.passSlot = 0xFF := by
  simp [Core.passSlot, h]

theorem Core.passSlot_of_request {c : Core} {q : Pass} {r : Kind} (h : c.rm.pass = some q)
    (hk : q.kind = .request r) : c.passSlot = q.slot := by
  simp [Core.passSlot, h, hk]

/-- An automatic pass shows no slot (R149). -/
theorem Core.passSlot_of_automatic {c : Core} {q : Pass} (h : c.rm.pass = some q) (hk : ∀ r, q.kind ≠ .request r) :
    c.passSlot = 0xFF := by
  simp only [Core.passSlot, h]

/-- Settles O14: the queue's clauses are `raiseFault_joins` and `raiseFault_discarded`, the write mark's follow from the
rules of `trigger` and `snapshotIssued`, and the record's from the fields of `snapshotBody`. -/
theorem faultAndSnapshotCauses : Obligations.FaultAndSnapshotCauses := by
  refine ⟨fun c f e hl ho => ?joins, fun c f e h => f.raiseFault_discarded c e h, fun c f x u h => ?signalled,
    fun c f x u h => ?unsignalled, fun c f x y l b u h => f.snapshotIssued_more c h,
    fun c f g b h => f.trigger_of_none c g b h, fun c f g b d left hw hm => f.trigger_writing c hw hm,
    fun c f g h a b d left hw hm => f.trigger_merged c hw hm, fun c f x g a b stamp h hs => ?followUp,
    fun c f x b h => ?completed, fun c f g b stamp hw hm hs => ?record⟩
  case joins =>
    obtain ⟨faults, cause, -⟩ := f.raiseFault_joins c e hl ho
    exact ⟨faults, cause⟩
  case signalled => rw [f.snapshotIssued_causeSnapshot c h, Bool.true_or]
  case unsignalled => rw [f.snapshotIssued_causeSnapshot c h, Bool.false_or]
  case followUp =>
    rw [hs]
    exact f.snapshotIssued_restarts c h
  case completed =>
    obtain ⟨-, mark, stamp, -⟩ := f.snapshotDone_fields c b
    rw [f.snapshotIssued_last c h]
    exact ⟨stamp, mark⟩
  case record =>
    obtain ⟨triggers, mode, state, -, bay, profile, progress, queue, roll, -, frames, -, pending, slot⟩ :=
      fieldAt_snapshotBody f c g b
    obtain ⟨position, frontier, drift⟩ := signedAt_snapshotBody f c g b
    refine ⟨snapshotBody f c g b, ?_, length_snapshotBody f c g b, ?_, ?_, ?_, position, fun d hd hn => ?_, fun hd => ?_,
      fun hn => ?_, fun hn => ?_, fun hn => ?_, fun hn => ?_, frontier, fun hn => ?_, drift, fun hn => ?_,
      fun hq => ?_, fun q hq hn => ?_⟩
    · rw [f.trigger_idle c hw hm, hs]; rfl
    · rw [triggers, fieldAt_bytesOf 2 _ (g.field_lt b)]; exact g.field_testBit b
    · rw [mode, fieldAt_bytesOf 1 _ c.modes.mode.code_lt]
    · rw [state, fieldAt_bytesOf 1 _ c.tr.st.code_lt]
    · rw [bay, hd, Option.getD_some, fieldAt_bytesOf 1 d hn]
    · rw [bay, hd, Option.getD_none, fieldAt_bytesOf 1 0 (by decide)]
    · rw [profile, fieldAt_bytesOf 1 _ hn]
    · rw [progress, fieldAt_bytesOf 1 _ hn]
    · rw [queue, faultByte_eq f hn]
    · rw [roll, fieldAt_bytesOf 4 _ hn]
    · exact frames.trans (fieldAt_bytesOf 2 _ hn)
    · rw [pending, fieldAt_bytesOf 1 _ hn]
    · rw [slot, Core.passSlot_of_none hq, fieldAt_bytesOf 1 0xFF (by decide)]
    · split
      · next r hk => rw [slot, Core.passSlot_of_request hq hk, fieldAt_bytesOf 1 _ hn]
      · next hk => rw [slot, Core.passSlot_of_automatic hq hk, fieldAt_bytesOf 1 0xFF (by decide)]

end Sys2Proof.Machine
end

section
/-!
SUPPORT. A write to FAULT_TOP (R200): what a pop leaves by the queue's length and Overflow, and its order with a newly
raised fault.
-/

namespace Sys2Proof.Machine

/-! ## The command by mode -/

theorem exec_faultTopPop (w : Word32) (s : State) : exec (.faultTopPop w) s = execFaultTopPop w s := by
  rfl

theorem exec_faultTopPop_pops (w : Word32) {s : State} (hh : s.core.modes.mode ≠ .held)
    (hf : s.core.modes.mode ≠ .failed) (hs : s.core.modes.mode ≠ .startUp) :
    exec (.faultTopPop w) s = .next { s with front := s.front.pop s.core } := by
  rw [exec_faultTopPop]
  unfold execFaultTopPop
  split
  · next hm => exact absurd hm hh
  · next hm => exact absurd hm hf
  · next hm => exact absurd hm hs
  · rfl

/-- R1: START-UP and FAILED take no write to FAULT_TOP. -/
theorem exec_faultTopPop_ignored (w : Word32) {s : State}
    (h : s.core.modes.mode = .failed ∨ s.core.modes.mode = .startUp) : exec (.faultTopPop w) s = .next s := by
  rcases h with hm | hm <;> simp [exec_faultTopPop, execFaultTopPop, hm]

/-! ## The pop by the queue it meets -/

section pop
variable (c : Core) (f : Front)

theorem Front.faults_tail_eq_nil (h : f.faults.length ≤ 1) : f.faults.tail = [] :=
  List.eq_nil_of_length_eq_zero (by rw [List.length_tail]; omega)

/-- A pop that leaves an entry changes the queue alone. -/
theorem Front.pop_more (h : 2 ≤ f.faults.length) : f.pop c = { f with faults := f.faults.tail } := by
  have hne : f.faults.tail ≠ [] := List.ne_nil_of_length_pos (by rw [List.length_tail]; omega)
  simp [Front.pop, hne]

/-- A pop that empties the queue with nothing to report clears Overflow. -/
theorem Front.pop_last (h : f.faults.length ≤ 1) (hd : f.overflow = false ∨ f.discards = 0) :
    f.pop c = { f with faults := [], overflow := false } := by
  have hreport : (f.overflow && decide (0 < f.discards)) = false := by
    rcases hd with hd | hd <;> simp [hd]
  simp [Front.pop, f.faults_tail_eq_nil h, hreport]

/-- The entry FAULTS_DISCARDED that reports the faults counted so far. -/
def Front.discardReport (f : Front) : FaultEntry :=
  ⟨.faultsDiscarded, .faultQueue, BitVec.ofNat 24 f.discards, 0⟩

/-- A pop that empties an overflowed queue clears Overflow first, then raises the report and starts the count again. -/
theorem Front.pop_overflowed (h : f.faults.length ≤ 1) (ho : f.overflow = true) (hd : 0 < f.discards) :
    f.pop c =
      { Front.raiseFault c f.discardReport { f with faults := [], overflow := false } with discards := 0 } := by
  simp [Front.pop, Front.discardReport, f.faults_tail_eq_nil h, ho, hd]

/-- The report finds the queue empty, so it joins as the one entry. -/
theorem Front.pop_reports (h : f.faults.length ≤ 1) (ho : f.overflow = true) (hd : 0 < f.discards) :
    (f.pop c).faults = [⟨.faultsDiscarded, .faultQueue, BitVec.ofNat 24 f.discards, 0⟩] ∧
    (f.pop c).overflow = false ∧ (f.pop c).discards = 0 ∧ (f.pop c).causeFault = true := by
  obtain ⟨faults, cause, overflow, -⟩ :=
    Front.raiseFault_joins c { f with faults := [], overflow := false } f.discardReport (by simp) rfl
  rw [f.pop_overflowed c h ho hd]
  exact ⟨faults, overflow, rfl, cause⟩

/-- With Overflow clear a pop only removes the oldest entry. -/
theorem Front.pop_of_overflow_clear (h : f.overflow = false) : f.pop c = { f with faults := f.faults.tail } := by
  rcases Nat.lt_or_ge 1 f.faults.length with hl | hl
  · exact f.pop_more c hl
  · rw [f.pop_last c hl (.inl h), f.faults_tail_eq_nil hl, ← h]

end pop

/-- Settles O13: each clause is a case of the pop, and each order of a pop and a fault is that case joined with
`raiseFault_joins` or `raiseFault_discarded`. -/
theorem faultTopPopRemovesOldest : Obligations.FaultTopPopRemovesOldest := by
  refine ⟨fun w s => exec_faultTopPop_pops w, fun w s => exec_faultTopPop_ignored w, fun c f => f.pop_more c,
    fun c f => f.pop_last c, fun c f => f.pop_reports c, fun c f h ho => ?empty, fun c f e h ho hd => ?popReports,
    fun c f e ho hl => ?popThenFault, fun c f e h hl => ?discardThenPop, fun c f e hl ho => ?discardThenReport,
    fun c f e hl ho => ?joinThenPop⟩
  case empty =>
    rw [f.pop_of_overflow_clear c ho, h, List.tail_nil, ← h]
  case popReports =>
    obtain ⟨faults, overflow, -⟩ := f.pop_reports c h ho hd
    have room : (f.pop c).faults.length < 16 := by simp [faults]
    rw [((f.pop c).raiseFault_joins c e room overflow).1, faults, List.singleton_append]
  case popThenFault =>
    have room : f.faults.tail.length < 16 := by rw [List.length_tail]; omega
    rw [f.pop_of_overflow_clear c ho]
    obtain ⟨faults, cause, overflow, -⟩ :=
      Front.raiseFault_joins c { f with faults := f.faults.tail } e room ho
    exact ⟨faults, overflow, cause⟩
  case discardThenPop =>
    obtain ⟨faults, -, -, discards⟩ := f.raiseFault_discarded c e h
    refine ⟨?_, discards⟩
    rw [(f.raiseFault c e).pop_more c (by rwa [faults]), faults]
  case discardThenReport =>
    obtain ⟨faults, -, overflow, discards⟩ := f.raiseFault_discarded c e (.inr ho)
    obtain ⟨popped, -, count, -⟩ := (f.raiseFault c e).pop_reports c (by rwa [faults]) overflow (by omega)
    exact ⟨by rw [popped, discards], count⟩
  case joinThenPop =>
    obtain ⟨faults, -, overflow, -⟩ := f.raiseFault_joins c e hl ho
    rw [(f.raiseFault c e).pop_of_overflow_clear c overflow, faults]

end Sys2Proof.Machine
end

section
/-!
SUPPORT. What every command can do to the block (95_what_each_step_holds): most act on the core alone, through `runCore`;
the others are named. Then the invariant of the block, and what a part held in a full reset does.
-/

namespace Sys2Proof.Machine

/-! ## The commands that act on the core alone -/

/-- The commands whose whole effect is one of the core, settled (`State.runCore`). -/
def actsOnCore : Instr → Bool
  | .waBaseWrite .. | .enable .. | .softReset .. | .holdClear .. | .wake .. | .post .. | .statusRead | .faultTopPop ..
  | .registerWriteIgnored .. | .fullReset .. | .startUp | .selftestTestDone .. | .memoryPortGrant
  | .filmPresentChange .. | .extStopAssert | .extStopRelease => false
  | _ => true

theorem exec_of_actsOnCore {i : Instr} (h : actsOnCore i = true) (s : State) :
    ∃ f, exec i s = .next (s.runCore f) := by
  cases i with
  | waBaseWrite | enable | softReset | holdClear | wake | post | statusRead | faultTopPop | registerWriteIgnored
  | fullReset | startUp | selftestTestDone | memoryPortGrant | filmPresentChange | extStopAssert | extStopRelease =>
    cases h
  | _ => exact ⟨_, rfl⟩

/-! ## The invariant -/

theorem State.sound_iff (s : State) : s.sound = true ↔
    s.front.bounded = true ∧ s.core.out = [] ∧ s.core.endDue = false := by
  simp [State.sound, and_assoc]

/-- Of the front, only the bounded registers and queues count. -/
theorem Front.bounded_congr {f g : Front} (lo : g.waBaseLo = f.waBaseLo) (faults : g.faults = f.faults)
    (discards : g.discards = f.discards) (stamp : g.snapStamp = f.snapStamp) : g.bounded = f.bounded := by
  simp [Front.bounded, lo, faults, discards, stamp]

/-- Whether an end is due depends on the Active Pass and the Capture Unit alone. -/
theorem Core.endDue_congr {c d : Core} (rm : d.rm = c.rm) (cap : d.cap = c.cap) : d.endDue = c.endDue := by
  simp only [Core.endDue, rm, cap]

theorem Core.endDue_of_no_pass {c : Core} (h : c.rm.pass = none) : c.endDue = false := by
  simp [Core.endDue, h]

section front
variable (c : Core) {f : Front}

theorem Front.bounded_take (o : Out) (h : f.bounded = true) : (f.take c o).bounded = true := by
  cases o with
  | fault e => exact f.bounded_raiseFault c e h
  | returnCause => exact Front.bounded_causeRaised c _ h
  | snapshot t b => exact f.bounded_trigger c t b h
  | setupRefused r => exact h

theorem Front.bounded_foldl_take (l : List Out) : ∀ {f : Front}, f.bounded = true →
    (l.foldl (Front.take c) f).bounded = true := by
  induction l with
  | nil => exact id
  | cons o l ih => exact fun h => ih (Front.bounded_take c o h)

theorem Front.bounded_startSnapshot (t : Triggers) (b : Bool) (h : f.bounded = true) :
    (f.startSnapshot c t b).bounded = true := by
  obtain ⟨lo, faults, discards, stamp⟩ := f.bounded_iff.1 h
  refine (Front.bounded_iff _).2 ⟨lo, faults, discards, ?_⟩
  simp only [Front.startSnapshot, nextStamp]
  split <;> omega

theorem Front.bounded_snapshotIssued (h : f.bounded = true) : (f.snapshotIssued c).bounded = true := by
  have raised (s : Bool) : (f.snapshotDone c s).bounded = true := by
    cases s with
    | false => exact h
    | true => exact Front.bounded_causeRaised c _ h
  unfold Front.snapshotIssued
  split
  · exact h
  · next s u _ _ =>
    cases u with
    | none => exact raised s
    | some u => exact Front.bounded_startSnapshot c _ _ (raised s)
  · exact h

theorem Front.bounded_holdClear (h : f.bounded = true) : (f.holdClear c).bounded = true := by
  refine (Front.bounded_congr ?_ ?_ ?_ ?_).trans h
  all_goals
    simp only [Front.holdClear, Front.message]
    repeat' split
  all_goals rfl

theorem Front.bounded_pop (h : f.bounded = true) : (f.pop c).bounded = true := by
  obtain ⟨lo, faults, discards, stamp⟩ := f.bounded_iff.1 h
  have popped (o : Bool) : ({ f with faults := f.faults.tail, overflow := o } : Front).bounded = true :=
    (Front.bounded_iff _).2 ⟨lo, by simp only [List.length_tail]; omega, discards, stamp⟩
  rcases Nat.lt_or_ge 1 f.faults.length with hl | hl
  · rw [f.pop_more c hl]
    exact popped f.overflow
  rw [f.faults_tail_eq_nil hl] at popped
  by_cases hd : f.overflow = true ∧ 0 < f.discards
  · obtain ⟨lo, faults, -, stamp⟩ := (Front.bounded_iff _).1 (Front.bounded_raiseFault c _ f.discardReport (popped false))
    rw [f.pop_overflowed c hl hd.1 hd.2]
    exact (Front.bounded_iff _).2 ⟨lo, faults, Nat.zero_le _, stamp⟩
  · rw [f.pop_last c hl (by cases ho : f.overflow <;> simp_all)]
    exact popped false

end front

/-- Settling an effect of the core keeps the invariant, whatever the effect is: what it sent reaches the front within
the bounds, and no end is due after it. -/
theorem State.sound_runCore {s : State} (f : Core → Core) (h : s.sound = true) : (s.runCore f).sound = true := by
  by_cases hm : s.core.modes.mode = .held
  · rwa [State.runCore_held f hm]
  · obtain ⟨bounded, -, -⟩ := s.sound_iff.1 h
    obtain ⟨out, due⟩ := State.runCore_settled f hm
    refine (State.sound_iff _).2 ⟨?_, out, due⟩
    rw [State.runCore_awake f hm]
    exact Front.bounded_foldl_take _ _ bounded

/-- The invariant is kept by a change of the front within its bounds. -/
theorem State.sound_setFront {s : State} {f : Front} (h : s.sound = true) (hf : f.bounded = true) :
    ({ s with front := f } : State).sound = true :=
  have ⟨_, out, due⟩ := s.sound_iff.1 h
  (State.sound_iff _).2 ⟨hf, out, due⟩

/-- The invariant is kept by a change of the core that neither sends nor changes what `endDue` reads. -/
theorem State.sound_setCore {s : State} {c : Core} (h : s.sound = true) (out : c.out = s.core.out)
    (rm : c.rm = s.core.rm) (cap : c.cap = s.core.cap) : ({ s with core := c } : State).sound = true :=
  have ⟨bounded, empty, due⟩ := s.sound_iff.1 h
  (State.sound_iff _).2 ⟨bounded, out.trans empty, (Core.endDue_congr rm cap).trans due⟩

section
variable {s : State} (h : s.sound = true)
include h

theorem State.sound_front : s.front.bounded = true := (s.sound_iff.1 h).1

theorem State.sound_setupBegin : s.setupBegin.sound = true := by
  unfold State.setupBegin
  exact State.sound_runCore _ (State.sound_setFront h (s.sound_front h))

theorem State.sound_enableField (b : Bool) : (s.enableField b).sound = true := by
  have latched : ({ s with front := { s.front with enable := b } } : State).sound = true :=
    State.sound_setFront h (s.sound_front h)
  unfold State.enableField
  repeat' split
  · exact latched
  · exact h
  · exact State.sound_setupBegin latched
  · exact latched
  · exact h

theorem State.sound_holdClearField (b : Bool) : (s.holdClearField b).sound = true := by
  unfold State.holdClearField
  split
  · exact State.sound_setFront h (Front.bounded_holdClear s.core (s.sound_front h))
  · exact h

theorem State.sound_wakeField (b : Bool) : (s.wakeField b).sound = true := by
  unfold State.wakeField
  repeat' split
  all_goals first | exact h | exact State.sound_runCore _ h

theorem State.sound_softReset : s.softReset.sound = true := by
  have reset : ({ s with front := s.front.softReset, core := s.core.softReset } : State).sound = true := by
    obtain ⟨lo, -, -, stamp⟩ := s.front.bounded_iff.1 (s.sound_front h)
    exact (State.sound_iff _).2 ⟨(Front.bounded_iff _).2 ⟨lo, Nat.zero_le _, Nat.zero_le _, stamp⟩, rfl,
      Core.endDue_of_no_pass rfl⟩
  unfold State.softReset
  split
  all_goals first | exact reset | exact h

theorem State.sound_controlWrite (w : Word32) : (s.controlWrite w).sound = true := by
  have fields := State.sound_wakeField
    (State.sound_holdClearField (s.sound_enableField h (w.getLsbD 0)) (w.getLsbD 2)) (w.getLsbD 3)
  unfold State.controlWrite
  repeat' split
  · exact h
  · exact h
  · exact s.sound_softReset h
  · exact fields

theorem State.sound_grant (r : Requester) (t : Transaction) : (s.grant r t).sound = true := by
  have issued : ({ s with core := s.core.setPort { s.core.port with last := r, issued := some t } } : State).sound = true :=
    State.sound_setCore h rfl rfl rfl
  unfold State.grant
  apply State.sound_runCore
  split
  · exact State.sound_setFront issued (Front.bounded_snapshotIssued _ (s.sound_front h))
  · exact issued

end

theorem Front.bounded_reset : Front.reset.bounded = true := by decide

theorem State.sound_hold (s : State) (p : Bool) : (s.hold p).sound = true :=
  (State.sound_iff _).2 ⟨(Front.bounded_congr rfl rfl rfl rfl).trans Front.bounded_reset, rfl, rfl⟩

@[simp] theorem State.setupBegin_pending (s : State) : s.setupBegin.pending = s.pending := by
  unfold State.setupBegin
  exact State.runCore_pending _ _

@[simp] theorem State.enableField_pending (s : State) (b : Bool) : (s.enableField b).pending = s.pending := by
  unfold State.enableField
  repeat' split
  all_goals simp

@[simp] theorem State.holdClearField_pending (s : State) (b : Bool) : (s.holdClearField b).pending = s.pending := by
  unfold State.holdClearField
  split <;> rfl

@[simp] theorem State.wakeField_pending (s : State) (b : Bool) : (s.wakeField b).pending = s.pending := by
  unfold State.wakeField
  repeat' split
  all_goals simp

@[simp] theorem State.softReset_pending (s : State) : s.softReset.pending = s.pending := by
  unfold State.softReset
  split <;> rfl

@[simp] theorem State.controlWrite_pending (s : State) (w : Word32) : (s.controlWrite w).pending = s.pending := by
  unfold State.controlWrite
  repeat' split
  all_goals simp

@[simp] theorem State.grant_pending (s : State) (r : Requester) (t : Transaction) :
    (s.grant r t).pending = s.pending := by
  unfold State.grant
  rw [State.runCore_pending]
  split <;> rfl

/-- An answer is a next state, which keeps the queue, and keeps the invariant where it held. -/
def KeepsBlock (s : State) (a : Answer) : Prop :=
  ∃ t, a = .next t ∧ t.pending = s.pending ∧ (s.sound = true → t.sound = true)

theorem KeepsBlock.self (s : State) : KeepsBlock s (.next s) := ⟨s, rfl, rfl, id⟩

theorem KeepsBlock.core (s : State) (f : Core → Core) : KeepsBlock s (.next (s.runCore f)) :=
  ⟨_, rfl, s.runCore_pending f, State.sound_runCore f⟩

theorem KeepsBlock.front (s : State) {f : Front} (h : s.front.bounded = true → f.bounded = true) :
    KeepsBlock s (.next { s with front := f }) :=
  ⟨_, rfl, rfl, fun hs => State.sound_setFront hs (h (s.sound_front hs))⟩

theorem KeepsBlock.control (s : State) (w : Word32) : KeepsBlock s (.next (s.controlWrite w)) :=
  ⟨_, rfl, s.controlWrite_pending w, fun h => s.sound_controlWrite h w⟩

/-- A change of the pins or of the modes keeps the block. -/
theorem KeepsBlock.outside (s : State) {c : Core} (out : c.out = s.core.out) (rm : c.rm = s.core.rm)
    (cap : c.cap = s.core.cap) : KeepsBlock s (.next { s with core := c }) :=
  ⟨_, rfl, rfl, fun h => State.sound_setCore h out rm cap⟩

theorem and_mask_clears_low (v : Word32) : (v &&& 0xFFFFF000#32) &&& 0xFFF#32 = 0 := by
  rw [BitVec.and_assoc]; exact BitVec.and_zero

/-- What every command keeps. -/
theorem exec_keepsBlock (i : Instr) (s : State) : KeepsBlock s (exec i s) := by
  by_cases hc : actsOnCore i = true
  · obtain ⟨f, hf⟩ := exec_of_actsOnCore hc s
    rw [hf]; exact .core s f
  cases i with
  | waBaseWrite high v =>
    rw [exec, execWaBaseWrite]
    split
    · exact .self s
    · exact .self s
    · split
      · exact .front s id
      · refine .front s fun h => ?_
        obtain ⟨-, rest⟩ := (Front.bounded_iff _).1 h
        exact (Front.bounded_iff _).2 ⟨and_mask_clears_low v, rest⟩
  | enable w | softReset w | holdClear w | wake w => exact .control s w
  | post b =>
    rw [exec, execPost]
    split
    case h_4 => exact .self s
    all_goals exact .core s _
  | statusRead =>
    rw [exec, execStatusRead]
    split
    · exact .self s
    · exact .front s id
  | faultTopPop w =>
    rw [exec, execFaultTopPop]
    split
    case h_4 => exact .front s (Front.bounded_pop s.core)
    all_goals exact .self s
  | registerWriteIgnored o b w => exact .self s
  | fullReset p => exact ⟨_, rfl, rfl, fun _ => s.sound_hold p⟩
  | startUp =>
    rw [exec, execStartUp]
    split
    · exact .outside s rfl rfl rfl
    · exact .self s
  | selftestTestDone e =>
    rw [exec, execSelftestTestDone]
    split
    · exact ⟨_, rfl, by simp, fun h => State.sound_setupBegin (State.sound_runCore _ h)⟩
    · exact .core s _
  | memoryPortGrant =>
    rw [exec, execMemoryPortGrant]
    split
    · exact .self s
    · split
      · next r t _ => exact ⟨_, rfl, s.grant_pending r t, fun h => s.sound_grant h r t⟩
      · exact .self s
  | filmPresentChange b =>
    rw [exec, execFilmPresentChange]
    split
    · exact .outside s rfl rfl rfl
    · exact .core s _
  | extStopAssert =>
    rw [exec, execExtStopAssert]
    split
    · exact .outside s rfl rfl rfl
    · exact .core s _
  | extStopRelease => exact .outside s rfl rfl rfl
  | _ => exact absurd rfl hc

/-! ## The statements -/

/-- Settles O1: by the definition of a step. -/
theorem stepRunsFrontCommand : Obligations.StepRunsFrontCommand := by
  intro i rest s h
  rw [step, h]

/-- Settles O2. -/
theorem commandsNeverStop : Obligations.CommandsNeverStop := by
  intro i s
  obtain ⟨t, answer, queue, -⟩ := exec_keepsBlock i s
  exact ⟨t, answer, queue⟩

/-- Settles O4. -/
theorem soundAtReset : Obligations.SoundAtReset :=
  (State.sound_iff _).2 ⟨Front.bounded_reset, rfl, rfl⟩

/-- Settles O3: with an empty queue only the clock moves; else a command runs, and every command keeps the invariant. -/
theorem soundKeptByEveryStep : Obligations.SoundKeptByEveryStep := by
  intro s t hs hstep
  cases hq : s.pending with
  | nil =>
    rw [step, hq] at hstep
    cases hstep
    exact State.sound_setCore hs rfl rfl rfl
  | cons i rest =>
    rw [stepRunsFrontCommand i rest s hq] at hstep
    obtain ⟨u, answer, -, keeps⟩ := exec_keepsBlock i { s with pending := rest }
    rw [answer] at hstep
    cases hstep
    exact keeps hs

/-- Settles O5: an effect of the core does nothing in a held part; each other command is looked at by its own guard. -/
theorem heldPartDoesNothing : Obligations.HeldPartDoesNothing := by
  intro i s hm hstart hreset p hp
  refine ⟨?_, by simp [Core.brake, hm]⟩
  have same : (s.core.setPins s.core.pins) = s.core := rfl
  by_cases hc : actsOnCore i = true
  · obtain ⟨f, hf⟩ := exec_of_actsOnCore hc s
    have pins : p = s.core.pins := by
      cases i <;> first | exact hp | cases hc
    rw [hf, State.runCore_held f hm, pins, same]
  cases i with
  | filmPresentChange b => subst hp; simp [exec, execFilmPresentChange, hm]
  | extStopAssert => subst hp; simp [exec, execExtStopAssert, hm]
  | extStopRelease => subst hp; rfl
  | fullReset q => exact absurd rfl (hreset q)
  | startUp => exact absurd rfl hstart
  | waBaseWrite | enable | softReset | holdClear | wake | post | statusRead | faultTopPop | registerWriteIgnored
  | selftestTestDone | memoryPortGrant =>
    subst hp
    simp [exec, execWaBaseWrite, execEnable, execSoftReset, execHoldClear, execWake, execPost, execStatusRead,
      execFaultTopPop, execRegisterWriteIgnored, execSelftestTestDone, execMemoryPortGrant, State.controlWrite,
      State.runCore_held, hm, same]
  | _ => exact absurd rfl hc

end Sys2Proof.Machine
end

section
/-!
SUPPORT. The register window (01_the_work_area, Register window): writes to WA_BASE, the ENABLE field, POST, and the words
that reads answer; then the full reset and START-UP.
-/

namespace Sys2Proof.Machine

/-! ## Effects that report nothing -/

theorem State.ready_endDue {s : State} (h : s.ready = true) : s.core.endDue = false := (s.ready_iff.1 h).2.2.2

theorem State.ready_sig {s : State} (h : s.ready = true) : s.core.sig = [] := (s.ready_iff.1 h).2.1

theorem State.ready_out {s : State} (h : s.ready = true) : s.core.out = [] := (s.ready_iff.1 h).2.2.1

theorem State.ready_mode {s : State} (h : s.ready = true) : s.core.modes.mode ≠ .held := (s.ready_iff.1 h).1

/-- A ready part whose first effect reports nothing, and touches neither the passes nor the Capture Unit, leaves what that
effect is. -/
theorem State.runCore_leaves {s : State} {f : Core → Core} {c : Core} (hr : s.ready = true) (hf : f s.core = c)
    (sig : c.sig = s.core.sig) (rm : c.rm = s.core.rm) (cap : c.cap = s.core.cap) : s.runCore f = s.leaves c :=
  State.runCore_ready hr hf (sig.trans (s.ready_sig hr)) ((Core.endDue_congr rm cap).trans (s.ready_endDue hr))

/-! ## CONTROL -/

/-- A word without SOFT_RESET, HOLD_CLEAR and WAKE is its ENABLE field alone. -/
theorem State.controlWrite_enable {s : State} {w : Word32} (hr : w.getLsbD 1 = false) (hc : w.getLsbD 2 = false)
    (hw : w.getLsbD 3 = false ∨ s.core.modes.mode = .startUp ∨ s.core.modes.mode = .configWait ∨ s.core.modes.mode = .run)
    (hh : s.core.modes.mode ≠ .held) (hf : s.core.modes.mode ≠ .failed)
    (hm : (s.enableField (w.getLsbD 0)).core.modes.mode = s.core.modes.mode) :
    s.controlWrite w = s.enableField (w.getLsbD 0) := by
  unfold State.controlWrite
  split
  · next h => exact absurd h hh
  · next h => exact absurd h hf
  · simp only [hr, hc, State.holdClearField, Bool.false_eq_true, if_false]
    unfold State.wakeField
    rw [hm]
    rcases hw with hw | hw | hw | hw
    · simp only [hw, Bool.false_eq_true, if_false]; split <;> rfl
    all_goals rw [hw]

/-! ## STATUS -/

theorem toNat_extract (w : Word32) (a n : Nat) : (w.extractLsb' a n).toNat = w.toNat / 2 ^ a % 2 ^ n := by
  rw [BitVec.extractLsb'_toNat, Nat.shiftRight_eq_div_pow]

theorem getLsbD_of_toNat {w : Word32} {i : Nat} {b : Bool} (h : w.toNat / 2 ^ i % 2 = b.toNat) : w.getLsbD i = b := by
  rw [BitVec.getLsbD, Nat.testBit_eq_decide_div_mod_eq, h]
  cases b <;> rfl

theorem Mode.code_lt_eight (m : Mode) : m.code < 8 := by cases m <;> decide
theorem ResetCause.code_lt (r : ResetCause) : r.code < 4 := by cases r <;> decide
theorem FaultName.code_lt (n : FaultName) : n.code < 256 := by cases n <;> decide
theorem Source.code_lt (n : Source) : n.code < 16 := by cases n <;> decide

/-- The STATUS word as a number: its fields side by side, none overlapping the next. -/
theorem statusWord_toNat {f : Front} {m : Modes} (hp : m.progress < 256) (hl : f.faults.length ≤ 16)
    (hr : f.setupReason < 16) :
    (statusWord f m).toNat = m.progress + 256 * m.mode.code + 2048 * m.resetCause.code + 8192 * f.hold.toNat
      + 16384 * f.causeReturn.toNat + 32768 * f.causeFault.toNat + 65536 * f.causeSnapshot.toNat
      + 131072 * f.faults.length + 4194304 * f.overflow.toNat + 8388608 * f.setupBad.toNat
      + 16777216 * f.setupReason := by
  have := m.mode.code_lt_eight
  have := m.resetCause.code_lt
  have := f.hold.toNat_le
  have := f.causeReturn.toNat_le
  have := f.causeFault.toNat_le
  have := f.causeSnapshot.toNat_le
  have := f.overflow.toNat_le
  have := f.setupBad.toNat_le
  rw [statusWord, BitVec.toNat_ofNat]
  omega

theorem statusWord_fields {f : Front} {m : Modes} (hp : m.progress < 256) (hl : f.faults.length ≤ 16)
    (hr : f.setupReason < 16) :
    ((statusWord f m).extractLsb' 0 8).toNat = m.progress ∧
    ((statusWord f m).extractLsb' 8 3).toNat = m.mode.code ∧
    ((statusWord f m).extractLsb' 11 2).toNat = m.resetCause.code ∧
    (statusWord f m).getLsbD 13 = f.hold ∧
    (statusWord f m).getLsbD 14 = f.causeReturn ∧
    (statusWord f m).getLsbD 15 = f.causeFault ∧
    (statusWord f m).getLsbD 16 = f.causeSnapshot ∧
    ((statusWord f m).extractLsb' 17 5).toNat = f.faults.length ∧
    (statusWord f m).getLsbD 22 = f.overflow ∧
    (statusWord f m).getLsbD 23 = f.setupBad ∧
    ((statusWord f m).extractLsb' 24 4).toNat = f.setupReason ∧
    ((statusWord f m).extractLsb' 28 4).toNat = 0 := by
  have word := statusWord_toNat hp hl hr
  have := m.mode.code_lt_eight
  have := m.resetCause.code_lt
  have := f.hold.toNat_le
  have := f.causeReturn.toNat_le
  have := f.causeFault.toNat_le
  have := f.causeSnapshot.toNat_le
  have := f.overflow.toNat_le
  have := f.setupBad.toNat_le
  refine ⟨?_, ?_, ?_, getLsbD_of_toNat ?_, getLsbD_of_toNat ?_, getLsbD_of_toNat ?_, getLsbD_of_toNat ?_, ?_,
    getLsbD_of_toNat ?_, getLsbD_of_toNat ?_, ?_, ?_⟩
  all_goals simp only [toNat_extract, word]; omega

/-- A register that holds a code in its top bits and a value below it. -/
theorem FaultEntry.top_fields (e : FaultEntry) :
    e.top.extractLsb' 0 24 = e.info ∧ (e.top.extractLsb' 24 8).toNat = e.name.code := by
  have := e.name.code_lt
  have := e.info.isLt
  refine ⟨BitVec.eq_of_toNat_eq ?_, ?_⟩
  all_goals simp only [toNat_extract, FaultEntry.top, BitVec.toNat_ofNat]; omega

theorem FaultEntry.second_fields (e : FaultEntry) :
    e.second.extractLsb' 0 28 = e.aux ∧ (e.second.extractLsb' 28 4).toNat = e.source.code := by
  have := e.source.code_lt
  have := e.aux.isLt
  refine ⟨BitVec.eq_of_toNat_eq ?_, ?_⟩
  all_goals simp only [toNat_extract, FaultEntry.second, BitVec.toNat_ofNat]; omega

/-! ## The statements -/

section window
variable (f : Front) (m : Modes)

theorem readWindow_waBaseLo : readWindow f m 0x00 true = f.waBaseLo := by simp [readWindow]

theorem readWindow_waBaseHi : readWindow f m 0x04 true = f.waBaseHi := by simp [readWindow]

theorem readWindow_status : readWindow f m 0x10 true = statusWord f m := by simp [readWindow]

theorem readWindow_faultTop : readWindow f m 0x14 true = (f.faults.head?.map (·.top)).getD 0 := by simp [readWindow]

theorem readWindow_faultAux : readWindow f m 0x18 true = (f.faults.head?.map (·.second)).getD 0 := by simp [readWindow]

theorem readWindow_other {o : Nat} (h0 : o ≠ 0x00) (h4 : o ≠ 0x04) (h10 : o ≠ 0x10) (h14 : o ≠ 0x14) (h18 : o ≠ 0x18) :
    readWindow f m o true = 0 := by
  unfold readWindow
  rw [if_pos rfl]
  split
  case h_6 => rfl
  all_goals contradiction

theorem readWindow_partial (o : Nat) : readWindow f m o false = 0 := by simp [readWindow]

end window

/-- Settles O12. -/
theorem statusReadAnswersAndClears : Obligations.StatusReadAnswersAndClears := by
  refine ⟨fun s hh => ?_, fun f m hp hl hr => statusWord_fields hp hl hr, fun f m =>
    ⟨readWindow_waBaseLo f m, readWindow_waBaseHi f m, readWindow_status f m, fun h => ?_, fun e l h => ?_,
      fun o => readWindow_other f m, readWindow_partial f m⟩⟩
  · simp [exec, execStatusRead, hh]
  · simp [readWindow_faultTop, readWindow_faultAux, h]
  · obtain ⟨info, code⟩ := e.top_fields
    obtain ⟨aux, source⟩ := e.second_fields
    have top : readWindow f m 0x14 true = e.top := by rw [readWindow_faultTop, h]; rfl
    have second : readWindow f m 0x18 true = e.second := by rw [readWindow_faultAux, h]; rfl
    rw [top, second]
    exact ⟨info, code, aux, source⟩

/-- Settles O6. -/
theorem windowWritesStoreOrDoNothing : Obligations.WindowWritesStoreOrDoNothing := by
  refine ⟨fun v s hh hf => ?_, fun o b w s => rfl, fun h w s hm => ?_, fun w s hm => ?_⟩
  · have taken (high : Bool) : exec (.waBaseWrite high v) s =
        if high then .next { s with front := { s.front with waBaseHi := v } }
        else .next { s with front := { s.front with waBaseLo := v &&& 0xFFFFF000#32 } } := by
      rw [exec, execWaBaseWrite]
      split
      · next h => exact absurd h hh
      · next h => exact absurd h hf
      · rfl
    refine ⟨taken true, _, taken false, fun i hi => ?_⟩
    rw [BitVec.getLsbD_and, Bool.and_comm]
    congr 1
    revert i
    decide
  · simp [exec, execWaBaseWrite, execEnable, execSoftReset, execHoldClear, execWake, execPost, execFaultTopPop,
      State.controlWrite, hm]
  · refine ⟨by simp [exec, execPost, hm], by simp [exec, execFaultTopPop, hm], fun hw => ?_⟩
    simp [exec, execSoftReset, State.controlWrite, State.softReset, hm, hw]

theorem State.setupBegin_leaves {s : State} (hr : s.ready = true) :
    s.setupBegin = State.leaves { s with front := { s.front with setupBad := false, setupReason := 0 } }
      (s.core.beginSetup s.front.base) := by
  unfold State.setupBegin
  exact State.runCore_leaves (s := { s with front := { s.front with setupBad := false, setupReason := 0 } }) hr rfl rfl
    rfl rfl

/-- Settles O7. -/
theorem enableBeginsSetupRead : Obligations.EnableBeginsSetupRead := by
  intro w s hsoft hclear
  refine ⟨fun hm hr hs he hb => ?_, fun hm => ?_, fun hm hs => ?_, fun hm => ?_, fun hm hw => ?_⟩
  · have begins : s.enableField (w.getLsbD 0) =
        State.setupBegin { s with front := { s.front with enable := true } } := by
      rw [hb]
      simp [State.enableField, hm, hs, he]
    have leaves := State.setupBegin_leaves (s := { s with front := { s.front with enable := true } }) hr
    have mode : (s.enableField (w.getLsbD 0)).core.modes.mode = s.core.modes.mode := by rw [begins, leaves]; rfl
    have control := State.controlWrite_enable hsoft hclear (by simp [hm]) (by simp [hm]) (by simp [hm]) mode
    rw [exec, execEnable, control, begins, leaves]
    rfl
  · have latched : s.enableField (w.getLsbD 0) = { s with front := { s.front with enable := w.getLsbD 0 } } := by
      simp [State.enableField, hm]
    rw [exec, execEnable,
      State.controlWrite_enable hsoft hclear (by simp [hm]) (by simp [hm]) (by simp [hm]) (by rw [latched]), latched]
  · have ignored : s.enableField (w.getLsbD 0) = s := by
      simp [State.enableField, hm, Option.isSome_iff_ne_none.2 hs]
    rw [exec, execEnable,
      State.controlWrite_enable hsoft hclear (by simp [hm]) (by simp [hm]) (by simp [hm]) (by rw [ignored]), ignored]
  · have ignored : s.enableField (w.getLsbD 0) = s := by simp [State.enableField, hm]
    rw [exec, execEnable,
      State.controlWrite_enable hsoft hclear (by simp [hm]) (by simp [hm]) (by simp [hm]) (by rw [ignored]), ignored]
  · have ignored : s.enableField (w.getLsbD 0) = s := by
      rcases hm with hm | hm <;> simp [State.enableField, hm]
    have awake : s.core.modes.mode ≠ .held ∧ s.core.modes.mode ≠ .failed := by
      rcases hm with hm | hm <;> simp [hm]
    rw [exec, execEnable,
      State.controlWrite_enable hsoft hclear (.inl hw) awake.1 awake.2 (by rw [ignored]), ignored]

/-! ## POST -/

theorem Core.lookable_iff (c : Core) (n : Nat) : c.lookable n = true ↔ c.rm.slots[n]? = some .lookable := by
  unfold Core.lookable
  split
  · next h => simp [h]
  · next h => simpa using h

/-- The slots a POST write names and may read, in ascending order (R14). -/
def Core.namedLookable (c : Core) (b : Word32) : List Nat :=
  (List.range 32).filter fun n => b.toNat.testBit n && c.lookable n

theorem Core.postReads_eq (c : Core) (b : Word32) : c.postReads b = (c.namedLookable b).map fun n => .slot n false := rfl

theorem Core.namedLookable_ascending (c : Core) (b : Word32) : (c.namedLookable b).Pairwise (· < ·) :=
  List.pairwise_lt_range.filter _

theorem Core.mem_namedLookable (c : Core) (b : Word32) (n : Nat) :
    n ∈ c.namedLookable b ↔ n < 32 ∧ b.getLsbD n = true ∧ c.rm.slots[n]? = some .lookable := by
  simp [Core.namedLookable, Core.lookable_iff, BitVec.getLsbD]

/-- Settles O11. -/
theorem postReadsNamedLookableSlots : Obligations.PostReadsNamedLookableSlots := by
  refine ⟨fun b s hm hr => ⟨s.core.namedLookable b, ?_, s.core.namedLookable_ascending b,
    s.core.mem_namedLookable b⟩, fun b s hm => by simp [exec, execPost, hm]⟩
  have write : s.core.postWrite b = s.core.setPort { s.core.port with
      boardQueue := s.core.port.boardQueue ++ (s.core.namedLookable b).map fun n => .slot n false } := by
    simp [Core.postWrite, Core.toRun, hm, Core.postReads_eq]
  simp only [exec, execPost, hm]
  exact congrArg _ (State.runCore_leaves hr write rfl rfl rfl)

/-! ## Full reset and START-UP -/

/-- The blocks a full reset leaves, but for the pins, the modes and the clock. -/
theorem State.hold_core (s : State) (p : Bool) :
    (s.hold p).core = (Core.reset { s.core.pins with torqueSupply := 0, torqueTakeUp := 0 } s.core.now s.core.free).setModes
      { Modes.reset with
        mode := .held, powerOn := p || (decide (s.core.modes.mode = .held) && s.core.modes.powerOn) } := rfl

/-- Settles O15: the reset values of each block, which START-UP leaves. -/
theorem fullResetThenStartUp : Obligations.FullResetThenStartUp := by
  intro p s
  have started : exec .startUp (s.hold p) = .next { s.hold p with core := (s.hold p).core.setModes { Modes.reset with
      resetCause := if p || (decide (s.core.modes.mode = .held) && s.core.modes.powerOn) then .power else .pin } } := rfl
  refine ⟨s.hold p, _, rfl, rfl, by simp [Core.brake, State.hold_core], rfl, started, ?_⟩
  refine ⟨rfl, rfl, rfl, ?front, ?transport, ?index, ?focus, ?capture, ?store, ?roll, ?porter, ?port, rfl, rfl, rfl, rfl⟩
  case roll =>
    refine ⟨rfl, fun b hb => ?_, rfl, rfl, rfl, rfl, rfl, rfl⟩
    cases List.eq_of_mem_replicate (n := 8) (a := Bay.reset) hb
    exact ⟨rfl, rfl, rfl, rfl⟩
  all_goals
    repeat' constructor

end Sys2Proof.Machine
end

section
/-!
SUPPORT. Reports that bring about no further report: the settling of a command along the list of them. Then the returns to
RUN, STANDBY and DORMANT (R206, R207) and the self-test (R203).
-/

namespace Sys2Proof.Machine

/-! ## Settling along a list of reports -/

/-- The reports are taken one by one, none of them bringing about another, while `P` follows what is left of them. -/
theorem Core.settleFrom_along {P : List Signal → Core → Prop}
    (step : ∀ x l c, P (x :: l) c → ({ c with sig := l }.handle x).sig = l ∧ P l ({ c with sig := l }.handle x)) :
    ∀ (l : List Signal) (n : Nat) (c : Core), c.sig = l → l.length ≤ n → P l c →
      ∃ d, d.sig = [] ∧ P [] d ∧ Core.settleFrom n c = d.tryEnd := by
  intro l
  induction l with
  | nil => exact fun n c hs _ h => ⟨c, hs, h, Core.settleFrom_nil n hs⟩
  | cons x l ih =>
    intro n c hs hn h
    cases n with
    | zero => cases hn
    | succ n =>
      obtain ⟨sig, next⟩ := step x l c h
      obtain ⟨d, ds, dp, de⟩ := ih n _ sig (Nat.le_of_succ_le_succ hn) next
      exact ⟨d, ds, dp, (Core.settleFrom_cons n hs).trans de⟩

/-- A ready part whose effect makes few reports, each answered by none: it leaves a core of which `P` holds with none
left. -/
theorem State.runCore_along {s : State} {f : Core → Core} (hm : s.core.modes.mode ≠ .held)
    (P : List Signal → Core → Prop)
    (step : ∀ x l c, P (x :: l) c → ({ c with sig := l }.handle x).sig = l ∧ P l ({ c with sig := l }.handle x))
    (due : ∀ c, P [] c → c.endDue = false) (few : (f s.core).sig.length ≤ 65536) (h : P (f s.core).sig (f s.core)) :
    ∃ d, P [] d ∧ s.runCore f = s.leaves d := by
  obtain ⟨d, -, hd, he⟩ := Core.settleFrom_along step _ 65536 _ rfl few h
  refine ⟨d, hd, ?_⟩
  rw [State.runCore_awake f hm, Core.settle, he, Core.tryEnd_of_not_due (due d hd)]
  rfl

/-! ## What waits for nothing -/

theorem Core.strobeless_iff (c : Core) : c.strobeless = true ↔
    ((c.cap.stop.map (·.arrived)).getD false) = false ∧ c.cap.flyby = none ∧ c.focus.probe = none := by
  simp [Core.strobeless, and_assoc]

/-- With nothing to strobe, looking at the strobe conditions again changes nothing. -/
theorem Core.tryStrobe_strobeless {c : Core} (h : c.strobeless = true) : c.tryStrobe = c := by
  obtain ⟨stop, flyby, probe⟩ := c.strobeless_iff.1 h
  have stopped : c.stopTry = c := by
    unfold Core.stopTry
    split
    · rfl
    · next s hs => simp only [hs, Option.map_some, Option.getD_some] at stop; simp [stop]
  rw [Core.tryStrobe, stopped]
  simp [Core.previewTry, Core.flybyTry, probe, flyby]

/-! ## Reports of the lamp and replies to the device-mode logic -/

/-- The core `b` with another lamp, another reply and the reports `l`. -/
def Core.told (b : Core) (lamp : Lamp) (reply : Option Reply) (l : List Signal) : Core :=
  { b with cap := { b.cap with lamp := lamp }, modes := { b.modes with reply := reply }, sig := l }

theorem Core.told_self (b : Core) : b.told b.cap.lamp b.modes.reply b.sig = b := rfl

/-- The failure of a lamp transaction on a link that is DOWN, told to the Capture Unit (R192). -/
def lampFailure (x : Signal) : Prop := ∃ item d, item.by' = .captureUnit ∧ x = .linkResult item [] (some d)

/-- The reports that only the lamp and the device-mode logic's reply follow, where nothing would strobe: a second look at
the strobe conditions, a failed lamp transaction, and the reply `w`. -/
def modeReport (w : Option Reply) (x : Signal) : Prop :=
  x = .tryStrobe ∨ lampFailure x ∨ ∃ r, w = some r ∧ x = .modeReply r

/-- A failed lamp transaction leaves the lamp warming, or as it is. -/
theorem Core.handle_lampFailure {x : Signal} (h : lampFailure x) (b : Core) (lamp : Lamp) (reply : Option Reply)
    (l : List Signal) : ∃ m : Lamp, (b.told lamp reply l).handle x = b.told m reply l ∧
      (lamp.st = .warming → m.st = .warming) ∧ m.present = lamp.present := by
  obtain ⟨item, d, hb, rfl⟩ := h
  simp only [Core.handle, Core.deliver, hb, Option.isSome_some]
  cases item.msg with
  | lampSet i => exact ⟨_, rfl, fun _ => rfl, rfl⟩
  | lampStatus n => exact ⟨_, rfl, fun _ => rfl, rfl⟩
  | _ => exact ⟨lamp, rfl, id, rfl⟩

/-- What settling keeps along such reports: the reply comes where one was to come, and a lamp no failure was told to is as
it was. -/
structure Core.Following (b : Core) (w : Option Reply) (l : List Signal) (c : Core) : Prop where
  shape : ∃ (lamp : Lamp) (reply : Option Reply), c = b.told lamp reply l ∧
    (b.cap.lamp.st = .warming → lamp.st = .warming) ∧ lamp.present = b.cap.lamp.present ∧
    ((∀ x ∈ b.sig, ¬ lampFailure x) → lamp = b.cap.lamp) ∧
    (∀ r, w = some r → .modeReply r ∈ l ∨ reply = some r) ∧ (w = none → reply = b.modes.reply)
  reports : ∀ x ∈ l, modeReport w x ∧ x ∈ b.sig

theorem Core.Following.step {b : Core} (hs : b.strobeless = true) {w : Option Reply} (x : Signal) (l : List Signal)
    (c : Core) (h : b.Following w (x :: l) c) :
    ({ c with sig := l }.handle x).sig = l ∧ b.Following w l ({ c with sig := l }.handle x) := by
  obtain ⟨⟨lamp, reply, rfl, warm, present, same, told, untold⟩, reports⟩ := h
  have rest : ∀ y ∈ l, modeReport w y ∧ y ∈ b.sig := fun y hy => reports y (List.mem_cons_of_mem _ hy)
  obtain ⟨hx, mem⟩ := reports x List.mem_cons_self
  change ((b.told lamp reply l).handle x).sig = l ∧ b.Following w l ((b.told lamp reply l).handle x)
  rcases hx with rfl | hf | ⟨r, rfl, rfl⟩
  · have quiet : (b.told lamp reply l).handle .tryStrobe = b.told lamp reply l :=
      Core.tryStrobe_strobeless (c := b.told lamp reply l) hs
    rw [quiet]
    refine ⟨rfl, ⟨lamp, reply, rfl, warm, present, same, fun r hr => ?_, untold⟩, rest⟩
    simpa using told r hr
  · obtain ⟨m, hm, mwarm, mpresent⟩ := Core.handle_lampFailure hf b lamp reply l
    rw [hm]
    refine ⟨rfl, ⟨m, reply, rfl, mwarm ∘ warm, mpresent.trans present, fun none => absurd hf (none x mem), fun r hr => ?_,
      untold⟩, rest⟩
    rcases told r hr with hmem | ht
    · rcases List.mem_cons.1 hmem with rfl | hmem
      · obtain ⟨_, _, _, absurd⟩ := hf; cases absurd
      · exact .inl hmem
    · exact .inr ht
  · refine ⟨rfl, ⟨lamp, some r, rfl, warm, present, same, fun q hq => .inr hq, fun h => ?_⟩, rest⟩
    cases h

/-- A ready part's effect that makes only such reports: only the lamp and the reply can follow them. -/
theorem State.runCore_modeReports {s : State} {f : Core → Core} {b : Core} {w : Option Reply} (hr : s.ready = true)
    (hf : f s.core = b) (hs : b.strobeless = true) (due : b.endDue = false) (few : b.sig.length ≤ 65536)
    (hw : ∀ r, w = some r → .modeReply r ∈ b.sig) (reports : ∀ x ∈ b.sig, modeReport w x) :
    ∃ (lamp : Lamp) (reply : Option Reply), s.runCore f = s.leaves (b.told lamp reply []) ∧
      (b.cap.lamp.st = .warming → lamp.st = .warming) ∧ lamp.present = b.cap.lamp.present ∧
      ((∀ x ∈ b.sig, ¬ lampFailure x) → lamp = b.cap.lamp) ∧
      (∀ r, w = some r → reply = some r) ∧ (w = none → reply = b.modes.reply) := by
  subst hf
  obtain ⟨d, ⟨⟨lamp, reply, rfl, warm, present, same, told, untold⟩, -⟩, he⟩ :=
    State.runCore_along (s.ready_mode hr) (Core.Following (f s.core) w) (Core.Following.step hs)
      (fun c hc => by obtain ⟨⟨lamp, reply, rfl, -⟩, -⟩ := hc; exact due) few
      ⟨⟨_, _, (Core.told_self _).symm, id, rfl, fun _ => rfl, fun r hr => .inl (hw r hr), fun _ => rfl⟩,
        fun x hx => ⟨reports x hx, hx⟩⟩
  exact ⟨lamp, reply, he, warm, present, same, fun r hr => (told r hr).resolve_left (List.not_mem_nil), untold⟩

end Sys2Proof.Machine
end

section
/-!
SUPPORT. Submissions to the link, the lamp's order at a return to RUN, the transport's WAKE and RELAX; then the changes of
device mode (R206, R207) and the self-test (R203).
-/

namespace Sys2Proof.Machine

/-! ## Reports made in a row -/

/-- The core with the reports `l` made behind those it has. -/
def Core.report (c : Core) (l : List Signal) : Core := { c with sig := c.sig ++ l }

theorem Core.report_nil (c : Core) : c.report [] = c := by
  rw [Core.report, List.append_nil]

theorem Core.report_report (c : Core) (l m : List Signal) : (c.report l).report m = c.report (l ++ m) := by
  rw [Core.report, Core.report, Core.report, ← List.append_assoc]

theorem Core.emit_eq_report (c : Core) (x : Signal) : c.emit x = c.report [x] := rfl

/-! ## Submissions (R185) -/

/-- What a submission leaves of the link's settings, and of its being DOWN. -/
structure Link.SameLine (l m : Link) : Prop where
  down : l.st = .down ↔ m.st = .down
  fast : l.fast = m.fast
  address : l.address = m.address
  opened : l.opened = m.opened

theorem Link.SameLine.refl (l : Link) : l.SameLine l := ⟨Iff.rfl, rfl, rfl, rfl⟩

theorem Link.SameLine.trans {l m n : Link} (h : l.SameLine m) (g : m.SameLine n) : l.SameLine n :=
  ⟨h.down.trans g.down, h.fast.trans g.fast, h.address.trans g.address, h.opened.trans g.opened⟩

theorem Core.submit_down {c : Core} (item : LinkItem) (h : c.link.st = .down) :
    c.submit item = c.emit (.linkResult item [] (some .down)) := by
  simp [Core.submit, h]

theorem Core.submit_queued {c : Core} (item : LinkItem) (h : c.link.st ≠ .down) (hq : c.link.queue.length < 8) :
    c.submit item = c.setLink { c.link with
      queue := c.link.queue ++ [item], st := if c.link.st = .idle then .waitFree else c.link.st } := by
  simp [Core.submit, h, hq]

theorem Core.submit_waits {c : Core} (item : LinkItem) (h : c.link.st ≠ .down) (hq : ¬ c.link.queue.length < 8) :
    c.submit item = c.setLink { c.link with waiting := c.link.waiting ++ [item] } := by
  simp [Core.submit, h, hq]

/-- A submission changes the link alone, or fails at once on a link that is DOWN. -/
theorem Core.submit_shape (c : Core) (item : LinkItem) :
    ∃ (link : Link) (l : List Signal), c.submit item = (c.setLink link).report l ∧
      (l = [] ∨ l = [.linkResult item [] (some .down)]) ∧ link.SameLine c.link := by
  by_cases h : c.link.st = .down
  · exact ⟨c.link, _, c.submit_down item h, .inr rfl, .refl _⟩
  · by_cases hq : c.link.queue.length < 8
    · refine ⟨_, [], (c.submit_queued item h hq).trans (Core.report_nil _).symm, .inl rfl, ⟨?_, rfl, rfl, rfl⟩⟩
      dsimp only
      split <;> simp_all
    · exact ⟨_, [], (c.submit_waits item h hq).trans (Core.report_nil _).symm, .inl rfl, ⟨Iff.rfl, rfl, rfl, rfl⟩⟩

/-! ## The lamp's order (R145) -/

/-- The core with another lamp. -/
def Core.setLamp (c : Core) (lamp : Lamp) : Core := c.setCap { c.cap with lamp := lamp }

/-- A report that a lamp's order can make: a second look at the strobe conditions, or its own failure on a link that is
DOWN. -/
def lampReport (x : Signal) : Prop := x = .tryStrobe ∨ lampFailure x

/-- A submission of the Capture Unit. -/
theorem Core.submit_lamp (c : Core) (msg : LinkMsg) :
    ∃ (link : Link) (l : List Signal), c.submit { msg := msg, by' := .captureUnit } = (c.setLink link).report l ∧
      l.length ≤ 1 ∧ (∀ x ∈ l, lampReport x) ∧ link.SameLine c.link := by
  obtain ⟨link, l, shape, hl, line⟩ := c.submit_shape { msg := msg, by' := .captureUnit }
  refine ⟨link, l, shape, ?_, ?_, line⟩
  · rcases hl with rfl | rfl <;> simp
  · rcases hl with rfl | rfl
    · simp
    · simpa using .inr ⟨_, _, rfl, rfl⟩

/-- LAMP SET with the active intensity leaves the lamp warming, whichever way it goes. -/
theorem Core.lampOn_shape (c : Core) :
    ∃ (lamp : Lamp) (link : Link) (l : List Signal), c.lampOn = ((c.setLamp lamp).setLink link).report l ∧
      lamp.st = .warming ∧ lamp.present = c.cap.lamp.present ∧ l.length ≤ 3 ∧ (∀ x ∈ l, lampReport x) ∧
      link.SameLine c.link := by
  unfold Core.lampOn
  dsimp only
  split
  · generalize hlamp : ({ c.cap.lamp.newRecord with
        st := .warming, fixed := _, lastSent := _, polling := _, pollLimit := _ } : Lamp) = lamp
    have warm : lamp.st = .warming := by rw [← hlamp]
    have present : lamp.present = c.cap.lamp.present := by rw [← hlamp]; rfl
    obtain ⟨link, l, set, few, reports, line⟩ := (c.setLamp lamp).submit_lamp (.lampSet c.prof.lampIntensity)
    rw [Core.setLamp] at set
    rw [set]
    split
    · obtain ⟨link', l', poll, few', reports', line'⟩ :=
        (((c.setLamp lamp).setLink link).report l).submit_lamp (.lampStatus lamp.serial)
      refine ⟨lamp, link', l ++ l' ++ [.tryStrobe], ?_, warm, present, ?_, ?_, line'.trans line⟩
      · rw [← Core.report_report, ← Core.report_report, ← Core.emit_eq_report]
        exact congrArg (Core.emit · _) poll
      · simp only [List.length_append, List.length_singleton]; omega
      · intro x hx
        simp only [List.mem_append, List.mem_singleton] at hx
        rcases hx with (hx | hx) | rfl
        · exact reports x hx
        · exact reports' x hx
        · exact .inl rfl
    · refine ⟨lamp, link, l ++ [.tryStrobe], ?_, warm, present, ?_, ?_, line⟩
      · rw [← Core.report_report, ← Core.emit_eq_report]; rfl
      · simp only [List.length_append, List.length_singleton]; omega
      · intro x hx
        rcases List.mem_append.1 hx with hx | hx
        · exact reports x hx
        · exact .inl (List.mem_singleton.1 hx)
  · exact ⟨{ c.cap.lamp.newRecord with st := .warming, fixed := c.tick }, c.link, [], (Core.report_nil _).symm, rfl, rfl,
      by simp, by simp, .refl _⟩

/-! ## WAKE (R70) -/

/-- The reply with which a WAKE that is not waited for is answered at once. -/
def Transport.wakeReply (t : Transport) : Option Reply :=
  match t.st with
  | .relaxed => none
  | .hold => if t.steady then some .awake else none
  | .unthreaded => some .awake
  | _ => some .refused

/-- WAKE changes the transport alone, and replies as `wakeReply` says. -/
theorem Core.orderWake_shape (c : Core) :
    ∃ t : Transport, c.orderWake = (c.setTr t).report (c.tr.wakeReply.toList.map .modeReply) ∧
      (c.tr.wakeReply ≠ none → t = c.tr) ∧
      (c.tr.st = .relaxed → t.st = .hold ∧ t.tensioning = true ∧ t.wakeCount = some c.now ∧ t.wakeWaits = true) := by
  have answered {r : Reply} (hr : c.tr.wakeReply = some r) (hs : c.tr.st ≠ .relaxed)
      (hw : c.orderWake = c.emit (.modeReply r)) :
      ∃ t : Transport, c.orderWake = (c.setTr t).report (c.tr.wakeReply.toList.map .modeReply) ∧
        (c.tr.wakeReply ≠ none → t = c.tr) ∧
        (c.tr.st = .relaxed → t.st = .hold ∧ t.tensioning = true ∧ t.wakeCount = some c.now ∧ t.wakeWaits = true) :=
    ⟨c.tr, by rw [hw, hr]; rfl, fun _ => rfl, fun h => absurd h hs⟩
  have waits {t : Transport} (hr : c.tr.wakeReply = none) (hw : c.orderWake = c.setTr t) :
      c.orderWake = (c.setTr t).report (c.tr.wakeReply.toList.map .modeReply) := by
    rw [hw, hr]; exact (Core.report_nil _).symm
  cases h : c.tr.st with
  | relaxed =>
    have none : c.tr.wakeReply = none := by simp [Transport.wakeReply, h]
    rw [h] at answered
    exact ⟨{ c.startWake.tr with wakeWaits := true }, waits none (by simp [Core.orderWake, h, Core.startWake, Core.setTr]),
      fun h => absurd none h, fun _ => ⟨rfl, rfl, rfl, rfl⟩⟩
  | hold =>
    by_cases hs : c.tr.steady = true
    · simpa [h] using answered (r := .awake) (by simp [Transport.wakeReply, h, hs]) (by simp [h])
        (by simp [Core.orderWake, h, hs])
    · have none : c.tr.wakeReply = none := by simp [Transport.wakeReply, h, hs]
      exact ⟨_, waits none (by simp only [Core.orderWake, h, hs]; rfl), fun h => absurd none h, by simp⟩
  | unthreaded =>
    simpa [h] using answered (r := .awake) (by simp [Transport.wakeReply, h]) (by simp [h]) (by simp [Core.orderWake, h])
  | _ =>
    simpa [h] using answered (r := .refused) (by simp [Transport.wakeReply, h]) (by simp [h])
      (by simp [Core.orderWake, h])

/-! ## The return to RUN (R207) -/

/-- The core of a part that returns to RUN, before its lamp and its transport are told. -/
def Core.inRun (c : Core) : Core :=
  (c.setModes { c.modes with mode := .run, dormant := none, idle := none }).setPort { c.port with
    sweepTimer := if c.modes.mode = .dormant ∧ c.port.setup.sweepInterval ≠ 0 then some c.now else c.port.sweepTimer }

theorem Core.toRun_asleep {c : Core} (h : c.modes.mode = .standby ∨ c.modes.mode = .dormant) :
    c.toRun = c.inRun.lampOn.orderWake.trigger { mode := true } true := by
  have loaded : c.inRun = if c.modes.mode = .dormant ∧ c.port.setup.sweepInterval ≠ 0 then
      (c.setModes { c.modes with mode := .run, dormant := none, idle := none }).setPort
        { c.port with sweepTimer := some c.now }
      else c.setModes { c.modes with mode := .run, dormant := none, idle := none } := by
    unfold Core.inRun
    split <;> rfl
  rw [loaded]
  rcases h with h | h <;> simp [Core.toRun, h]

theorem Core.toRun_awake {c : Core} (h : c.modes.mode ≠ .standby) (h' : c.modes.mode ≠ .dormant) : c.toRun = c := by
  unfold Core.toRun
  split
  · next hm => exact absurd hm h
  · next hm => exact absurd hm h'
  · rfl

/-- What a return to RUN changes: the modes, the sweep timer, the lamp with the link, and the transport; it sends a
snapshot trigger. -/
theorem Core.toRun_shape {c : Core} (h : c.modes.mode = .standby ∨ c.modes.mode = .dormant) :
    ∃ (lamp : Lamp) (link : Link) (t : Transport) (l : List Signal),
      c.toRun = ((((c.inRun.setLamp lamp).setLink link).setTr t).report
        (l ++ c.tr.wakeReply.toList.map .modeReply)).trigger { mode := true } true ∧
      lamp.st = .warming ∧ lamp.present = c.cap.lamp.present ∧ l.length ≤ 3 ∧ (∀ x ∈ l, lampReport x) ∧
      link.SameLine c.link ∧ (c.tr.wakeReply ≠ none → t = c.tr) ∧
      (c.tr.st = .relaxed → t.st = .hold ∧ t.tensioning = true ∧ t.wakeCount = some c.now ∧ t.wakeWaits = true) := by
  obtain ⟨lamp, link, l, on, warm, present, few, reports, line⟩ := c.inRun.lampOn_shape
  obtain ⟨d, hd⟩ : ∃ d, d = ((c.inRun.setLamp lamp).setLink link).report l := ⟨_, rfl⟩
  have tr : d.tr = c.tr := by rw [hd]; rfl
  have now : d.now = c.now := by rw [hd]; rfl
  obtain ⟨t, wake, same, relaxed⟩ := d.orderWake_shape
  rw [tr] at wake same relaxed
  rw [now] at relaxed
  refine ⟨lamp, link, t, l, ?_, warm, present, few, reports, line, same, relaxed⟩
  rw [Core.toRun_asleep h, on, ← hd, wake, hd, ← Core.report_report]
  rfl

/-- What a part that was in STANDBY or DORMANT holds once it has returned to RUN and asked for the reads `q`. -/
structure Core.Woken (c : Core) (q : List BoardRead) (d : Core) : Prop where
  mode : d.modes.mode = .run
  dormant : d.modes.dormant = none
  sweep : c.modes.mode = .dormant → c.port.setup.sweepInterval ≠ 0 → d.port.sweepTimer = some c.now
  queue : d.port.boardQueue = c.port.boardQueue ++ q
  workArea : d.port.workArea = c.port.workArea
  lamp : d.cap.lamp.st = .warming
  relaxed : c.tr.st = .relaxed →
    d.tr.st = .hold ∧ d.tr.tensioning = true ∧ d.tr.wakeCount = some c.now ∧ d.tr.wakeWaits = true
  answered : ∀ r, c.tr.wakeReply = some r → d.tr = c.tr ∧ d.modes.reply = some r
  out : d.out = [.snapshot { mode := true } true]
  ix : d.ix = c.ix
  focus : d.focus = c.focus
  roll : d.roll = c.roll
  rm : d.rm = c.rm

/-- A ready part with nothing to strobe returns to RUN. -/
theorem State.runCore_toRun {s : State} {f : Core → Core} {q : List BoardRead} (hr : s.ready = true)
    (hm : s.core.modes.mode = .standby ∨ s.core.modes.mode = .dormant) (hs : s.core.strobeless = true)
    (hf : f s.core = s.core.toRun.setPort { s.core.toRun.port with boardQueue := s.core.toRun.port.boardQueue ++ q }) :
    ∃ d, s.runCore f = s.leaves d ∧ s.core.Woken q d := by
  obtain ⟨lamp, link, t, l, shape, warm, -, few, reports, -, same, relaxed⟩ := Core.toRun_shape hm
  obtain ⟨b, hb⟩ : ∃ b, f s.core = b := ⟨_, rfl⟩
  have shape' : b = (((((s.core.inRun.setLamp lamp).setLink link).setTr t).setPort { s.core.inRun.port with
      boardQueue := s.core.inRun.port.boardQueue ++ q }).report (l ++ s.core.tr.wakeReply.toList.map .modeReply)).trigger
        { mode := true } true := by
    rw [← hb, hf, shape]; rfl
  have sig : b.sig = l ++ s.core.tr.wakeReply.toList.map .modeReply := by
    rw [shape']
    change s.core.sig ++ _ = _
    rw [s.ready_sig hr, List.nil_append]
  have due : b.endDue = false := by
    rw [shape']
    exact s.ready_endDue hr
  obtain ⟨lamp', reply, leaves, warm', -, -, answered, -⟩ := State.runCore_modeReports (w := s.core.tr.wakeReply) hr hb
    (by rw [shape']; exact hs) due
    (by rw [sig]; cases s.core.tr.wakeReply <;> simp <;> omega)
    (fun r h => by rw [sig, h]; simp)
    (fun x hx => by
      rw [sig] at hx
      rcases List.mem_append.1 hx with hx | hx
      · exact (reports x hx).imp id .inl
      · obtain ⟨r, h, rfl⟩ := List.mem_map.1 hx
        exact .inr (.inr ⟨r, Option.mem_toList.1 h, rfl⟩))
  refine ⟨_, leaves, ?_⟩
  subst shape'
  refine ⟨rfl, rfl, fun hd hi => if_pos ⟨hd, hi⟩, rfl, rfl, warm' warm, relaxed,
    fun r h => ⟨same (by simp [h]), answered r h⟩, ?_, rfl, rfl, rfl, rfl⟩
  change s.core.out ++ _ = _
  rw [s.ready_out hr, List.nil_append]

/-- The front once a snapshot with trigger MODE has been asked for: a record is begun where a Work Area is in use and the mark
is idle, and no cause and no message comes of it (R22). -/
theorem State.leaves_modeSnapshot (s : State) {d : Core} (out : d.out = [.snapshot { mode := true } true]) :
    (s.leaves d).front.causeReturn = s.front.causeReturn ∧ (s.leaves d).front.causeFault = s.front.causeFault ∧
    (s.leaves d).front.causeSnapshot = s.front.causeSnapshot ∧ (s.leaves d).front.hold = s.front.hold ∧
    (s.leaves d).front.msiSent = s.front.msiSent ∧ (s.leaves d).front.faults = s.front.faults ∧
    (d.port.workArea.isSome = true → s.front.snapMark = .idle →
      (s.leaves d).front.snapStamp = nextStamp 4294967295 s.front.snapStamp ∧
      (s.leaves d).front.snapMark = .writing (snapshotWrites s.front (s.leaves d).core
        (nextStamp 4294967295 s.front.snapStamp) { mode := true } true) true none) := by
  rw [s.leaves_front_one out]
  obtain ⟨faults, -, -, ret, fault, snapshot, hold, msi, -⟩ :=
    Front.trigger_fields d.idleFollow.escalationFollow s.front { mode := true } true
  refine ⟨ret, fault, snapshot, hold, msi, faults, fun hw hm => ?_⟩
  have begins := Front.trigger_idle d.idleFollow.escalationFollow s.front (t := { mode := true }) (b := true)
    (Option.isSome_iff_ne_none.1 hw) hm
  rw [Front.take, begins]
  exact ⟨rfl, rfl⟩

/-- What a write of CONTROL with HOLD_CLEAR leaves of the front for the return to RUN that follows it. -/
structure Front.Cleared (f g : Front) : Prop where
  causeReturn : g.causeReturn = f.causeReturn
  causeFault : g.causeFault = f.causeFault
  causeSnapshot : g.causeSnapshot = f.causeSnapshot
  faults : g.faults = f.faults
  overflow : g.overflow = f.overflow
  snapStamp : g.snapStamp = f.snapStamp
  snapMark : g.snapMark = f.snapMark

theorem Front.Cleared.refl (f : Front) : f.Cleared f := ⟨rfl, rfl, rfl, rfl, rfl, rfl, rfl⟩

theorem Front.cleared_holdClear (c : Core) (f : Front) (h : c.modes.mode.sends = true) : f.Cleared (f.holdClear c) := by
  rw [Front.holdClear_sends c f h]; exact ⟨rfl, rfl, rfl, rfl, rfl, rfl, rfl⟩

/-- A write of CONTROL with WAKE and without SOFT_RESET, in STANDBY or DORMANT: HOLD_CLEAR acts as its bit says, then the
part returns to RUN. -/
theorem State.controlWrite_wake {w : Word32} {s : State} (hr : w.getLsbD 1 = false) (hw : w.getLsbD 3 = true)
    (hm : s.core.modes.mode = .standby ∨ s.core.modes.mode = .dormant) :
    s.controlWrite w = (s.holdClearField (w.getLsbD 2)).runCore Core.toRun := by
  have enable : s.enableField (w.getLsbD 0) = s := State.enableField_unchanged (.inr (hm.imp id .inl))
  have mode : (s.holdClearField (w.getLsbD 2)).core.modes.mode = s.core.modes.mode := by
    unfold State.holdClearField; split <;> rfl
  unfold State.controlWrite
  rw [enable, hr, hw]
  unfold State.wakeField
  rw [mode]
  rcases hm with hm | hm <;> simp [hm]

/-- Settles O10: both events return the part to RUN (`State.runCore_toRun`); a CONTROL write lets HOLD_CLEAR act before, and a
POST write asks for its reads after. -/
theorem wakeEventsReturnToRun : Obligations.WakeEventsReturnToRun := by
  intro i s hr hm hi hstop hflyby hprobe
  have hs : s.core.strobeless = true := (Core.strobeless_iff _).2 ⟨by simp [hstop], hflyby, hprobe⟩
  have sends : s.core.modes.mode.sends = true := by rcases hm with hm | hm <;> rw [hm] <;> rfl
  obtain ⟨g, f, q, run, clear, queue, hold, reads⟩ : ∃ (g : Front) (f : Core → Core) (q : List BoardRead),
      exec i s = .next (State.runCore { s with front := g } f) ∧ s.front.Cleared g ∧
      f s.core = s.core.toRun.setPort { s.core.toRun.port with boardQueue := s.core.toRun.port.boardQueue ++ q } ∧
      (∀ w : Word32, i = .wake w → q = [] ∧
        (w.getLsbD 2 = false → g.hold = s.front.hold ∧ g.msiSent = s.front.msiSent) ∧
        (w.getLsbD 2 = true → g.hold = (s.front.causeReturn || s.front.causeFault || s.front.causeSnapshot))) ∧
      (∀ b, i = .post b → q = s.core.postReads b) := by
    rcases hi with ⟨w, rfl, hsoft, hwake⟩ | ⟨b, rfl⟩
    · have noReads : s.core.toRun = s.core.toRun.setPort { s.core.toRun.port with
          boardQueue := s.core.toRun.port.boardQueue ++ [] } := by rw [List.append_nil]; rfl
      have run : exec (.wake w) s = .next ((s.holdClearField (w.getLsbD 2)).runCore Core.toRun) := by
        rw [← State.controlWrite_wake hsoft hwake hm]; rfl
      cases hb : w.getLsbD 2 with
      | false =>
        rw [hb] at run
        refine ⟨s.front, Core.toRun, [], run, .refl _, noReads, ?_, by rintro _ ⟨⟩⟩
        rintro _ ⟨⟩
        exact ⟨rfl, fun _ => ⟨rfl, rfl⟩, fun h => absurd (h.symm.trans hb) (by decide)⟩
      | true =>
        rw [hb] at run
        refine ⟨s.front.holdClear s.core, Core.toRun, [], run, s.front.cleared_holdClear s.core sends, noReads, ?_, by
          rintro _ ⟨⟩⟩
        rintro _ ⟨⟩
        exact ⟨rfl, fun h => absurd (h.symm.trans hb) (by decide), fun _ => by rw [Front.holdClear_sends s.core s.front sends]⟩
    · refine ⟨s.front, fun c => c.postWrite b, s.core.postReads b, ?_, .refl _, ?_, by rintro _ ⟨⟩, by rintro _ ⟨⟩; rfl⟩
      · rcases hm with hm | hm <;> simp [exec, execPost, hm]
      · have reads : s.core.toRun.postReads b = s.core.postReads b := by
          obtain ⟨lamp, link, t, l, shape, -⟩ := Core.toRun_shape hm
          rw [shape]; rfl
        rw [← reads]; rfl
  obtain ⟨d, leaves, woken⟩ := State.runCore_toRun (s := { s with front := g }) hr hm hs queue
  obtain ⟨ret, fault, snapshot, holds, msi, -, record⟩ := State.leaves_modeSnapshot { s with front := g } woken.out
  refine ⟨_, run, ?_⟩
  rw [leaves]
  refine ⟨woken.mode, woken.dormant, woken.sweep, woken.lamp, woken.relaxed, fun h => ?_, fun h => ?_, fun hw hi => ?_,
    fun w h => ?_, fun b h => ?_, ret.trans clear.causeReturn, fault.trans clear.causeFault,
    snapshot.trans clear.causeSnapshot, woken.ix, woken.focus, woken.roll, woken.rm⟩
  · exact woken.answered _ (by simp [Transport.wakeReply, h])
  · exact woken.answered _ (by simp [Transport.wakeReply, h])
  · obtain ⟨stamp, mark⟩ := record ((congrArg _ woken.workArea).trans hw) (clear.snapMark.trans hi)
    rw [← clear.snapStamp, ← snapshotWrites_congr _ clear.faults clear.overflow]
    exact ⟨stamp, mark⟩
  · obtain ⟨none, kept, cleared⟩ := hold w h
    refine ⟨?_, fun hb => ⟨holds.trans (kept hb).1, msi.trans (kept hb).2⟩, fun hb => holds.trans (cleared hb)⟩
    rw [State.leaves_boardQueue, woken.queue, none, List.append_nil]
  · refine ⟨s.core.namedLookable b, ?_, s.core.namedLookable_ascending b, s.core.mem_namedLookable b⟩
    rw [State.leaves_boardQueue, woken.queue, reads b h, Core.postReads_eq]

end Sys2Proof.Machine
end

section
/-!
SUPPORT. The idle and the dormant count (R206, R207), and the self-test's tests (R203).
-/

namespace Sys2Proof.Machine

/-! ## RELAX and the lamp's end (R69, R145) -/

/-- A ready part's effect that reports at most a reply to the device-mode logic. -/
theorem State.runCore_reply {s : State} {f : Core → Core} {b : Core} (w : Option Reply) (hr : s.ready = true)
    (hf : f s.core = b) (sig : b.sig = w.toList.map .modeReply) (due : b.endDue = false) :
    s.runCore f = s.leaves (b.told b.cap.lamp (w.or b.modes.reply) []) := by
  cases w with
  | none =>
    rw [State.runCore_ready hr hf sig due]
    congr 1
    exact (congrArg (fun l => b.told b.cap.lamp b.modes.reply l) sig.symm).symm ▸ (Core.told_self b).symm
  | some r => exact State.runCore_ready_one hr hf sig rfl due

/-- The reply with which a RELAX is answered at once. -/
def Transport.relaxReply (t : Transport) : Option Reply :=
  match t.st with
  | .hold => if t.tensioning then some .refused else none
  | .unthreaded => some .relaxed
  | _ => some .refused

/-- RELAX starts the relax ramp, or is answered at once. -/
theorem Core.orderRelax_shape (c : Core) :
    ∃ t : Transport, c.orderRelax = (c.setTr t).report (c.tr.relaxReply.toList.map .modeReply) ∧
      (c.tr.relaxReply ≠ none → t = c.tr) ∧
      (c.tr.steady = true → t = { c.tr with relaxRamp := some c.now }) := by
  have answered {r : Reply} (hr : c.tr.relaxReply = some r) (hs : c.tr.steady = false)
      (hw : c.orderRelax = c.emit (.modeReply r)) :
      ∃ t : Transport, c.orderRelax = (c.setTr t).report (c.tr.relaxReply.toList.map .modeReply) ∧
        (c.tr.relaxReply ≠ none → t = c.tr) ∧ (c.tr.steady = true → t = { c.tr with relaxRamp := some c.now }) :=
    ⟨c.tr, by rw [hw, hr]; rfl, fun _ => rfl, fun h => absurd (hs.symm.trans h) (by decide)⟩
  cases h : c.tr.st with
  | hold =>
    cases ht : c.tr.tensioning with
    | true =>
      exact answered (r := .refused) (by simp [Transport.relaxReply, h, ht]) (by simp [Transport.steady, h, ht])
        (by simp [Core.orderRelax, h, ht])
    | false =>
      have none : c.tr.relaxReply = none := by simp [Transport.relaxReply, h, ht]
      refine ⟨{ c.tr with relaxRamp := if c.tr.relaxRamp.isSome then c.tr.relaxRamp else c.tick }, ?_,
        fun h => absurd none h, fun hs => ?_⟩
      · rw [none]
        exact (by simp [Core.orderRelax, h, ht] : c.orderRelax = _).trans (Core.report_nil _).symm
      · have : c.tr.relaxRamp = Option.none := by simpa [Transport.steady, h, ht] using hs
        simp [this]
  | unthreaded =>
    exact answered (r := .relaxed) (by simp [Transport.relaxReply, h]) (by simp [Transport.steady, h]) (by simp [Core.orderRelax, h])
  | _ =>
    exact answered (r := .refused) (by simp [Transport.relaxReply, h]) (by simp [Transport.steady, h]) (by simp [Core.orderRelax, h])

/-- PARK changes the Focus Unit alone. -/
theorem Core.focusPark_shape (c : Core) : ∃ f : Focus, c.focusPark = c.setFocus f := by
  have parked : ∃ f : Focus, c.focusParkNow = c.setFocus f := by
    unfold Core.focusParkNow Core.focusTo
    dsimp only
    repeat' split
    all_goals exact ⟨_, rfl⟩
  unfold Core.focusPark
  split
  · exact ⟨_, rfl⟩
  · exact parked

/-- The lamp goes off, with LAMP OFF submitted where lamp control is PRESENT and the link takes it at once (R145). -/
theorem Core.lampOffEvent_shape {c : Core}
    (h : c.cap.lamp.present = true → c.link.st ≠ .down ∧ c.link.queue.length < 8) :
    ∃ link : Link, c.lampOffEvent =
        (c.setLamp { c.cap.lamp.newRecord with st := .off, fixed := none }).setLink link ∧
      (c.cap.lamp.present = false → link = c.link) ∧
      (c.cap.lamp.present = true → link = { c.link with
        queue := c.link.queue ++ [{ msg := .lampOff, by' := .captureUnit }]
        st := if c.link.st = .idle then .waitFree else c.link.st }) := by
  cases hp : c.cap.lamp.present with
  | false =>
    refine ⟨c.link, ?_, fun _ => rfl, by simp⟩
    simp only [Core.lampOffEvent, Lamp.newRecord, hp]
    rfl
  | true =>
    obtain ⟨up, room⟩ := h hp
    refine ⟨_, ?_, by simp, fun _ => rfl⟩
    simp only [Core.lampOffEvent, Lamp.newRecord, hp, if_true]
    exact Core.submit_queued _ up room

/-! ## The idle and the dormant count -/

/-- Settles O17. -/
theorem idleAndDormantExpiries : Obligations.IdleAndDormantExpiries := by
  refine ⟨fun s hm hr hi hl => ?standby, fun s hm hr hd ht => ?dormant, fun s hm hr ht => ?stays⟩
  case standby =>
    have hi : s.core.modes.idle.isSome = true := Option.isSome_iff_ne_none.2 hi
    obtain ⟨c, hc⟩ : ∃ c, c = s.core.setModes { s.core.modes with
      mode := .standby, idle := none, dormant := s.core.tick } := ⟨_, rfl⟩
    obtain ⟨t, relax, same, ramp⟩ := c.orderRelax_shape
    obtain ⟨link, off, absent, present⟩ :=
      Core.lampOffEvent_shape (c := (c.setTr t).report (c.tr.relaxReply.toList.map .modeReply)) (by rw [hc]; exact hl)
    obtain ⟨focus, park⟩ := Core.focusPark_shape ((((c.setTr t).report (c.tr.relaxReply.toList.map .modeReply)).setLamp
      { c.cap.lamp.newRecord with st := .off, fixed := none }).setLink link)
    have effect : s.core.toStandby = ((((((c.setTr t).report (c.tr.relaxReply.toList.map .modeReply)).setLamp
        { c.cap.lamp.newRecord with st := .off, fixed := none }).setLink link).setFocus focus).trigger
          { mode := true } true) := by
      rw [← park]
      refine Eq.trans ?_ (congrArg (fun d => d.focusPark.trigger { mode := true } true) off)
      rw [← relax, hc]
      simp [Core.toStandby, hm, hi]
    have sig : c.sig = [] := by rw [hc]; exact s.ready_sig hr
    have out : c.out = [] := by rw [hc]; exact s.ready_out hr
    have tr : c.tr = s.core.tr := by rw [hc]; rfl
    have now : c.now = s.core.now := by rw [hc]; rfl
    have leaves := State.runCore_reply c.tr.relaxReply hr effect (by
      change c.sig ++ _ = _
      rw [sig, List.nil_append]) (by rw [hc]; exact s.ready_endDue hr)
    obtain ⟨d, hd⟩ : ∃ d, d = Core.told (((((c.setTr t).setLamp
        { c.cap.lamp.newRecord with st := .off, fixed := none }).setLink link).setFocus focus).trigger
          { mode := true } true) { c.cap.lamp.newRecord with st := .off, fixed := none }
        (c.tr.relaxReply.or c.modes.reply) [] := ⟨_, rfl⟩
    have leaves : s.runCore Core.toStandby = s.leaves d := by rw [leaves, hd]; rfl
    obtain ⟨-, -, -, -, -, faults, record⟩ := s.leaves_modeSnapshot (d := d) (by
      rw [hd]
      change c.out ++ _ = _
      rw [out, List.nil_append])
    refine ⟨s.leaves d, congrArg _ leaves, ?_⟩
    subst hd
    subst hc
    refine ⟨rfl, rfl, rfl, rfl, rfl, rfl, absent, present, ramp, fun hu => ?_, rfl, rfl, rfl, faults,
      fun hw hi => (record hw hi).2⟩
    have answer : s.core.tr.relaxReply = some .relaxed := by simp [Transport.relaxReply, hu]
    refine ⟨same (by rw [tr, answer]; simp), ?_⟩
    change s.core.tr.relaxReply.or _ = _
    rw [answer]; rfl
  case dormant =>
    have hd : s.core.modes.dormant.isSome = true := Option.isSome_iff_ne_none.2 hd
    refine congrArg Host.Outcome.next (State.runCore_leaves hr ?_ rfl rfl rfl)
    simp [Core.toDormant, hm, hd, ht]
  case stays =>
    refine congrArg Host.Outcome.next (State.runCore_leaves hr ?_ rfl rfl rfl)
    simp [Core.toDormant, ht]

/-! ## The self-test -/

/-- In a mode that sends no message, a fault that is queued counts none. -/
theorem Front.raiseFault_silent {c : Core} (f : Front) (e : FaultEntry) (h : c.modes.mode.sends = false) :
    (f.raiseFault c e).msiSent = f.msiSent ∧ (f.raiseFault c e).enable = f.enable := by
  obtain ⟨-, -, -, -, -, -, -, msi, enable, -⟩ := Front.trigger_fields c
    (if f.faults.length < 16 ∧ f.overflow = false then ({ f with faults := f.faults ++ [e] }).raiseFaultCause c
      else { f with overflow := true, discards := min (f.discards + 1) 16777215 }) { fault := true } false
  refine ⟨msi.trans ?_, enable.trans ?_⟩
  all_goals
    simp only [Front.raiseFaultCause, Front.causeRaised, Front.message_silent _ _ h]
    repeat' split
  all_goals rfl

/-- What a self-test fault, sent in a mode without messages, leaves of the front. -/
theorem State.leaves_faultSilent (s : State) {d : Core} {e : FaultEntry} (out : d.out = [.fault e])
    (silent : d.modes.mode.sends = false) :
    (s.leaves d).front.faults = s.front.queued e ∧ (s.leaves d).front.msiSent = s.front.msiSent := by
  rw [s.leaves_front_one out]
  exact ⟨Front.raiseFault_faults _ _ e, (Front.raiseFault_silent (c := d.idleFollow.escalationFollow) _ e silent).1⟩

/-- An end of a test that does not lead to CONFIG WAIT is its effect alone. -/
theorem exec_selftest {s : State} {e : TestEnd} {d : Core} (h : s.runCore (fun c => c.testDone e) = s.leaves d)
    (hd : d.modes.mode ≠ .configWait) : exec (.selftestTestDone e) s = .next (s.leaves d) := by
  have : ¬ (s.core.modes.mode = .startUp ∧ (s.leaves d).core.modes.mode = .configWait ∧ (s.leaves d).front.enable = true) :=
    fun h => hd h.2.1
  rw [exec, execSelftestTestDone, h]
  exact if_neg this

/-- A fatal end: FAILED, with the code of the test and its fault (R203). -/
theorem exec_selftest_fatal {s : State} {e : TestEnd} (hr : s.ready = true) (h : s.core.testDone e = s.core.fatal) :
    ∃ t, exec (.selftestTestDone e) s = .next t ∧ t.core.modes.mode = .failed ∧
      t.core.modes.progress = s.core.modes.progress ∧ t.core.tr = s.core.tr ∧
      t.front.faults = s.front.queued ⟨.selftest, .selfTest, BitVec.ofNat 24 s.core.modes.progress, 0⟩ ∧
      t.front.msiSent = s.front.msiSent := by
  have out : s.core.fatal.out = [.fault ⟨.selftest, .selfTest, BitVec.ofNat 24 s.core.modes.progress, 0⟩] := by
    change s.core.out ++ _ = _
    rw [s.ready_out hr, List.nil_append]
  refine ⟨_, exec_selftest (State.runCore_leaves hr h rfl rfl rfl) (by simp [Core.fatal]), rfl, rfl, rfl,
    s.leaves_faultSilent out rfl⟩

theorem nearMid_iff (mid reading : Nat) : nearMid mid reading = true ↔ mid ≤ reading + 32 ∧ reading ≤ mid + 32 := by
  simp [nearMid]

/-- The core in which test `n` has ended as `ok`, before the next test's submission. -/
def Core.testEnded (c : Core) (n : Nat) (ok : Bool) : Core :=
  ((if ok then c else c.fault .selftest .selfTest n 0).setLink
    (if n = 5 then { c.link with opened := true } else c.link)).setModes
      { c.modes with progress := n + 1, linkResult := none }

/-- The message that the test after test `n` submits. -/
def testMessage (n : Nat) : LinkMsg := if n = 5 then .lampStatus 0 else .survey

theorem Core.testDone_link {c : Core} {n : Nat} {ok : Bool} (hm : c.modes.mode = .startUp) (hp : c.modes.progress = n)
    (hl : c.modes.linkResult = some ok) (hn : n = 5 ∨ n = 6 ∨ n = 7) :
    c.testDone .link = if n = 7 then c.testEnded n ok
      else (c.testEnded n ok).submit { msg := testMessage n, by' := .startUp } := by
  subst hp
  rcases hn with h | h | h <;> cases ok <;>
    simp [Core.testDone, hm, hl, h, Core.testOver, Core.beginTest, Core.testEnded, testMessage] <;> rfl

/-- The end of a link test changes the modes and, for test 05h, the link's opening; a failure is its fault. -/
theorem Core.testEnded_fields (c : Core) (n : Nat) (ok : Bool) :
    (c.testEnded n ok).tr = c.tr ∧ (c.testEnded n ok).cap = c.cap ∧ (c.testEnded n ok).roll = c.roll ∧
    (c.testEnded n ok).rm = c.rm ∧ (c.testEnded n ok).sig = c.sig ∧
    (c.testEnded n ok).out = c.out ++ if ok then [] else [.fault ⟨.selftest, .selfTest, BitVec.ofNat 24 n, 0⟩] := by
  unfold Core.testEnded
  cases ok <;> simp

/-- A submission on a link that is not DOWN changes the link alone. -/
theorem Core.submit_up {c : Core} (item : LinkItem) (h : c.link.st ≠ .down) :
    ∃ link : Link, c.submit item = c.setLink link ∧ link.SameLine c.link ∧
      (c.link.st = .idle → c.link.queue = [] → link.st = .waitFree ∧ link.queue = [item]) := by
  by_cases hq : c.link.queue.length < 8
  · refine ⟨_, c.submit_queued item h hq, ⟨?_, rfl, rfl, rfl⟩, fun hi he => by simp [hi, he]⟩
    dsimp only
    split <;> simp_all
  · exact ⟨_, c.submit_waits item h hq, ⟨Iff.rfl, rfl, rfl, rfl⟩, fun _ he => absurd (by simp [he]) hq⟩

/-- The front after the end of a link test: a failure queues its fault, and no message is sent. -/
theorem State.leaves_tested (s : State) {d : Core} {n : Nat} {ok : Bool}
    (out : d.out = if ok then [] else [.fault ⟨.selftest, .selfTest, BitVec.ofNat 24 n, 0⟩])
    (mode : d.modes.mode = .startUp) :
    (s.leaves d).front.msiSent = s.front.msiSent ∧
    (s.leaves d).front.faults = (if ok then s.front.faults
      else s.front.queued ⟨.selftest, .selfTest, BitVec.ofNat 24 n, 0⟩) := by
  cases ok with
  | true => rw [s.leaves_front out]; exact ⟨rfl, rfl⟩
  | false =>
    obtain ⟨faults, msi⟩ := s.leaves_faultSilent out (by rw [mode]; rfl)
    exact ⟨msi, faults⟩

/-- The last test's end on a ready part. -/
theorem State.runCore_lastTest {s : State} (hm : s.core.modes.mode = .startUp) (hp : s.core.modes.progress = 8)
    (hr : s.ready = true) : s.runCore (fun c => c.testDone .film) = s.leaves s.core.lastTest :=
  State.runCore_leaves hr (by simp [Core.testDone, hm, hp]) rfl rfl rfl

/-- Settles O16. -/
theorem selfTestAdvancesOrFails : Obligations.SelfTestAdvancesOrFails := by
  intro s hm hr
  have startUp : s.core.modes.mode ≠ .configWait := by rw [hm]; decide
  have out := s.ready_out hr
  refine ⟨fun h1 h3 => ⟨?pass, ?fail⟩, fun h4 a b d e f => ⟨fun h => ?near, fun h => ?far⟩, fun n ok hn hp hl => ?link,
    fun hl => ?undecided, fun hp he => ?last, fun hp he => ?lastEnabled⟩
  case pass =>
    refine exec_selftest (State.runCore_leaves hr ?_ rfl rfl rfl) startUp
    have h5 : s.core.modes.progress + 1 ≠ 5 := by omega
    have h6 : s.core.modes.progress + 1 ≠ 6 := by omega
    have h7 : s.core.modes.progress + 1 ≠ 7 := by omega
    simp only [Core.testDone, hm, h1, h3, Core.testOver, Core.beginTest, h5, h6, h7, and_self, if_true, if_false]
  case fail => exact exec_selftest_fatal hr (by simp [Core.testDone, hm, h1, h3])
  case near =>
    refine exec_selftest (State.runCore_leaves hr ?_ rfl rfl rfl) startUp
    have near : (nearMid 512 a && nearMid 512 b && nearMid 512 d && nearMid 2048 e && nearMid 2048 f) = true := by
      simp only [Bool.and_eq_true, nearMid_iff]; omega
    simp [Core.testDone, hm, h4, near, Core.testOver, Core.beginTest]
  case far =>
    have far : ¬ (nearMid 512 a && nearMid 512 b && nearMid 512 d && nearMid 2048 e && nearMid 2048 f) = true := by
      simp only [Bool.and_eq_true, nearMid_iff]; omega
    have fatal := exec_selftest_fatal (e := .references a b d e f) hr (by
      simp only [Core.testDone, hm, h4, if_true]
      exact if_neg far)
    rwa [h4] at fatal
  case link =>
    have ended := Core.testDone_link hm hp hl hn
    obtain ⟨tr, cap, roll, rm, sig, sent⟩ := s.core.testEnded_fields n ok
    obtain ⟨c, hc⟩ : ∃ c, c = s.core.testEnded n ok := ⟨_, rfl⟩
    have mode : c.modes.mode = .startUp := by rw [hc]; exact hm
    have progress : c.modes.progress = n + 1 := by rw [hc]; rfl
    have undecided : c.modes.linkResult = none := by rw [hc]; rfl
    have link : c.link = if n = 5 then { s.core.link with opened := true } else s.core.link := by rw [hc]; rfl
    have linkSt : c.link.st = s.core.link.st := by rw [link]; split <;> rfl
    have linkQueue : c.link.queue = s.core.link.queue := by rw [link]; split <;> rfl
    have linkOpened : n = 5 → c.link.opened = true := fun h => by rw [link, if_pos h]
    rw [← hc] at ended tr cap roll rm sig sent
    rw [out, List.nil_append] at sent
    rw [s.ready_sig hr] at sig
    have due : c.endDue = false := (Core.endDue_congr rm cap).trans (s.ready_endDue hr)
    by_cases h7 : n = 7
    · rw [if_pos h7] at ended
      have run : s.runCore (fun c => c.testDone .link) = s.leaves c := State.runCore_ready hr ended sig due
      obtain ⟨msi, faults⟩ := s.leaves_tested sent mode
      refine ⟨_, exec_selftest run (by rw [mode]; decide), mode, progress, tr, msi, faults, linkOpened,
        fun _ => ⟨?_, roll, undecided⟩, fun h => absurd h7 h, fun h => absurd h7 h⟩
      exact link.trans (if_neg (by omega))
    · rw [if_neg h7] at ended
      by_cases hd : c.link.st = .down
      · rw [Core.submit_down _ hd] at ended
        obtain ⟨d, hd'⟩ : ∃ d, d = ({ c with sig := [] } : Core).startUpResult (testMessage n) [] (some .down) := ⟨_, rfl⟩
        have told : d = if n = 5 then ((({ c with sig := [] } : Core).setModes { c.modes with linkResult := some false }).setCap
              { c.cap with lamp := { c.cap.lamp with present := false } })
            else (({ c with sig := [] } : Core).setModes { c.modes with linkResult := some false }).setRoll
              { c.roll.single with checked := true } := by
          rw [hd', testMessage]; split <;> rfl
        have kept : d.sig = [] ∧ d.endDue = false ∧ d.modes = { c.modes with linkResult := some false } ∧ d.tr = c.tr ∧
            d.link = c.link ∧ d.out = c.out := by
          rw [told]; split <;> exact ⟨rfl, due, rfl, rfl, rfl, rfl⟩
        obtain ⟨dsig, ddue, dmodes, dtr, dlink, dout⟩ := kept
        have run : s.runCore (fun c => c.testDone .link) = s.leaves d := by
          have taken : ({ c.emit (.linkResult { msg := testMessage n, by' := .startUp } [] (some .down)) with sig := [] }
              : Core).handle (.linkResult { msg := testMessage n, by' := .startUp } [] (some .down)) = d := by rw [hd']; rfl
          exact (State.runCore_ready_one (f := fun c => c.testDone .link)
            (x := .linkResult { msg := testMessage n, by' := .startUp } [] (some .down)) hr ended (by simp [sig]) (by rw [taken]; exact dsig)
            (by rw [taken]; exact ddue)).trans (by rw [taken])
        have dmode : d.modes.mode = .startUp := by rw [dmodes]; exact mode
        obtain ⟨msi, faults⟩ := s.leaves_tested (dout.trans sent) dmode
        refine ⟨_, exec_selftest run (by rw [dmode]; decide), dmode, by rw [State.leaves_progress, dmodes]; exact progress,
          dtr.trans tr, msi, faults, fun h => (congrArg _ dlink).trans (linkOpened h), fun h => absurd h h7,
          fun _ hi => absurd (linkSt.symm.trans hd) (by rw [hi]; decide), fun _ _ => ⟨?_, ?_, ?_, fun h5 => ?_, fun h6 => ?_⟩⟩
        · change d.modes.linkResult = _
          rw [dmodes]
        · exact (congrArg _ dlink).trans hd
        · exact (congrArg _ dlink).trans linkQueue
        · rw [State.leaves_cap, State.leaves_roll, told, if_pos h5]
          exact ⟨rfl, roll⟩
        · rw [State.leaves_cap, State.leaves_roll, told, if_neg (by omega)]
          exact ⟨rfl, rfl, cap⟩
      · obtain ⟨link', queued, line, alone⟩ := Core.submit_up { msg := testMessage n, by' := .startUp } hd
        rw [queued] at ended
        have run : s.runCore (fun c => c.testDone .link) = s.leaves (c.setLink link') :=
          State.runCore_ready hr ended sig due
        obtain ⟨msi, faults⟩ := s.leaves_tested (d := c.setLink link') sent mode
        refine ⟨_, exec_selftest run (by rw [Core.setLink_modes, mode]; decide), mode, progress, tr, msi, faults,
          fun h => line.opened.trans (linkOpened h), fun h => absurd h h7, fun _ hi hq => ?_, fun _ h => ?_⟩
        · obtain ⟨st, queue⟩ := alone (linkSt.trans hi) (linkQueue.trans hq)
          exact ⟨undecided, roll, cap, st, queue⟩
        · exact absurd (linkSt.trans h) hd
  case undecided =>
    refine exec_selftest (State.runCore_leaves hr ?_ rfl rfl rfl) startUp
    simp [Core.testDone, hm, hl]
  case last =>
    have run := State.runCore_lastTest hm hp hr
    rw [exec, execSelftestTestDone, run]
    refine if_neg ?_
    rw [s.leaves_front (show s.core.lastTest.out = [] from out), he]
    simp
  case lastEnabled =>
    have run := State.runCore_lastTest hm hp hr
    have front : (s.leaves s.core.lastTest).front = s.front := s.leaves_front (show s.core.lastTest.out = [] from out)
    have ready : (s.leaves s.core.lastTest).ready = true := (State.ready_iff _).2
      ⟨fun h => Mode.noConfusion h, s.ready_sig hr, rfl, s.ready_endDue hr⟩
    have ends : exec (.selftestTestDone .film) s = .next (s.leaves s.core.lastTest).setupBegin := by
      rw [exec, execSelftestTestDone, run]
      exact if_pos ⟨hm, rfl, by rw [front]; exact he⟩
    rw [State.setupBegin_leaves ready, front] at ends
    refine ⟨_, ends, rfl, rfl, rfl, rfl, rfl, ?_⟩
    rw [State.leaves_front]
    · exact ⟨rfl, rfl, he⟩
    · rfl

end Sys2Proof.Machine
end

section
/-!
SUPPORT. What the end of a forward motion, a disarmed compare and the coming to rest can touch; then the soft reset
(R72, R114, R133, R147, R167, R184, R198, R205).
-/

namespace Sys2Proof.Machine

/-! ## Operations of the Index Unit -/

/-- `d` is `c` with another Frame Index, reports and things sent, and the index kept its Export Stamp. -/
structure Core.IndexStep (c d : Core) : Prop where
  frame : d = { c with ix := d.ix, sig := d.sig, out := d.out }
  stamp : d.ix.exportStamp = c.ix.exportStamp

theorem Core.IndexStep.refl (c : Core) : c.IndexStep c := ⟨rfl, rfl⟩

theorem Core.IndexStep.trans {c d e : Core} (h : c.IndexStep d) (g : d.IndexStep e) : c.IndexStep e :=
  ⟨by rw [g.frame, h.frame], g.stamp.trans h.stamp⟩

theorem Core.IndexStep.setIx (c : Core) {x : IndexUnit} (h : x.exportStamp = c.ix.exportStamp) : c.IndexStep (c.setIx x) :=
  ⟨rfl, h⟩

section
variable {c d : Core} (h : c.IndexStep d)
include h

theorem Core.IndexStep.pins : d.pins = c.pins := by rw [h.frame]
theorem Core.IndexStep.modes : d.modes = c.modes := by rw [h.frame]
theorem Core.IndexStep.port : d.port = c.port := by rw [h.frame]
theorem Core.IndexStep.rm : d.rm = c.rm := by rw [h.frame]
theorem Core.IndexStep.store : d.store = c.store := by rw [h.frame]
theorem Core.IndexStep.tr : d.tr = c.tr := by rw [h.frame]
theorem Core.IndexStep.porter : d.porter = c.porter := by rw [h.frame]
theorem Core.IndexStep.focus : d.focus = c.focus := by rw [h.frame]
theorem Core.IndexStep.cap : d.cap = c.cap := by rw [h.frame]
theorem Core.IndexStep.roll : d.roll = c.roll := by rw [h.frame]
theorem Core.IndexStep.link : d.link = c.link := by rw [h.frame]
theorem Core.IndexStep.now : d.now = c.now := by rw [h.frame]
theorem Core.IndexStep.free : d.free = c.free := by rw [h.frame]

end

theorem Core.indexStep_appendEntry (c : Core) (e : Entry) : c.IndexStep (c.appendEntry e) := by
  unfold Core.appendEntry
  dsimp only
  split <;> exact ⟨rfl, rfl⟩

theorem Core.indexStep_appendDetected (c : Core) (f : OpenFrame) (trail : Int) (cls : BlipClass) :
    c.IndexStep (c.appendDetected f trail cls) := by
  unfold Core.appendDetected
  dsimp only
  refine .trans ?_ (Core.indexStep_appendEntry _ _)
  exact .setIx c rfl

theorem Core.indexStep_appendWaiting (c : Core) : c.IndexStep c.appendWaiting := by
  unfold Core.appendWaiting
  split
  · refine .trans ?_ (Core.indexStep_appendDetected _ _ _ _)
    exact .setIx c rfl
  · exact .refl c

theorem Core.appendWaiting_of_none {c : Core} (h : c.ix.waitingFrame = none) : c.appendWaiting = c := by
  simp [Core.appendWaiting, h]

theorem Core.endMotion_of_none {c : Core} (h : c.ix.motion = none) : c.endMotion = c.setIx { c.ix with unit := .off } := by
  simp [Core.endMotion, h]

theorem Core.endMotion_of_some {c : Core} {m : Motion} (h : c.ix.motion = some m) :
    c.endMotion = c.appendWaiting.setIx { c.appendWaiting.ix with
      unit := .off, motion := none, openFrame := none, waitingFrame := none
      detector := { c.appendWaiting.ix.detector with run := none }, blipPulse := none, pendingPulse := none
      edgePulse := none } := by
  simp [Core.endMotion, h]

theorem Core.indexStep_endMotion (c : Core) : c.IndexStep c.endMotion := by
  cases h : c.ix.motion with
  | none => rw [Core.endMotion_of_none h]; exact .setIx c rfl
  | some m => rw [Core.endMotion_of_some h]; exact .trans c.indexStep_appendWaiting (.setIx _ rfl)

/-- No forward motion is under way once one has been ended. -/
theorem Core.endMotion_motion (c : Core) : c.endMotion.ix.motion = none := by
  cases h : c.ix.motion with
  | none => rw [Core.endMotion_of_none h]; exact h
  | some m => rw [Core.endMotion_of_some h]; rfl

/-! ## Leaving a motion -/

/-- Disarming the compare changes what the Capture Unit has armed and current alone, with its report. -/
theorem Core.disarm_shape (c : Core) : ∃ (armed : Option Armed) (flyby : Option FlybyFrame) (l : List Signal),
    c.disarm = (c.setCap { c.cap with armed := armed, flyby := flyby }).report l ∧ (c.cap.armed = none → c.disarm = c) := by
  unfold Core.disarm
  split
  · next a h => exact ⟨_, _, _, rfl, fun g => by rw [h] at g; cases g⟩
  · exact ⟨c.cap.armed, c.cap.flyby, [], (Core.report_nil _).symm, fun _ => rfl⟩

/-- The transport at rest in HOLD (STEADY), as it comes out of a motion. -/
def Transport.rested (t : Transport) : Transport :=
  { t with
    plan := none, vRef := 0, settleCount := none, stopWaits := false, feedCount := none
    supply := t.supply.undriven, takeUp := t.takeUp.undriven, st := .hold, tensioning := false }

/-- What the coming to rest in HOLD touches: the transport, the index, the compare and the reports. -/
theorem Core.enterHold_shape (c : Core) : ∃ (armed : Option Armed) (flyby : Option FlybyFrame) (l : List Signal),
    ∃ d, ((c.setCap { c.cap with armed := armed, flyby := flyby }).report l).IndexStep d ∧
      d = ((c.setCap { c.cap with armed := armed, flyby := flyby }).report l).endMotion ∧
      c.enterHold = d.setTr c.tr.rested := by
  obtain ⟨armed, flyby, l, disarmed, -⟩ := c.disarm_shape
  have step := Core.indexStep_endMotion ((c.setCap { c.cap with armed := armed, flyby := flyby }).report l)
  refine ⟨armed, flyby, l, _, step, rfl, ?_⟩
  have tr := step.tr
  unfold Core.enterHold Core.leaveMotion
  rw [disarmed]
  dsimp only
  rw [tr]
  rfl

/-! ## The soft reset -/

/-- With no motion under way the coming to rest appends nothing. -/
theorem Core.enterHold_still {c : Core} (h : c.ix.motion = none) :
    ∃ (armed : Option Armed) (flyby : Option FlybyFrame) (l : List Signal),
      c.enterHold = (((c.setCap { c.cap with armed := armed, flyby := flyby }).report l).setIx
        { c.ix with unit := .off }).setTr c.tr.rested := by
  obtain ⟨armed, flyby, l, d, -, hd, hold⟩ := c.enterHold_shape
  refine ⟨armed, flyby, l, ?_⟩
  rw [hold, hd, Core.endMotion_of_none (c := (c.setCap { c.cap with armed := armed, flyby := flyby }).report l) h]
  rfl

/-- The transport after a soft reset, by its state (R72). -/
def Transport.afterReset (t : Transport) : Transport :=
  match t.st with
  | .move =>
    match t.phase with
    | .creep | .settle | .brake .creepEnd => t.abandon.rested
    | _ => if t.vRef = 0 then t.abandon.rested else { t.abandon with plan := none, phase := .brake .softReset }
  | .threading | .unthreading => { t.abandon with resetBraking := true }
  | .unreferenced => { t.abandon.stopRegulator with tensionTest := false, testCount := none }
  | _ => t.abandon

/-- The abandoned orders are no part of the motion. -/
theorem Transport.abandon_move (t : Transport) :
    t.abandon.st = t.st ∧ t.abandon.phase = t.phase ∧ t.abandon.vRef = t.vRef := ⟨rfl, rfl, rfl⟩

/-- A soft reset of the transport at rest in the index's eyes: it touches the transport, the compare, the search and the
drives' torques. -/
theorem Core.transportReset_shape {c : Core} (h : c.ix.motion = none) :
    ∃ (cap : Capture) (l : List Signal) (x : IndexUnit) (p : Pins),
      c.transportReset = ((((c.setCap cap).report l).setIx x).setPins p).setTr c.tr.afterReset ∧
      cap.softReset = c.cap.softReset ∧ x.softReset = c.ix.softReset ∧ x.exportStamp = c.ix.exportStamp := by
  have rests : ∃ (cap : Capture) (l : List Signal) (x : IndexUnit) (p : Pins),
      (c.setTr c.tr.abandon).enterHold = ((((c.setCap cap).report l).setIx x).setPins p).setTr c.tr.abandon.rested ∧
      cap.softReset = c.cap.softReset ∧ x.softReset = c.ix.softReset ∧ x.exportStamp = c.ix.exportStamp := by
    obtain ⟨armed, flyby, l, hold⟩ := Core.enterHold_still (c := c.setTr c.tr.abandon) h
    exact ⟨{ c.cap with armed := armed, flyby := flyby }, l, { c.ix with unit := .off }, c.pins, hold, rfl, rfl, rfl⟩
  have goes (x : IndexUnit) (p : Pins) (t : Transport) (hx : x.softReset = c.ix.softReset)
      (hs : x.exportStamp = c.ix.exportStamp) : ∃ (cap : Capture) (l : List Signal) (y : IndexUnit) (q : Pins),
      ((c.setIx x).setPins p).setTr t = ((((c.setCap cap).report l).setIx y).setPins q).setTr t ∧
      cap.softReset = c.cap.softReset ∧ y.softReset = c.ix.softReset ∧ y.exportStamp = c.ix.exportStamp :=
    ⟨c.cap, [], x, p, by rw [Core.report_nil]; rfl, rfl, hx, hs⟩
  have atRest (reset : c.transportReset = (c.setTr c.tr.abandon).enterHold) (tr : c.tr.afterReset = c.tr.abandon.rested) :
      ∃ (cap : Capture) (l : List Signal) (x : IndexUnit) (p : Pins),
        c.transportReset = ((((c.setCap cap).report l).setIx x).setPins p).setTr c.tr.afterReset ∧
        cap.softReset = c.cap.softReset ∧ x.softReset = c.ix.softReset ∧ x.exportStamp = c.ix.exportStamp := by
    rw [reset, tr]; exact rests
  have onTheWay (hv : c.tr.vRef ≠ 0)
      (reset : c.transportReset = (c.setTr c.tr.abandon).setTr
        { c.tr.abandon with plan := none, phase := .brake .softReset })
      (tr : c.tr.afterReset = { c.tr.abandon with plan := none, phase := .brake .softReset }) :
      ∃ (cap : Capture) (l : List Signal) (x : IndexUnit) (p : Pins),
        c.transportReset = ((((c.setCap cap).report l).setIx x).setPins p).setTr c.tr.afterReset ∧
        cap.softReset = c.cap.softReset ∧ x.softReset = c.ix.softReset ∧ x.exportStamp = c.ix.exportStamp := by
    rw [reset, tr]; exact goes c.ix c.pins _ rfl rfl
  cases hst : c.tr.st with
  | move =>
    by_cases hv : c.tr.vRef = 0
    · apply atRest
      · simp only [Core.transportReset, Core.setTr_tr, Transport.abandon_move, hst, hv, if_true]
        split <;> rfl
      · simp only [Transport.afterReset, hst, hv, if_true]
        split <;> rfl
    · cases hph : c.tr.phase with
      | creep | settle =>
        exact atRest (by simp only [Core.transportReset, Core.setTr_tr, Transport.abandon_move, hst, hph])
          (by simp only [Transport.afterReset, hst, hph])
      | accel | cruise =>
        exact onTheWay hv
          (by simp only [Core.transportReset, Core.setTr_tr, Transport.abandon_move, hst, hph, hv, if_false])
          (by simp only [Transport.afterReset, hst, hph, hv, if_false])
      | brake g =>
        cases g with
        | creepEnd =>
          exact atRest (by simp only [Core.transportReset, Core.setTr_tr, Transport.abandon_move, hst, hph])
            (by simp only [Transport.afterReset, hst, hph])
        | _ =>
          exact onTheWay hv
            (by simp only [Core.transportReset, Core.setTr_tr, Transport.abandon_move, hst, hph, hv, if_false])
            (by simp only [Transport.afterReset, hst, hph, hv, if_false])
  | threading | unthreading =>
    simp only [Core.transportReset, Transport.afterReset, Core.setTr_tr, Transport.abandon_move, hst]
    exact goes { c.ix with searching := false } c.pins _ rfl rfl
  | unreferenced =>
    simp only [Core.transportReset, Transport.afterReset, Core.setTr_tr, Transport.abandon_move, hst]
    exact goes c.ix _ _ rfl rfl
  | _ =>
    simp only [Core.transportReset, Transport.afterReset, Core.setTr_tr, Transport.abandon_move, hst]
    exact goes c.ix c.pins _ rfl rfl

/-- A PARK that is taken keeps the map, the counter and the records. -/
theorem Core.focusParkNow_shape (c : Core) : ∃ f : Focus, c.focusParkNow = c.setFocus f ∧ f.map = c.focus.map ∧
    f.counter = c.focus.counter ∧ f.probe = c.focus.probe ∧ f.placement = c.focus.placement ∧ f.held = c.focus.held := by
  unfold Core.focusParkNow Core.focusTo
  dsimp only
  repeat' split
  all_goals exact ⟨_, rfl, rfl, rfl, rfl, rfl, rfl⟩

/-- What every transport keeps in a soft reset. -/
theorem Transport.afterReset_keeps (t : Transport) :
    t.afterReset.p = t.p ∧ t.afterReset.reelTypes = t.reelTypes ∧ t.afterReset.geometry = t.geometry ∧
    t.afterReset.supply.radius = t.supply.radius ∧ t.afterReset.supply.length = t.supply.length ∧
    t.afterReset.takeUp.radius = t.takeUp.radius ∧ t.afterReset.takeUp.length = t.takeUp.length ∧
    t.afterReset.supplyDancer.sum = t.supplyDancer.sum ∧ t.afterReset.takeUpDancer.sum = t.takeUpDancer.sum ∧
    t.afterReset.waiting = none ∧ t.afterReset.waitingUnthread = false ∧ t.afterReset.rollWaits = false := by
  unfold Transport.afterReset
  repeat' split
  all_goals exact ⟨rfl, rfl, rfl, rfl, rfl, rfl, rfl, rfl, rfl, rfl, rfl, rfl⟩

/-- A moving transport in a soft reset: at rest at once from a creep or a settle, else braking to HOLD. -/
theorem Transport.afterReset_move {t : Transport} (h : t.st = .move) : t.afterReset.plan = none ∧
    (t.phase = .creep ∨ t.phase = .settle ∨ t.phase = .brake .creepEnd →
      t.afterReset.st = .hold ∧ t.afterReset.tensioning = false ∧ t.afterReset.vRef = 0) ∧
    (∀ g, t.phase = .accel ∨ t.phase = .cruise ∨ t.phase = .brake g ∧ g ≠ .creepEnd → 0 < t.vRef →
      t.afterReset.st = .move ∧ t.afterReset.phase = .brake .softReset ∧ t.afterReset.vRef = t.vRef) := by
  have brakes (moving : 0 < t.vRef) (away : t.phase ≠ .creep ∧ t.phase ≠ .settle ∧ t.phase ≠ .brake .creepEnd) :
      t.afterReset = { t.abandon with plan := none, phase := .brake .softReset } := by
    unfold Transport.afterReset
    rw [h]
    dsimp only
    split
    · next hp => exact absurd hp away.1
    · next hp => exact absurd hp away.2.1
    · next hp => exact absurd hp away.2.2
    · exact if_neg (by omega)
  refine ⟨?_, fun hp => ?_, fun g hp moving => ?_⟩
  · unfold Transport.afterReset
    rw [h]
    dsimp only
    repeat' split
    all_goals rfl
  · rcases hp with hp | hp | hp <;> simp [Transport.afterReset, h, hp, Transport.rested]
  · have away : t.phase ≠ .creep ∧ t.phase ≠ .settle ∧ t.phase ≠ .brake .creepEnd := by
      rcases hp with hp | hp | ⟨hp, hg⟩ <;> simp [hp]
      exact hg
    rw [brakes moving away]
    exact ⟨h, rfl, rfl⟩

/-- The link after a soft reset, by its state (R198). -/
theorem Link.softReset_states (l : Link) (now : Nat) : (l.st = .down → (l.softReset now).st = .down) ∧
    (l.st = .target → (l.softReset now).st = .target ∧ (l.softReset now).dropMessage = true) ∧
    (l.st ≠ .down → l.st ≠ .target → (l.softReset now).st = .idle) := by
  refine ⟨fun h => by simp [Link.softReset, h], fun h => by simp [Link.softReset, h], fun h g => ?_⟩
  cases hl : l.st with
  | down => exact absurd hl h
  | target => exact absurd hl g
  | _ => simp [Link.softReset, hl]

/-- The core after a soft reset: each block by its own rule. -/
theorem Core.softReset_shape (c : Core) : ∃ (f : Focus) (x : IndexUnit) (p : Pins),
    c.softReset = { c with
      pins := p, modes := c.modes.softReset, port := c.port.softReset, rm := ReqMgr.reset
      store := { c.store with load := none }, tr := c.tr.afterReset, ix := x.softReset, porter := Porter.reset, focus := f
      cap := c.cap.softReset, roll := c.roll.softReset, link := c.link.softReset c.now, sig := [], out := [] } ∧
    (f.map = c.focus.map ∧ f.counter = c.focus.counter ∧ f.probe = none ∧ f.placement = none ∧ f.held = []) ∧
    x.softReset = c.endMotion.ix.softReset ∧ x.exportStamp = c.ix.exportStamp := by
  have step := c.indexStep_endMotion
  obtain ⟨cap, l, x, p, reset, capReset, ixReset, stamp⟩ := Core.transportReset_shape c.endMotion_motion
  rw [step.cap] at capReset
  rw [step.tr] at reset
  obtain ⟨f, park, map, counter, probe, placement, held⟩ := Core.focusParkNow_shape
    ((c.endMotion.transportReset.setIx x.softReset).setFocus { c.focus with
      probe := none, placement := none, held := [], st := match c.focus.st with | .probing => .moving .park | s => s })
  refine ⟨f, x, p, ?_, ⟨map, counter, probe, placement, held⟩, ixReset, stamp.trans step.stamp⟩
  have parked : (c.endMotion.transportReset.setIx c.endMotion.transportReset.ix.softReset).focusSoftReset =
      (c.endMotion.transportReset.setIx x.softReset).setFocus f := by
    rw [show c.endMotion.transportReset.ix = x by rw [reset]; rfl]
    refine Eq.trans ?_ park
    unfold Core.focusSoftReset
    rw [show (c.endMotion.transportReset.setIx x.softReset).focus = c.focus by rw [reset]; exact step.focus] <;> rfl
  unfold Core.softReset
  dsimp only
  rw [parked, reset]
  change ({
    pins := p, modes := c.endMotion.modes.softReset, port := c.endMotion.port.softReset, rm := ReqMgr.reset
    store := { c.endMotion.store with load := none }, tr := c.tr.afterReset, ix := x.softReset, porter := Porter.reset
    focus := f, cap := cap.softReset, roll := c.endMotion.roll.softReset
    link := c.endMotion.link.softReset c.endMotion.now, sig := [], out := [], now := c.endMotion.now
    free := c.endMotion.free } : Core) = _
  rw [step.modes, step.port, step.store, capReset, step.roll, step.link, step.now, step.free]

/-- The Frame Index after a soft reset that finds no frame waiting for its blip. -/
theorem Core.endMotion_softReset {c : Core} (h : c.ix.waitingFrame = none) : c.endMotion.ix.softReset = c.ix.softReset := by
  cases hm : c.ix.motion with
  | none => rw [Core.endMotion_of_none hm]; rfl
  | some m => rw [Core.endMotion_of_some hm, Core.appendWaiting_of_none h]; rfl

/-- Settles O8: `Core.softReset_shape` gives every block, and the transport's clauses are those of `Transport.afterReset`. -/
theorem softResetClearsAndKeeps : Obligations.SoftResetClearsAndKeeps := by
  intro w s hw hm
  obtain ⟨f, x, p, shape, ⟨map, counter, probe, placement, held⟩, ixReset, stamp⟩ := s.core.softReset_shape
  have answer : exec (.softReset w) s = .next { s with front := s.front.softReset, core := s.core.softReset } := by
    have control : s.controlWrite w = s.softReset := by
      unfold State.controlWrite
      rcases hm with hm | hm | hm | hm <;> rw [hm] <;> exact if_pos hw
    rw [exec, execSoftReset, control, State.softReset]
    rcases hm with hm | hm | hm | hm <;> rw [hm]
  refine ⟨_, answer, ?_⟩
  rw [shape]
  obtain ⟨down, target, idle⟩ := s.core.link.softReset_states s.core.now
  refine ⟨⟨rfl, rfl, rfl, rfl, rfl⟩, ⟨rfl, rfl, rfl, rfl, rfl, rfl, rfl, rfl, rfl, rfl, rfl⟩, ⟨rfl, rfl, rfl⟩,
    ⟨rfl, rfl, rfl, rfl, rfl, rfl, rfl, rfl, rfl⟩, ⟨rfl, rfl⟩, ⟨rfl, rfl, rfl, rfl, rfl⟩,
    s.core.tr.afterReset_keeps, fun h => Transport.afterReset_move h, fun h => ?hold, fun h => ?threading,
    fun h => ?unreferenced, fun h => ?other, ⟨map, counter, probe, placement, held⟩,
    ⟨rfl, rfl, rfl, rfl, rfl, rfl, rfl, rfl⟩, ⟨rfl, rfl, rfl⟩, ⟨rfl, rfl, rfl, rfl, down, target, idle⟩,
    ⟨rfl, rfl, stamp, rfl, rfl, rfl, rfl⟩, fun h => ?index⟩
  case hold =>
    have tr : s.core.tr.afterReset = s.core.tr.abandon := by simp only [Transport.afterReset, h]
    rw [tr]; exact ⟨h, rfl, rfl⟩
  case threading =>
    have tr : s.core.tr.afterReset = { s.core.tr.abandon with resetBraking := true } := by
      rcases h with h | h <;> simp only [Transport.afterReset, h]
    rw [tr]; exact ⟨rfl, rfl, rfl⟩
  case unreferenced =>
    have tr : s.core.tr.afterReset = { s.core.tr.abandon.stopRegulator with tensionTest := false, testCount := none } := by
      simp only [Transport.afterReset, h]
    have st : s.core.tr.abandon.stopRegulator.st = .unreferenced := h
    rw [tr]
    exact ⟨h, rfl, rfl, by simp [Transport.drives, Transport.regulating, st], by simp [Transport.brakeDemand, st]⟩
  case other =>
    have tr : s.core.tr.afterReset = s.core.tr.abandon := by
      rcases h with h | h | h <;> simp only [Transport.afterReset, h]
    rw [tr]; exact ⟨rfl, rfl, rfl⟩
  case index =>
    refine (ixReset.trans (Core.endMotion_softReset h)).trans ?_
    simp only [IndexUnit.softReset, h]

end Sys2Proof.Machine
end

section
/-! SUPPORT. Records of host memory: the profile record (R41), the index entry (R113), and the arbiter (R144). -/

namespace Sys2Proof.Machine

/-! ## Profile record -/

/-- A record that passes the checks passed each of them, and is kept as clamped. -/
theorem checkProfile_passed {alloc : Nat} {ext : List (Option ReelType)} {bs : List Byte} {p : Profile} {k : Nat}
    (h : checkProfile alloc ext bs = .passed p k) :
    fieldAt bs 0 4 = fieldAt bs 0xFC 4 ∧ (profileRaw bs).id ≠ 0 ∧ reelOk ext (profileRaw bs) = true ∧
      imageOk alloc (profileRaw bs) = true ∧ p = clampProfile (profileRaw bs) ∧ orderOk p = true ∧
      k = clampFlags (profileRaw bs) p := by
  unfold checkProfile at h
  dsimp only at h
  split at h
  · cases h
  next stamp =>
    split at h
    · cases h
    next id =>
      split at h
      · cases h
      next reel =>
        split at h
        · cases h
        next image =>
          split at h
          · cases h
          next order =>
            cases h
            exact ⟨by simpa using stamp, id, by simpa using reel, by simpa using image, rfl, by simpa using order, rfl⟩

/-- A value clamped to a range lies in it. -/
theorem clampNat_mem {a b : Nat} (x : Nat) (h : a ≤ b) : a ≤ clampNat a b x ∧ clampNat a b x ≤ b :=
  ⟨(clampNat_spec x h).1, (clampNat_spec x h).2.1⟩

theorem le_clampNat {a b : Nat} (x : Nat) (h : a ≤ b) : a ≤ clampNat a b x := (clampNat_mem x h).1

theorem clampNat_le (a b : Nat) {x : Nat} (h : a ≤ b := by decide) : clampNat a b x ≤ b := (clampNat_mem _ h).2

/-- A Focus Window cut to an image of at least 64 pixels each way lies in it. -/
theorem cutWindow_inside (p : Profile) (hw : 64 ≤ p.width) (hh : 64 ≤ p.height) :
    (3 ≤ (cutWindow p).windowWidth ∧ (cutWindow p).windowX + (cutWindow p).windowWidth ≤ p.width) ∧
    (2 ≤ (cutWindow p).windowHeight ∧ (cutWindow p).windowY + (cutWindow p).windowHeight ≤ p.height) := by
  simp only [cutWindow]
  omega

/-- A Focus Range in order holds the clamped Default Step. -/
theorem clampProfile_defaultStep {p : Profile} (h : (clampProfile p).focusMin ≤ (clampProfile p).focusMax) :
    (clampProfile p).focusMin ≤ (clampProfile p).defaultStep ∧
      (clampProfile p).defaultStep ≤ (clampProfile p).focusMax := by
  change clampNat 0 4095 p.focusMin ≤ clampNat 0 4095 p.focusMax at h
  change _ ≤ ite (clampNat 0 4095 p.focusMin ≤ clampNat 0 4095 p.focusMax) _ _ ∧ ite _ _ _ ≤ _
  rw [if_pos h]
  exact clampNat_mem _ h

theorem orderOk_iff (p : Profile) : orderOk p = true ↔
    p.focusMin ≤ p.focusMax ∧ p.smallMax < p.mediumMax ∧ p.spliceMin ≤ p.spliceMax ∧ p.minLength ≤ p.maxLength ∧
      p.minPitch ≤ p.nominalPitch := by
  simp [orderOk]

theorem imageOk_iff (alloc : Nat) (p : Profile) : imageOk alloc p = true ↔
    64 ≤ p.width ∧ p.width ≤ 8192 ∧ p.width % 8 = 0 ∧ 64 ≤ p.height ∧ p.height ≤ 8192 ∧
      (p.depth = 1 ∨ p.depth = 2) ∧ 64 + p.width * p.height * p.depth + 4 ≤ alloc := by
  simp [imageOk]

/-- Settles O27: each check that was passed says its field, each clamp its range, and the order check the rest. -/
theorem checkedProfilesAreInRange : Obligations.CheckedProfilesAreInRange := by
  unfold Obligations.CheckedProfilesAreInRange
  intro alloc ext bs p k h
  obtain ⟨stamp, id, reel, image, rfl, order, -⟩ := checkProfile_passed h
  obtain ⟨focus, small, splice, length, pitch⟩ := (orderOk_iff _).1 order
  have image := (imageOk_iff _ _).1 image
  obtain ⟨wide, high⟩ := cutWindow_inside (profileRaw bs) image.1 image.2.2.2.1
  refine ⟨stamp, id, reel, image, clampNat_mem _ (by decide), clampNat_mem _ (by decide), clampNat_mem _ (by decide),
    clampNat_mem _ (by decide), clampNat_mem _ (by decide), clampNat_mem _ (by decide), clampNat_mem _ (by decide),
    clampNat_mem _ (by decide), clampNat_mem _ (by decide), clampNat_le 0 500,
    clampNat_mem _ (by decide), clampNat_mem _ (by decide), clampNat_mem _ (by decide), clampNat_mem _ (by decide),
    clampNat_mem _ (by decide), clampNat_mem _ (by decide), clampNat_le 0 255,
    ⟨le_clampNat _ (by decide), pitch, clampNat_mem _ (by decide)⟩,
    ⟨le_clampNat _ (by decide), length, clampNat_le 400 200000⟩, clampNat_mem _ (by decide),
    clampNat_le 0 20000, ⟨le_clampNat _ (by decide), small, clampNat_le 4 20000⟩,
    ⟨le_clampNat _ (by decide), splice, clampNat_le 40 40000⟩,
    ⟨(clampProfile_defaultStep focus).1, (clampProfile_defaultStep focus).2, clampNat_le 0 4095⟩,
    clampNat_mem _ (by decide), clampNat_mem _ (by decide), clampNat_mem _ (by decide),
    clampNat_le 0 31, clampNat_le 0 255, wide, high, clampNat_le 0 10000⟩

/-! ## Index entry -/

theorem byteAt_eq_fieldAt (bs : List Byte) (k : Nat) : byteAt bs k = fieldAt bs k 1 := by simp [fieldAt]

theorem Origin.code_lt (o : Origin) : o.code < 256 ^ 1 := by cases o <;> decide

theorem BlipClass.code_lt (b : BlipClass) : b.code < 256 ^ 1 := by cases b <;> decide

/-- Eight bits make a byte that has them. -/
theorem testBit_eightBits : ∀ a b c d e f g h : Bool,
    let n := a.toNat + 2 * b.toNat + 4 * c.toNat + 8 * d.toNat + 16 * e.toNat + 32 * f.toNat + 64 * g.toNat + 128 * h.toNat
    n < 256 ^ 1 ∧ n.testBit 0 = a ∧ n.testBit 1 = b ∧ n.testBit 2 = c ∧ n.testBit 3 = d ∧ n.testBit 4 = e ∧
      n.testBit 5 = f ∧ n.testBit 6 = g ∧ n.testBit 7 = h := by
  decide

theorem Entry.testBit_flags (e : Entry) : e.flags < 256 ^ 1 ∧ e.flags.testBit 0 = e.spliceBefore ∧
    e.flags.testBit 1 = e.short ∧ e.flags.testBit 2 = e.long ∧ e.flags.testBit 3 = e.gapBefore ∧
    e.flags.testBit 4 = e.soft ∧ e.flags.testBit 5 = e.captured ∧ e.flags.testBit 6 = e.saturated ∧
    e.flags.testBit 7 = e.score.isSome :=
  testBit_eightBits _ _ _ _ _ _ _ _

/-- The low three bytes of a value of at most three bytes. -/
theorem fieldAt_bytesOf_low {v : Nat} (h : v < 16777216) : fieldAt (bytesOf 4 v) 0 3 = v := by
  simp only [bytesOf, fieldAt, byteAt_cons_zero, byteAt_cons_succ, BitVec.toNat_ofNat]
  omega

/-- Each field of an entry's record is that of its own bytes. -/
theorem Entry.fieldAt_bytes (n : Nat) (e : Entry) :
    fieldAt (e.bytes n) 0 2 = fieldAt (bytesOf 2 n) 0 2 ∧
    fieldAt (e.bytes n) 2 1 = fieldAt (bytesOf 1 e.origin.code) 0 1 ∧
    fieldAt (e.bytes n) 3 1 = fieldAt (bytesOf 1 e.blip.code) 0 1 ∧
    fieldAt (e.bytes n) 4 4 = fieldAt (signedBytes 4 e.lead) 0 4 ∧
    fieldAt (e.bytes n) 8 4 = fieldAt (bytesOf 4 e.length) 0 4 ∧
    fieldAt (e.bytes n) 12 2 = fieldAt (bytesOf 2 e.batch) 0 2 ∧
    fieldAt (e.bytes n) 14 2 = fieldAt (bytesOf 2 e.document) 0 2 ∧
    fieldAt (e.bytes n) 16 2 = fieldAt (bytesOf 2 e.page) 0 2 ∧
    fieldAt (e.bytes n) 18 1 = fieldAt (bytesOf 1 e.flags) 0 1 ∧
    fieldAt (e.bytes n) 19 1 = fieldAt (bytesOf 1 e.captureCount) 0 1 ∧
    fieldAt (e.bytes n) 20 3 = fieldAt (bytesOf 4 (e.score.getD 0)) 0 3 := by
  simp [Entry.bytes, fieldAt_append_left, fieldAt_append_past]

/-- Settles O46: the fields read back one by one, the flags by their bits. -/
theorem indexEntryRoundTrips : Obligations.IndexEntryRoundTrips := by
  unfold Obligations.IndexEntryRoundTrips
  intro n e hn low high hlength hbatch hdocument hpage hcount hscore
  obtain ⟨number, origin, blip, lead, length, batch, document, page, flags, count, score⟩ := e.fieldAt_bytes n
  obtain ⟨flagsFit, b0, b1, b2, b3, b4, b5, b6, b7⟩ := e.testBit_flags
  have scoreFits : e.score.getD 0 < 16777216 := by
    cases hs : e.score with
    | none => decide
    | some v => exact hscore v hs
  rw [fieldAt_bytesOf 2 n hn] at number
  rw [fieldAt_bytesOf 1 _ e.origin.code_lt] at origin
  rw [fieldAt_bytesOf 1 _ e.blip.code_lt] at blip
  rw [fieldAt_bytesOf 4 _ hlength] at length
  rw [fieldAt_bytesOf 2 _ hbatch] at batch
  rw [fieldAt_bytesOf 2 _ hdocument] at document
  rw [fieldAt_bytesOf 2 _ hpage] at page
  rw [fieldAt_bytesOf 1 _ flagsFit] at flags
  rw [fieldAt_bytesOf 1 _ hcount] at count
  rw [fieldAt_bytesOf_low scoreFits] at score
  have lead : signedAt (e.bytes n) 4 4 = e.lead := by
    simp only [signedAt, lead]
    exact signedAt_signedBytes (n := 4) (by decide) (by omega) (by omega)
  have scoreBack : (if e.score.isSome = true then some (e.score.getD 0) else none) = e.score := by cases e.score <;> rfl
  refine ⟨by simp [Entry.bytes], number, ?_⟩
  simp only [entryOf, byteAt_eq_fieldAt, Nat.zero_add, origin, blip, lead, length, batch, document, page, flags, count,
    b0, b1, b2, b3, b4, b5, b6, b7, score, scoreBack]
  cases ho : e.origin <;> cases hb : e.blip <;> exact congrArg some (by rw [← ho, ← hb])

/-! ## The arbiter (R144) -/

/-- None of the requesters asked has a transaction exactly when each of them has none. -/
theorem State.firstReady_eq_none (s : State) (l : List Requester) :
    s.firstReady l = none ↔ ∀ r ∈ l, s.offer r = none := by
  induction l with
  | nil => simp [State.firstReady]
  | cons r l ih => cases h : s.offer r <;> simp [State.firstReady, h, ih]

/-- The requester found is the first asked that has a transaction, and the transaction is the one it offers. -/
theorem State.firstReady_eq_some {s : State} {l : List Requester} {r : Requester} {x : Transaction}
    (h : s.firstReady l = some (r, x)) :
    s.offer r = some x ∧ ∃ k : Nat, l[k]? = some r ∧ ∀ (j : Nat) y, j < k → l[j]? = some y → s.offer y = none := by
  induction l with
  | nil => simp [State.firstReady] at h
  | cons q l ih =>
    cases hq : s.offer q with
    | some t =>
      simp only [State.firstReady, hq, Option.some.injEq, Prod.mk.injEq] at h
      obtain ⟨rfl, rfl⟩ := h
      exact ⟨hq, 0, rfl, by simp⟩
    | none =>
      simp only [State.firstReady, hq] at h
      obtain ⟨offers, k, found, before⟩ := ih h
      refine ⟨offers, k + 1, found, fun j y hj hy => ?_⟩
      cases j with
      | zero => cases hy; exact hq
      | succ j => exact before j y (by omega) hy

/-- The circle of R144. -/
def circle : List Requester :=
  [.imageWriter, .boardReader, .resultWriter, .indexPorter, .statusWriter, .reservationReader]

/-- The requesters asked after one of them are those that follow it in the circle, in turn. -/
theorem circle_after {i : Nat} {last : Requester} (h : circle[i]? = some last) (e : Nat) (he : e < 6) :
    circle[(i + (e + 1)) % 6]? = (circleAfter last)[e]? := by
  have hi : i < 6 := (List.getElem?_eq_some_iff.1 h).1
  have all : ∀ i < 6, ∀ e < 6, ∀ last, circle[i]? = some last →
      circle[(i + (e + 1)) % 6]? = (circleAfter last)[e]? := by
    intro i hi e he last
    cases last <;> revert i e <;> decide
  exact all i hi e he last h

theorem length_circleAfter (r : Requester) : (circleAfter r).length = 6 := by cases r <;> rfl

theorem mem_circleAfter (r q : Requester) : q ∈ circleAfter r := by cases r <;> cases q <;> decide

/-- With no escalated write ready the choice is the circle's. -/
theorem State.arbitrate_roundRobin {s : State} (h : s.core.port.escalated = false ∨ s.offer .imageWriter = none) :
    s.arbitrate = s.firstReady (circleAfter s.core.port.last) := by
  unfold State.arbitrate
  cases he : s.core.port.escalated with
  | false => rfl
  | true =>
    obtain none' := h.resolve_left (by simp [he])
    simp [State.firstReady, none']

/-- Settles O32. -/
theorem roundRobinIsFair : Obligations.RoundRobinIsFair := by
  unfold Obligations.RoundRobinIsFair
  intro s
  refine ⟨?_, fun x he hx => ?_, fun r x h => (State.firstReady_eq_some h).1, fun r x he h circle' i hc hi => ?_⟩
  · rw [State.arbitrate, State.firstReady_eq_none]
    exact ⟨fun h r => h r (List.mem_append_right _ (mem_circleAfter _ r)), fun h r _ => h r⟩
  · simp [State.arbitrate, he, State.firstReady, hx]
  · subst hc
    rw [State.arbitrate_roundRobin he] at h
    obtain ⟨-, k, found, before⟩ := State.firstReady_eq_some h
    have hk : k < 6 := length_circleAfter s.core.port.last ▸ (List.getElem?_eq_some_iff.1 found).1
    refine ⟨k + 1, by omega, by omega, (circle_after hi k hk).trans found, fun e y h1 h2 hy => ?_⟩
    obtain ⟨j, rfl⟩ : ∃ j, e = j + 1 := ⟨e - 1, by omega⟩
    exact before j y (by omega) ((circle_after hi j (by omega)).symm.trans hy)

end Sys2Proof.Machine
end

section
/-!
SUPPORT. The two reads of a setup: data kept, the refusal (R8) and the acceptance (R9 to R11, R204).
-/

namespace Sys2Proof.Machine

/-! ## A setup read that ends (R7) -/

/-- The core without the setup read of a part in flight. -/
def Core.setupLanded (c : Core) (part : SetupPart) : Core :=
  c.setPort { c.port with boardFlight := removeFirst (· == .setup part) c.port.boardFlight }

/-- A setup read in progress with the data of one of its parts. -/
def SetupRead.kept (q : SetupRead) (bs : List Byte) : SetupPart → SetupRead
  | .block => { q with block := some bs }
  | .extension => { q with extension := some bs }

/-- A setup read that ends with data while the other is outstanding keeps its data. -/
theorem Core.setupReadDone_first {c : Core} {part : SetupPart} {bs : List Byte} {q : SetupRead}
    (hq : c.port.setupRead = some q) (hf : BoardRead.setup part ∈ c.port.boardFlight)
    (block : part = .block → q.extension = none) (ext : part = .extension → q.block = none) :
    c.setupReadDone part (.data bs) = (c.setupLanded part).setPort { (c.setupLanded part).port with
      setupRead := some (q.kept bs part) } := by
  cases part with
  | block => simp [Core.setupReadDone, hf, hq, block rfl, Core.setupLanded, SetupRead.kept]
  | extension => simp [Core.setupReadDone, hf, hq, ext rfl, Core.setupLanded, SetupRead.kept]

/-- With the data of both reads the setup is judged. -/
theorem Core.setupReadDone_second {c : Core} {part : SetupPart} {bs block ext : List Byte} {q : SetupRead}
    (hq : c.port.setupRead = some q) (hf : BoardRead.setup part ∈ c.port.boardFlight)
    (both : part = .block ∧ bs = block ∧ q.extension = some ext ∨ part = .extension ∧ bs = ext ∧ q.block = some block) :
    c.setupReadDone part (.data bs) = (c.setupLanded part).judgeSetup q.base block ext := by
  rcases both with ⟨rfl, rfl, he⟩ | ⟨rfl, rfl, hb⟩
  · simp [Core.setupReadDone, hf, hq, he, Core.setupLanded]
  · simp [Core.setupReadDone, hf, hq, hb, Core.setupLanded]

/-- The reads that are none of the setup's are what a filter of the setup's leaves. -/
theorem setup_notMem_filter (l : List BoardRead) (p : SetupPart) : BoardRead.setup p ∉ l.filter fun b =>
    match b with
    | .setup _ => false
    | _ => true := by
  simp

/-- A setup read that ends as a read error refuses the setup. -/
theorem Core.setupReadDone_error {c : Core} {part : SetupPart} (hq : c.port.setupRead ≠ none)
    (hf : BoardRead.setup part ∈ c.port.boardFlight) :
    ∃ flight, c.setupReadDone part .error = (c.setPort { c.port with boardFlight := flight }).refuseSetup 8 ∧
      ∀ p, BoardRead.setup p ∉ flight := by
  obtain ⟨q, hq⟩ := Option.ne_none_iff_exists'.1 hq
  refine ⟨_, ?_, setup_notMem_filter (removeFirst (· == .setup part) c.port.boardFlight)⟩
  simp only [Core.setupReadDone, List.contains_iff_mem, hf, if_true, Core.setPort_port, hq] <;> rfl

/-! ## The refusal (R8) -/

/-- A fault leaves the Enable latch and what is said of the last setup. -/
theorem Front.raiseFault_setup (c : Core) (f : Front) (e : FaultEntry) : (f.raiseFault c e).setupBad = f.setupBad ∧
    (f.raiseFault c e).setupReason = f.setupReason ∧ (f.raiseFault c e).enable = f.enable := by
  simp only [Front.raiseFault, Front.trigger, Front.startSnapshot, Front.raiseFaultCause, Front.causeRaised,
    Front.message]
  repeat' split
  all_goals exact ⟨rfl, rfl, rfl⟩

/-- What a refusal with a reason leaves, on a part whose reads in flight are as given. -/
theorem State.refuseSetup_leaves {s : State} (hr : s.ready = true) {f : Core → Core} {flight : List BoardRead}
    {reason : Nat} (hf : f s.core = (s.core.setPort { s.core.port with boardFlight := flight }).refuseSetup reason) :
    ∃ t, s.runCore f = t ∧ t.front.setupBad = true ∧ t.front.setupReason = reason ∧ t.front.enable = false ∧
      t.front.faults = s.front.queued ⟨.setupBad, .systemPort, BitVec.ofNat 24 reason, 0⟩ ∧
      t.core.port.setupRead = none ∧ t.core.port.workArea = s.core.port.workArea ∧
      t.core.port.setup = s.core.port.setup ∧ t.core.store = s.core.store ∧ t.core.tr = s.core.tr ∧
      t.core.modes.mode = s.core.modes.mode ∧ (∀ p, BoardRead.setup p ∉ t.core.port.boardQueue) ∧
      t.core.port.boardFlight = flight := by
  obtain ⟨d, hd⟩ : ∃ d, d = (s.core.setPort { s.core.port with boardFlight := flight }).refuseSetup reason := ⟨_, rfl⟩
  have out : d.out = [.setupRefused reason, .fault ⟨.setupBad, .systemPort, BitVec.ofNat 24 reason, 0⟩] := by
    rw [hd]
    change (s.core.out ++ _) ++ _ = _
    rw [s.ready_out hr]; rfl
  have front : (s.leaves d).front = ({ s.front with setupBad := true, setupReason := reason, enable := false } : Front).raiseFault
      d.idleFollow.escalationFollow ⟨.setupBad, .systemPort, BitVec.ofNat 24 reason, 0⟩ := by
    simp [State.leaves, State.flush, out, Front.take]
  obtain ⟨bad, why, enable⟩ := Front.raiseFault_setup d.idleFollow.escalationFollow
    ({ s.front with setupBad := true, setupReason := reason, enable := false } : Front)
    ⟨.setupBad, .systemPort, BitVec.ofNat 24 reason, 0⟩
  refine ⟨s.leaves d, State.runCore_leaves hr (hf.trans hd.symm) (by rw [hd]; rfl) (by rw [hd]; rfl) (by rw [hd]; rfl), ?_⟩
  rw [front]
  refine ⟨bad, why, enable, Front.raiseFault_faults _ _ _, ?_⟩
  subst hd
  exact ⟨rfl, rfl, rfl, rfl, rfl, rfl, fun p => setup_notMem_filter _ p, rfl⟩

/-! ## The checks (R8) -/

/-- The overlap test compares the bytes of the ring with those of the Work Area, whose offsets wrap at 2^64 (R2). -/
theorem ringOverlaps_iff {base : Nat} {x : Setup} (hsome : 0 < x.slotCount * x.slotAlloc) (hring : x.ringBase + x.slotCount * x.slotAlloc ≤ 2 ^ 64)
    (hbase : base < 2 ^ 64) : ringOverlaps base x = true ↔
      ∃ i j, i < x.slotCount * x.slotAlloc ∧ j < 12288 ∧ x.ringBase + i = (base + j) % 2 ^ 64 := by
  simp only [ringOverlaps, Bool.or_eq_true, decide_eq_true_eq]
  generalize x.slotCount * x.slotAlloc = n at *
  generalize x.ringBase = r at *
  constructor
  · rintro (⟨h, g⟩ | h)
    · rcases Nat.le_total r base with hb | hb
      · exact ⟨base - r, 0, by omega, by omega, by omega⟩
      · exact ⟨0, r - base, by omega, by omega, by omega⟩
    · exact ⟨0, r + 2 ^ 64 - base, by omega, by omega, by omega⟩
  · rintro ⟨i, j, hi, hj, h⟩
    omega

/-- The last of R8's checks: of the Initial Profile and of the sets that are kept. -/
def profilesReason (store : Store) (block ext : List Byte) : Option Nat :=
  match checkProfile (setupFields block).slotAlloc (reelExtension ext) (initialProfile block) with
  | .refused _ => some 7
  | .passed _ _ =>
    if keptOk (setupFields block).slotAlloc (reelExtension ext) store.setA &&
      keptOk (setupFields block).slotAlloc (reelExtension ext) store.setB then none else some 7

theorem keptOk_eq_false (alloc : Nat) (ext : List (Option ReelType)) (set : Option Profile) :
    keptOk alloc ext set = false ↔
      ∃ p, set = some p ∧ ((reelType ext p.reelType).isSome = false ∨ imageOk alloc p = false) := by
  cases set with
  | none => simp [keptOk]
  | some p => simp only [keptOk, reelOk, Bool.and_eq_false_iff, Option.some.injEq, exists_eq_left']

theorem profilesReason_cases (store : Store) (block ext : List Byte) :
    profilesReason store block ext = none ∨ profilesReason store block ext = some 7 := by
  unfold profilesReason
  split
  · exact .inr rfl
  · split
    · exact .inl rfl
    · exact .inr rfl

theorem profilesReason_refuses (store : Store) (block ext : List Byte) : profilesReason store block ext = some 7 ↔
    (∃ d, checkProfile (setupFields block).slotAlloc (reelExtension ext) (initialProfile block) = .refused d) ∨
      ∃ p, (store.setA = some p ∨ store.setB = some p) ∧
        ((reelType (reelExtension ext) p.reelType).isSome = false ∨ imageOk (setupFields block).slotAlloc p = false) := by
  have kept : (∃ p, (store.setA = some p ∨ store.setB = some p) ∧
      ((reelType (reelExtension ext) p.reelType).isSome = false ∨ imageOk (setupFields block).slotAlloc p = false)) ↔
      (keptOk (setupFields block).slotAlloc (reelExtension ext) store.setA &&
        keptOk (setupFields block).slotAlloc (reelExtension ext) store.setB) = false := by
    rw [Bool.and_eq_false_iff, keptOk_eq_false, keptOk_eq_false, ← exists_or]
    simp only [or_and_right]
  rw [kept, profilesReason]
  cases checkProfile (setupFields block).slotAlloc (reelExtension ext) (initialProfile block) with
  | refused d => simp
  | passed p k => cases keptOk _ _ store.setA && keptOk _ _ store.setB <;> simp

/-- R8's checks in the order the part makes them. -/
theorem setupReason_eq (base : Nat) (store : Store) (block ext : List Byte) : setupReason base store block ext =
    if fieldAt block 0x000 4 ≠ fieldAt block 0x3FC 4 then some 1
    else if (setupFields block).ringBase % 4096 ≠ 0 then some 3
    else if (setupFields block).slotCount < 2 ∨ 256 < (setupFields block).slotCount then some 4
    else if (setupFields block).slotAlloc < 65536 ∨ 67108864 < (setupFields block).slotAlloc ∨
      (setupFields block).slotAlloc % 4096 ≠ 0 then some 5
    else if 2 ^ 64 < (setupFields block).ringBase + (setupFields block).slotCount * (setupFields block).slotAlloc then some 6
    else if ringOverlaps base (setupFields block) then some 2
    else profilesReason store block ext := rfl

/-- Of checks made in order, each decides the reason where those before it pass. -/
theorem reason_of_checks {r : Option Nat} (hr : r = none ∨ r = some 7) {a b c d e f : Prop} [Decidable a] [Decidable b]
    [Decidable c] [Decidable d] [Decidable e] [Decidable f] {x : Option Nat}
    (hx : x = if a then some 1 else if b then some 3 else if c then some 4 else if d then some 5 else if e then some 6
      else if f then some 2 else r) :
    (x = some 1 ↔ a) ∧ (¬ a → (x = some 3 ↔ b) ∧ (¬ b → (x = some 4 ↔ c) ∧ (¬ c → (x = some 5 ↔ d) ∧
      (¬ d → (x = some 6 ↔ e) ∧ (¬ e → (x = some 2 ↔ f) ∧ (¬ f → x = r)))))) := by
  subst hx
  rcases hr with rfl | rfl <;> split_ifs <;> simp_all

/-- Settles O18. -/
theorem setupReadsAreKeptOrRefuse : Obligations.SetupReadsAreKeptOrRefuse := by
  refine ⟨fun part bs q s hr hq hf hb he => ?kept, fun part s hr hq hf => ?error,
    fun part bs block ext q reason s hr hq hf both why => ?refused, ?reasons⟩
  case kept =>
    refine ⟨removeFirst (· == .setup part) s.core.port.boardFlight, ?_⟩
    have run := State.runCore_leaves hr (Core.setupReadDone_first (bs := bs) hq hf hb he) rfl rfl rfl
    cases part with
    | block => exact congrArg Host.Outcome.next run
    | extension => exact congrArg Host.Outcome.next run
  case error =>
    obtain ⟨flight, ends, gone⟩ := Core.setupReadDone_error hq hf
    obtain ⟨t, run, bad, why, enable, faults, read, area, fields, store, tr, mode, queue, rfl⟩ :=
      State.refuseSetup_leaves hr ends
    exact ⟨t, congrArg Host.Outcome.next run, congrArg Host.Outcome.next run, bad, why, enable, faults, read, area, fields,
      store, tr, mode, queue, gone⟩
  case refused =>
    have judged : s.core.setupReadDone part (.data bs) = (s.core.setupLanded part).refuseSetup reason := by
      have why : setupReason q.base (s.core.setupLanded part).store block ext = some reason := why
      rw [Core.setupReadDone_second hq hf both, Core.judgeSetup, why]
    obtain ⟨t, run, bad, why, enable, faults, read, area, fields, store, tr, mode, -⟩ :=
      State.refuseSetup_leaves hr judged
    exact ⟨t, congrArg Host.Outcome.next run, bad, why, enable, faults, read, area, fields, store, tr, mode⟩
  case reasons =>
    intro base store block ext ring count alloc hring hcount halloc
    have r1 : (setupFields block).ringBase = ring := hring.symm
    have r2 : (setupFields block).slotCount = count := hcount.symm
    have r3 : (setupFields block).slotAlloc = alloc := halloc.symm
    subst hring hcount halloc
    obtain ⟨stamps, next⟩ := reason_of_checks (profilesReason_cases store block ext) (setupReason_eq base store block ext)
    refine ⟨stamps, fun h => ?_⟩
    obtain ⟨aligned, next⟩ := next (not_not_intro h)
    refine ⟨aligned, fun h => ?_⟩
    obtain ⟨count, next⟩ := next (not_not_intro h)
    refine ⟨count, fun two most => ?_⟩
    obtain ⟨alloc, next⟩ := next (by rw [r2]; omega)
    refine ⟨alloc, fun least large whole => ?_⟩
    obtain ⟨ends, next⟩ := next (by rw [r3]; omega)
    refine ⟨ends, fun fits hbase => ?_⟩
    obtain ⟨overlap, next⟩ := next (by rw [r1, r2, r3]; exact not_lt.2 fits)
    have some' : 0 < fieldAt block 0x014 2 * fieldAt block 0x010 4 := Nat.mul_pos (by omega) (by omega)
    have apart := ringOverlaps_iff (x := setupFields block) some' fits hbase
    refine ⟨overlap.trans apart, fun none' => ?_⟩
    have last := next (by
      rw [apart]
      rintro ⟨i, j, hi, hj, h⟩
      exact none' i j hi hj h)
    rw [last]
    exact ⟨profilesReason_refuses store block ext, profilesReason_cases store block ext⟩

/-! ## The acceptance (R9 to R11, R204) -/

/-- A setup that passes every check has an Initial Profile that passed, kept as clamped. -/
theorem initialProfile_passed {base : Nat} {store : Store} {block ext : List Byte}
    (h : setupReason base store block ext = none) :
    ∃ p, checkProfile (setupFields block).slotAlloc (reelExtension ext) (initialProfile block) =
      .passed p (clampFlags (profileRaw (initialProfile block)) p) := by
  have last : profilesReason store block ext = none := by
    rw [setupReason_eq] at h
    split_ifs at h
    exact h
  cases hc : checkProfile (setupFields block).slotAlloc (reelExtension ext) (initialProfile block) with
  | refused d => simp [profilesReason, hc] at last
  | passed p k =>
    obtain ⟨-, -, -, -, -, -, rfl⟩ := checkProfile_passed hc
    exact ⟨p, rfl⟩

/-- The Profile Store once an Initial Profile has come to it. -/
def Store.initial (x : Store) (p : Profile) : Store :=
  if x.setA.isNone ∧ x.setB.isNone then { x with setA := some p, active := some .a, pending := none } else x

/-- PARK changes the Focus Unit alone, and neither its map nor its probe. -/
theorem Core.focusPark_keeps (c : Core) : ∃ f : Focus, c.focusPark = c.setFocus f ∧ f.probe = c.focus.probe := by
  unfold Core.focusPark
  split
  · exact ⟨_, rfl, rfl⟩
  · obtain ⟨f, park, -, -, probe, -⟩ := c.focusParkNow_shape
    exact ⟨f, park, probe⟩

/-- The Initial Profile changes the store, the geometry in force and the lens. -/
theorem Core.loadInitial_shape (c : Core) (p : Profile) : ∃ (t : Transport) (f : Focus),
    c.loadInitial p = ((c.setStore (c.store.initial p)).setTr t).setFocus f ∧ t.reelTypes = c.tr.reelTypes ∧
      f.probe = c.focus.probe := by
  by_cases h : c.store.setA.isNone ∧ c.store.setB.isNone
  · obtain ⟨f, park, probe⟩ :=
      ((c.setStore { c.store with setA := some p, active := some .a, pending := none }).copyGeometry).focusPark_keeps
    refine ⟨((c.setStore { c.store with setA := some p, active := some .a, pending := none }).copyGeometry).tr, f, ?_, rfl,
      probe⟩
    rw [Core.loadInitial, if_pos h, park, Store.initial, if_pos h]
    rfl
  · refine ⟨c.tr, c.focus, ?_, rfl, rfl⟩
    rw [Core.loadInitial, if_neg h, Store.initial, if_neg h]
    rfl

/-- The link of an accepted setup: its speed and its target address, and up (R179, R183). -/
def Link.accepted (l : Link) (x : Setup) (strap now : Nat) : Link :=
  { l with
    fast := x.linkSpeed = 1
    address := if x.linkAddress = 0 ∨ x.linkAddress = 0x24 ∨ x.linkAddress = 0x2A then 0x40 + strap else x.linkAddress
    opened := true
    st := if l.st = .down then .idle else l.st
    freeCount := if l.st = .down then some now else l.freeCount }

theorem Link.accepted_up (l : Link) (x : Setup) (strap now : Nat) : (l.accepted x strap now).st ≠ .down := by
  unfold Link.accepted
  dsimp only
  split <;> simp_all

/-- The part enters RUN with Progress 81h, and asks for a snapshot (R11). -/
def Core.enterRun (c : Core) : Core :=
  (c.setModes { c.modes with mode := .run, progress := 0x81, idle := none, dormant := none }).trigger
    { setup := true, mode := true } true

/-- The core before the lamp is told of an accepted setup. -/
def Core.accepting (c : Core) (base : Nat) (block ext : List Byte) : Core :=
  ((((c.setPort { c.port with
    setupRead := none, workArea := some base, setup := setupFields block
    sweepTimer := if (setupFields block).sweepInterval = 0 then none else some c.now }).setTr
      { c.tr with reelTypes := reelExtension ext }).setCap { c.cap with cursor := 0 }).setLink
        (c.link.accepted (setupFields block) c.pins.strapAddress c.now))

/-- The core of an accepted setup, with the blocks it changes and the reports it makes, before the hardware is compared. -/
def Core.accepted (c : Core) (base : Nat) (block ext : List Byte) (p : Profile) (t : Transport) (f : Focus) (lamp : Lamp)
    (link : Link) (l : List Signal) : Core :=
  (((((((c.accepting base block ext).setStore ((c.accepting base block ext).store.initial p)).setTr t).setFocus f).setLamp
    lamp).setLink link).report l).enterRun

/-- What an accepted setup leaves in each block. -/
theorem Core.accepted_fields (c : Core) (base : Nat) (block ext : List Byte) (p : Profile) (t : Transport) (f : Focus)
    (lamp : Lamp) (link : Link) (l : List Signal) :
    let d := c.accepted base block ext p t f lamp link l
    d.port = { c.port with
      setupRead := none, workArea := some base, setup := setupFields block
      sweepTimer := if (setupFields block).sweepInterval = 0 then none else some c.now } ∧
    d.modes = { c.modes with mode := .run, progress := 0x81, idle := none, dormant := none } ∧
    d.tr = t ∧ d.store = c.store.initial p ∧ d.focus = f ∧ d.cap = { c.cap with cursor := 0, lamp := lamp } ∧
    d.roll = c.roll ∧ d.link = link ∧ d.rm = c.rm ∧ d.sig = c.sig ++ l ∧
    d.out = c.out ++ [.snapshot { setup := true, mode := true } true] := by
  simp [Core.accepted, Core.accepting, Core.enterRun, Core.setLamp, Core.report, Core.trigger, Core.send]

theorem Core.acceptSetup_shape (c : Core) (base : Nat) (block ext : List Byte) (p : Profile) :
    ∃ (t : Transport) (f : Focus) (lamp : Lamp) (link : Link) (l : List Signal),
      c.acceptSetup base block ext p = (c.accepted base block ext p t f lamp link l).compareHardware ∧
      t.reelTypes = reelExtension ext ∧ f.probe = c.focus.probe ∧ lamp.present = c.cap.lamp.present ∧
      link.SameLine (c.link.accepted (setupFields block) c.pins.strapAddress c.now) ∧ l.length ≤ 3 ∧
      (∀ x ∈ l, lampReport x) := by
  obtain ⟨t, f, initial, reels, probe⟩ := (c.accepting base block ext).loadInitial_shape p
  obtain ⟨lamp, link, l, on, -, present, few, reports, line⟩ :=
    ((((c.accepting base block ext).setStore ((c.accepting base block ext).store.initial p)).setTr t).setFocus f).lampOn_shape
  refine ⟨t, f, lamp, link, l, ?_, reels, probe, present, line, few, reports⟩
  calc c.acceptSetup base block ext p
      = ((c.accepting base block ext).loadInitial p).lampOn.enterRun.compareHardware := rfl
    _ = (c.accepted base block ext p t f lamp link l).compareHardware := by rw [initial, on, Core.accepted]

/-- Bringing a number into a range takes it to the nearer end. -/
theorem clampNat_eq {a b : Nat} (x : Nat) (h : a ≤ b) : clampNat a b x = max a (min x b) := by
  unfold clampNat
  split
  · omega
  · split <;> omega

/-- Each field of a setup is that of its block, brought into its range (R9). -/
theorem setupFields_eq (block : List Byte) (x : Setup) (hx : x = setupFields block) :
    x.ringBase = fieldAt block 0x008 8 ∧ x.slotAlloc = fieldAt block 0x010 4 ∧ x.slotCount = fieldAt block 0x014 2 ∧
    x.sweepInterval = min (fieldAt block 0x016 2) 1000 ∧
    x.returnCount = max 1 (min (fieldAt block 0x018 1) 32) ∧
    x.ageLimit = max 1 (min (fieldAt block 0x019 1) 15) ∧
    x.returnDelay = min (fieldAt block 0x01A 2) 100 ∧
    x.idleTime = max 1 (min (fieldAt block 0x01C 2) 3600) ∧
    x.linkSpeed = (if fieldAt block 0x01E 1 = 1 then 1 else 0) ∧
    x.linkAddress = min (fieldAt block 0x01F 1) 127 ∧
    x.dormantTime = min (fieldAt block 0x020 4) 86400 ∧
    x.swapAge = min (fieldAt block 0x024 2) 600 ∧ x.expected = fieldAt block 0x026 2 := by
  subst hx
  simp only [← byteAt_eq_fieldAt, ← clampNat_eq _ (show 1 ≤ 32 by decide), ← clampNat_eq _ (show 1 ≤ 15 by decide),
    ← clampNat_eq _ (show 1 ≤ 3600 by decide)]
  exact ⟨rfl, rfl, rfl, rfl, rfl, rfl, rfl, rfl, rfl, rfl, rfl, rfl, rfl⟩

/-- What an accepted setup sends: its snapshot, and CONFIG_MISMATCH where the hardware found and expected differ. -/
theorem Core.compareHardware_shape (c : Core) : c.compareHardware = { c with out := c.out ++
    if c.hardwareFound = c.port.setup.expected % 64 then []
    else [.fault ⟨.configMismatch, .systemPort,
      BitVec.ofNat 24 (c.hardwareFound + 256 * (c.port.setup.expected % 64)), 0⟩] } := by
  unfold Core.compareHardware
  dsimp only
  split
  · rw [List.append_nil]
  · rfl

/-- A fault that meets a snapshot's write with no follow-up asks for one (R22). -/
theorem Front.raiseFault_follows {c : Core} {f : Front} {e : FaultEntry} {left : List (Nat × List Byte)} {b : Bool}
    (area : c.port.workArea ≠ none) (h : f.snapMark = .writing left b none) :
    (f.raiseFault c e).snapMark = .writing left b (some ({ fault := true }, false)) := by
  unfold Front.raiseFault
  dsimp only
  split
  · rw [Front.trigger_writing c _ area]
    exact (Front.causeRaised_fields _ _).2.2.2.2.2.2.1.trans h
  · rw [Front.trigger_writing c _ area (left := left) (d := b)]
    exact h

/-- A snapshot trigger, and perhaps a fault after it, on an idle mark: a record with its signal flag set is begun, which a
fault's trigger may follow up. -/
theorem State.leaves_setupSnapshot (s : State) {d : Core} {t : Triggers} {o : Option FaultEntry}
    (out : d.out = .snapshot t true :: o.toList.map .fault) (area : d.port.workArea ≠ none) :
    (o = none → (s.leaves d).front.faults = s.front.faults) ∧
    (∀ e, o = some e → (s.leaves d).front.faults = s.front.queued e) ∧
    (s.front.snapMark = .idle → ∃ left, (s.leaves d).front.snapMark = .writing left true none ∨
      ∃ u, (s.leaves d).front.snapMark = .writing left true (some u)) := by
  have area : d.idleFollow.escalationFollow.port.workArea ≠ none := area
  generalize hc : d.idleFollow.escalationFollow = c at area
  obtain ⟨faults, overflow, -⟩ := Front.trigger_fields c s.front t true
  have begun (hi : s.front.snapMark = .idle) : ∃ left, (s.front.trigger c t true).snapMark = .writing left true none := by
    rw [Front.trigger_idle c s.front area hi]
    exact ⟨_, rfl⟩
  cases o with
  | none =>
    have front : (s.leaves d).front = s.front.trigger c t true := by rw [s.leaves_front_one out, hc]; rfl
    rw [front]
    exact ⟨fun _ => faults, by simp, fun hi => (begun hi).imp fun _ h => .inl h⟩
  | some e =>
    have front : (s.leaves d).front = (s.front.trigger c t true).raiseFault c e := by
      rw [← hc]
      simp [State.leaves, State.flush, out, Front.take]
    rw [front]
    refine ⟨by simp, fun e' he => ?_, fun hi => ?_⟩
    · cases he
      rw [Front.raiseFault_faults, Front.queued, Front.queued, faults, overflow]
    · obtain ⟨left, h⟩ := begun hi
      exact ⟨left, .inr ⟨_, Front.raiseFault_follows area h⟩⟩

/-- Settles O19. -/
theorem setupAcceptanceTakesEffect : Obligations.SetupAcceptanceTakesEffect := by
  refine ⟨fun part bs block ext q s hm hr hq hf both why stop flyby probeless => ?_, setupFields_eq⟩
  obtain ⟨p, check⟩ := initialProfile_passed why
  obtain ⟨t, f, lamp, link, l, accept, reels, probe, present, line, few, reports⟩ :=
    (s.core.setupLanded part).acceptSetup_shape q.base block ext p
  obtain ⟨port, modes, tr, store, focus, cap, roll, hlink, rm, sig, out⟩ :=
    (s.core.setupLanded part).accepted_fields q.base block ext p t f lamp link l
  generalize (s.core.setupLanded part).accepted q.base block ext p t f lamp link l = b at *
  have judged : s.core.setupReadDone part (.data bs) = b.compareHardware := by
    have why : setupReason q.base (s.core.setupLanded part).store block ext = none := why
    rw [Core.setupReadDone_second hq hf both, Core.judgeSetup, why, ← accept]
    simp only [check]
  obtain ⟨o, ho⟩ : ∃ o : Option FaultEntry, o = if b.hardwareFound = b.port.setup.expected % 64 then none
    else some ⟨.configMismatch, .systemPort, BitVec.ofNat 24 (b.hardwareFound + 256 * (b.port.setup.expected % 64)), 0⟩ :=
    ⟨_, rfl⟩
  have sig : b.sig = l := sig.trans (by rw [show (s.core.setupLanded part).sig = [] from s.ready_sig hr, List.nil_append])
  have out : b.out = [.snapshot { setup := true, mode := true } true] :=
    out.trans (by rw [show (s.core.setupLanded part).out = [] from s.ready_out hr, List.nil_append])
  have compared : b.compareHardware = { b with
      out := .snapshot { setup := true, mode := true } true :: o.toList.map .fault } := by
    rw [Core.compareHardware_shape, out, ho]
    split <;> rfl
  have strobeless : b.strobeless = true := by
    refine b.strobeless_iff.2 ?_
    rw [cap, focus]
    exact ⟨congrArg (fun x : Option StopCapture => (x.map (·.arrived)).getD false) stop, flyby, probe.trans probeless⟩
  have due : b.endDue = false := by
    have : b.endDue = s.core.endDue := by
      simp only [Core.endDue, rm, cap]
      rfl
    exact this.trans (s.ready_endDue hr)
  obtain ⟨lamp', reply, run, -, present', -⟩ := State.runCore_modeReports (w := none)
    (f := fun c => c.setupReadDone part (.data bs)) hr (judged.trans compared)
    strobeless due (by rw [show _ = l from sig]; omega) (by simp) (fun x hx => by
      rcases reports x (sig ▸ hx) with h | h
      · exact .inl h
      · exact .inr (.inl h))
  obtain ⟨matched, mismatch, record⟩ := s.leaves_setupSnapshot (o := o)
    (d := Core.told { b with out := .snapshot { setup := true, mode := true } true :: o.toList.map .fault } lamp' reply [])
    rfl (fun h => Option.some_ne_none _ ((congrArg Port.workArea port).symm.trans h))
  have found : b.hardwareFound =
      s.core.roll.bayCount % 16 + 16 * s.core.cap.lamp.present.toNat + 32 * s.core.roll.changer.toNat := by
    rw [← show lamp.present = s.core.cap.lamp.present from present, Core.hardwareFound, roll, cap]
    rfl
  refine ⟨_, congrArg Host.Outcome.next run, congrArg Modes.mode modes, congrArg Modes.progress modes,
    congrArg Port.workArea port, congrArg Port.setup port, congrArg Port.setupRead port,
    (congrArg Transport.reelTypes tr).trans reels, congrArg Capture.cursor cap, congrArg Port.sweepTimer port,
    fun h => Link.accepted_up _ _ _ _ (line.down.1 ((congrArg Link.st hlink).symm.trans h)),
    (congrArg Link.fast hlink).trans line.fast, (congrArg Link.address hlink).trans line.address, fun x y hx hy => ?_, roll,
    present'.trans ((congrArg (fun c : Capture => c.lamp.present) cap).trans present), fun ha hb => ?_, fun h => ?_, record⟩
  · rw [← found] at hx
    rw [show _ = setupFields block from congrArg Port.setup port] at ho
    subst hx hy
    exact ⟨fun h => matched (ho.trans (if_pos h)), fun h => mismatch _ (ho.trans (if_neg h))⟩
  · have empty : b.store = { s.core.store with setA := some p, active := some .a, pending := none } :=
      store.trans (if_pos ⟨Option.isNone_iff_eq_none.2 ha, Option.isNone_iff_eq_none.2 hb⟩)
    exact ⟨p, check, congrArg Store.setA empty, (congrArg Store.setB empty).trans hb, congrArg Store.active empty,
      congrArg Store.pending empty⟩
  · refine store.trans (if_neg fun g => ?_)
    rcases h with h | h
    · exact h (Option.isNone_iff_eq_none.1 g.1)
    · exact h (Option.isNone_iff_eq_none.1 g.2)

end Sys2Proof.Machine
end

section
/-!
SUPPORT. Looks (R12 to R15), the taking of a slot (R16), and the reads of the Board Reader that end.
-/

namespace Sys2Proof.Machine

/-! ## A ready part's quiet effects -/

/-- A ready part's effect that reports and sends nothing, and ends no pass, leaves its core, with the front as it was. -/
theorem State.exec_quiet {s : State} {f : Core → Core} {c : Core} (hr : s.ready = true) (hf : f s.core = c)
    (sig : c.sig = s.core.sig) (due : c.endDue = s.core.endDue) (out : c.out = s.core.out) :
    s.runCore f = s.leaves c ∧ (s.leaves c).front = s.front :=
  ⟨State.runCore_ready hr hf (sig.trans (s.ready_sig hr)) (due.trans (s.ready_endDue hr)),
    s.leaves_front (out.trans (s.ready_out hr))⟩

/-! ## Returns that are decided (R18) -/

theorem Core.endDue_of_pass {c d : Core} (pass : d.rm.pass = c.rm.pass) (cap : d.cap = c.cap) : d.endDue = c.endDue := by
  simp only [Core.endDue, pass, cap]

section decided
variable (c : Core) (r : Return)

@[simp] theorem Core.decideReturn_results : (c.decideReturn r).port.results = c.port.results ++ [.result r] := rfl
@[simp] theorem Core.decideReturn_pass : (c.decideReturn r).rm.pass = c.rm.pass := rfl
@[simp] theorem Core.decideReturn_slots : (c.decideReturn r).rm.slots = c.rm.slots := rfl
@[simp] theorem Core.decideReturn_exports : (c.decideReturn r).rm.exports = c.rm.exports := rfl
@[simp] theorem Core.decideReturn_loading : (c.decideReturn r).rm.loading = c.rm.loading := rfl
@[simp] theorem Core.decideReturn_modes : (c.decideReturn r).modes = c.modes := rfl
@[simp] theorem Core.decideReturn_store : (c.decideReturn r).store = c.store := rfl
@[simp] theorem Core.decideReturn_tr : (c.decideReturn r).tr = c.tr := rfl
@[simp] theorem Core.decideReturn_ix : (c.decideReturn r).ix = c.ix := rfl
@[simp] theorem Core.decideReturn_porter : (c.decideReturn r).porter = c.porter := rfl
@[simp] theorem Core.decideReturn_focus : (c.decideReturn r).focus = c.focus := rfl
@[simp] theorem Core.decideReturn_cap : (c.decideReturn r).cap = c.cap := rfl
@[simp] theorem Core.decideReturn_roll : (c.decideReturn r).roll = c.roll := rfl
@[simp] theorem Core.decideReturn_link : (c.decideReturn r).link = c.link := rfl
@[simp] theorem Core.decideReturn_sig : (c.decideReturn r).sig = c.sig := rfl
@[simp] theorem Core.decideReturn_out : (c.decideReturn r).out = c.out := rfl
@[simp] theorem Core.decideReturn_now : (c.decideReturn r).now = c.now := rfl
@[simp] theorem Core.decideReturn_boardQueue : (c.decideReturn r).port.boardQueue = c.port.boardQueue := rfl
@[simp] theorem Core.decideReturn_boardFlight : (c.decideReturn r).port.boardFlight = c.port.boardFlight := rfl
@[simp] theorem Core.decideReturn_sweepEnded : (c.decideReturn r).port.sweepEnded = c.port.sweepEnded := rfl
@[simp] theorem Core.decideReturn_dropped : (c.decideReturn r).port.dropped = c.port.dropped := rfl

@[simp] theorem Core.decideReturn_pendingLength :
    (c.decideReturn r).rm.pendingSet.length = c.rm.pendingSet.length := List.length_map ..

@[simp] theorem Core.decideReturn_endDue : (c.decideReturn r).endDue = c.endDue := Core.endDue_of_pass rfl rfl

end decided

/-! ## Looks -/

theorem Core.decideLook_held {c : Core} {n : Nat} (h : c.rm.slots[n]? ≠ some .lookable) (b : Bool) (r : ReadEnd) :
    c.decideLook n b r = c := by
  have : c.lookable n = false := by rw [← Bool.not_eq_true, Core.lookable_iff]; exact h
  simp [Core.decideLook, this]

theorem Core.decideLook_error {c : Core} {n : Nat} (h : c.rm.slots[n]? = some .lookable) (b : Bool) :
    c.decideLook n b .error = c.fault .memoryRead .systemPort n (auxSlot n 0) := by
  simp [Core.decideLook, c.lookable_iff n |>.2 h]

theorem Core.decideLook_unposted {bs : List Byte} (h : slotClass bs ≠ .posted) (c : Core) (n : Nat) (b : Bool) :
    c.decideLook n b (.data bs) = c := by
  unfold Core.decideLook
  split
  · cases hc : slotClass bs with
    | posted => exact absurd hc h
    | _ => simp only [hc]
  · rfl

/-- A posted look in RUN takes its slot. -/
theorem Core.decideLook_posted {c : Core} {n : Nat} {bs : List Byte} (hm : c.modes.mode = .run)
    (h : c.rm.slots[n]? = some .lookable) (hp : slotClass bs = .posted) (b : Bool) :
    c.decideLook n b (.data bs) = c.takeSlot n bs := by
  have awake : c.toRun = c := Core.toRun_awake (by simp [hm]) (by simp [hm])
  simp [Core.decideLook, c.lookable_iff n |>.2 h, hp, awake]

/-- A slot's look in flight is the first of the slot's reads there, which its end removes. -/
theorem lookInFlight_eq_some {n : Nat} {b : Bool} {l : List BoardRead} (h : lookInFlight n l = some b) :
    l.any (· == .slot n b) = true := by
  induction l with
  | nil => cases h
  | cons x l ih =>
    cases x with
    | slot m w =>
      by_cases hm : m = n
      · simp only [lookInFlight, hm, if_true, Option.some.injEq] at h
        simp [hm, h]
      · simp only [lookInFlight, hm, if_false] at h
        rw [List.any_cons, ih h, Bool.or_true]
    | _ => rw [List.any_cons, ih (by simpa [lookInFlight] using h), Bool.or_true]

theorem lookInFlight_of_absent {n : Nat} {l : List BoardRead} (h : ∀ b, .slot n b ∉ l) : lookInFlight n l = none := by
  cases hl : lookInFlight n l with
  | none => rfl
  | some b =>
    obtain ⟨x, hx, he⟩ := List.any_eq_true.1 (lookInFlight_eq_some hl)
    exact absurd (eq_of_beq he ▸ hx) (h b)

/-- The core without the read of slot `n` that ends. -/
def Core.lookLanded (c : Core) (n : Nat) (b : Bool) : Core :=
  c.setPort { c.port with boardFlight := removeFirst (· == .slot n b) c.port.boardFlight }

/-- The reads left in flight as a lone look ends. -/
theorem Core.looksAlone_removes {c : Core} {n : Nat} {b : Bool} (h : c.looksAlone n b = true) :
    (removeFirst (· == .slot n b) c.port.boardFlight).length + 1 = c.port.boardFlight.length := by
  simp only [Core.looksAlone, Bool.and_eq_true, beq_iff_eq] at h
  exact length_removeFirst (lookInFlight_eq_some h.1.1)

/-- A read that is not in flight does nothing. -/
theorem Core.lookDone_absent {c : Core} {n : Nat} (h : ∀ b, .slot n b ∉ c.port.boardFlight) (r : ReadEnd) :
    c.lookDone n r = c := by
  rw [Core.lookDone, lookInFlight_of_absent h]

/-- The sweep's waiting ends are decided when nothing waits. -/
theorem Core.sweepDecide_nil {c : Core} (h : c.port.sweepEnded = []) : c.sweepDecide = c := by
  obtain ⟨_, _, port, _⟩ := c
  cases port
  simp only at h
  subst h
  rfl

/-- A look that another has overtaken, or that was none as it was issued, leaves only the reads and the marks (R15). -/
theorem Core.lookDone_dropped {c : Core} {n : Nat} {b : Bool} {l : List BoardRead} {d : List (Nat × Bool)}
    (flight : c.port.boardFlight = .slot n b :: l) (dropped : c.port.dropped = (n, b) :: d)
    (waits : c.port.sweepEnded = []) (r : ReadEnd) :
    c.lookDone n r = c.setPort { c.port with boardFlight := l, dropped := d } := by
  have found : lookInFlight n c.port.boardFlight = some b := by simp [flight, lookInFlight]
  have left : removeFirst (· == .slot n b) c.port.boardFlight = l := by simp [flight, removeFirst]
  have unmarked : removeFirst (· == (n, b)) c.port.dropped = d := by simp [dropped, removeFirst]
  have marked : c.port.dropped.contains (n, b) = true := by simp [dropped]
  unfold Core.lookDone
  rw [found]
  simp only [Core.setPort_port, marked, if_true, left, unmarked]
  split
  · exact Core.sweepDecide_nil waits
  · rfl

theorem auxSlot_zero (n : Nat) : auxSlot n 0 = BitVec.ofNat 28 (n % 32 * 65536) := by simp [auxSlot]

/-- Settles O21. -/
theorem looksThatTakeNothing : Obligations.LooksThatTakeNothing := by
  intro n s hr
  refine ⟨fun b alone => ?_, fun b l d hf hd he r => ?_, fun absent r => ?_⟩
  · have ends (r : ReadEnd) : s.core.lookDone n r = (s.core.lookLanded n b).decideLook n b r := Core.lookDone_alone alone r
    refine ⟨_, Core.looksAlone_removes alone, fun r hr => mem_of_mem_removeFirst hr, fun bs h => ?_, fun held => ?_,
      fun lookable => ?_⟩
    · refine congrArg Host.Outcome.next (State.runCore_leaves hr ((ends (.data bs)).trans ?_) rfl rfl rfl)
      rcases h with h | h
      · exact Core.decideLook_unposted h _ _ _
      · exact Core.decideLook_held (c := s.core.lookLanded n b) h _ _
    · exact congrArg Host.Outcome.next (State.runCore_leaves hr ((ends .error).trans 
        (Core.decideLook_held (c := s.core.lookLanded n b) held _ _)) rfl rfl rfl)
    · refine ⟨_, congrArg Host.Outcome.next (State.runCore_leaves hr
        ((ends .error).trans (Core.decideLook_error (c := s.core.lookLanded n b) lookable _)) rfl rfl rfl), rfl, rfl, rfl, ?_⟩
      rw [← auxSlot_zero, State.leaves_front_one (x := .fault ⟨.memoryRead, .systemPort, BitVec.ofNat 24 n, auxSlot n 0⟩)]
      · exact Front.raiseFault_faults _ _ _
      · change s.core.out ++ _ = _
        rw [s.ready_out hr, List.nil_append]
  · refine congrArg Host.Outcome.next (State.runCore_leaves hr ?_ rfl rfl rfl)
    exact Core.lookDone_dropped hf hd he r
  · exact congrArg Host.Outcome.next (State.runCore_leaves hr (Core.lookDone_absent absent r) rfl rfl rfl)

/-! ## The profile record read (R41, R43) -/

/-- The profile read in flight alone ends. -/
theorem Core.profileReadDone_alone {c : Core} {a : Nat} (h : c.port.boardFlight = [.profile a]) (r : ReadEnd) :
    c.profileReadDone r = (c.setPort { c.port with boardFlight := [] }).profileRead r := by
  simp [Core.profileReadDone, Core.boardEnd, h, BoardRead.isProfile, removeFirst]

theorem Core.profileRead_error {c : Core} {q : Served} (h : c.rm.loading = some q) :
    c.profileRead .error = c.decideReturn (Return.plain q.slot q.stamp q.notify q.takenAt .badRequest 0x0E) := by
  simp [Core.profileRead, h, Det.readError]

theorem Core.profileRead_refused {c : Core} {q : Served} {bs : List Byte} {d : Nat} (h : c.rm.loading = some q)
    (check : checkProfile c.port.setup.slotAlloc c.tr.reelTypes bs = .refused d) :
    c.profileRead (.data bs) = c.decideReturn (Return.plain q.slot q.stamp q.notify q.takenAt .badRequest d) := by
  simp [Core.profileRead, h, check]

/-- A record that passes loads the inactive set, and makes it pending. -/
theorem Core.profileRead_passed {c : Core} {q : Served} {bs : List Byte} {p : Profile} {k : Nat}
    (h : c.rm.loading = some q) (check : checkProfile c.port.setup.slotAlloc c.tr.reelTypes bs = .passed p k) :
    c.profileRead (.data bs) =
      ((c.setStore { c.store.put c.store.inactive p with pending := some c.store.inactive, load := none }).setRm
        { c.rm with loading := none }).decideReturn
          { Return.plain q.slot q.stamp q.notify q.takenAt .done 0 with clamps := k } := by
  simp [Core.profileRead, h, check, Det.none]

/-- Settles O22. -/
theorem hostReadTimeoutIsReadError : Obligations.HostReadTimeoutIsReadError := by
  refine ⟨fun p n s => ⟨rfl, rfl, rfl, rfl, rfl, rfl⟩, fun a q s hr hf hq => ?_⟩
  exact congrArg Host.Outcome.next (State.exec_quiet hr ((Core.profileReadDone_alone hf .error).trans
    (Core.profileRead_error (c := s.core.setPort { s.core.port with boardFlight := [] }) hq)) rfl rfl rfl).1

/-- Settles O26. -/
theorem profileReadLoadsInactiveSet : Obligations.ProfileReadLoadsInactiveSet := by
  intro a bs q s hr hf hq
  have ends := Core.profileReadDone_alone hf (.data bs)
  refine ⟨fun p k check => ?_, fun d check => ?_⟩
  · refine ⟨_, congrArg Host.Outcome.next (State.exec_quiet hr (ends.trans
      (Core.profileRead_passed (c := s.core.setPort { s.core.port with boardFlight := [] }) hq check)) rfl rfl rfl).1,
      ?_, rfl, rfl, fun active => ?_, fun active => ?_, rfl, rfl, rfl, rfl⟩
    · simp only [State.leaves_store, Core.decideReturn]
      cases h : s.core.store.inactive <;> simp [h, Store.put]
    · have inactive : s.core.store.inactive = .a := by simp [Store.inactive, active, SetName.other]
      simp [Core.decideReturn, inactive, Store.put]
    · have inactive : s.core.store.inactive = .b := by
        cases h : s.core.store.active with
        | none => simp [Store.inactive, h]
        | some n => cases n <;> simp_all [Store.inactive, SetName.other]
      simp [Core.decideReturn, inactive, Store.put]
  · exact ⟨_, congrArg Host.Outcome.next (State.exec_quiet hr (ends.trans
      (Core.profileRead_refused (c := s.core.setPort { s.core.port with boardFlight := [] }) hq check)) rfl rfl rfl).1, rfl, rfl⟩

/-! ## The sweep (R13) -/

theorem sweeping_iff (l : List BoardRead) : l.any BoardRead.sweeping = true ↔ ∃ n, .slot n true ∈ l := by
  rw [List.any_eq_true]
  constructor
  · rintro ⟨x, hx, h⟩
    cases x with
    | slot n b => cases b with
      | true => exact ⟨n, hx⟩
      | false => cases h
    | _ => cases h
  · rintro ⟨n, hn⟩
    exact ⟨_, hn, rfl⟩

/-- The sweep timer's expiry. -/
theorem Core.sweepExpiry_running {c : Core} {t : Nat} (h : c.port.sweepTimer = some t) :
    c.sweepExpiry = c.setPort { c.port with
      sweepTimer := some c.now
      boardQueue := if c.port.boardQueue.any BoardRead.sweeping || c.port.boardFlight.any BoardRead.sweeping
        then c.port.boardQueue else c.port.boardQueue ++ sweepReads } := by
  simp [Core.sweepExpiry, h, Core.tick]

/-! ## The taking of a slot (R16) -/

/-- The core in which slot `n` has been taken with its stamp, before its request is checked. -/
def Core.slotTaken (c : Core) (n stamp : Nat) : Core :=
  (c.setRm { c.rm with slots := setAt c.rm.slots n (.held stamp .immediate) }).setPort
    { c.port.dropLooks n with results := c.port.results ++ [.taken n stamp] }

/-- What the taking of a slot leaves in each block. -/
theorem Core.slotTaken_fields (c : Core) (n stamp : Nat) :
    (c.slotTaken n stamp).rm = { c.rm with slots := setAt c.rm.slots n (.held stamp .immediate) } ∧
    (c.slotTaken n stamp).port = { c.port.dropLooks n with results := c.port.results ++ [.taken n stamp] } ∧
    (c.slotTaken n stamp).modes = c.modes ∧ (c.slotTaken n stamp).store = c.store ∧ (c.slotTaken n stamp).tr = c.tr ∧
    (c.slotTaken n stamp).ix = c.ix ∧ (c.slotTaken n stamp).porter = c.porter ∧ (c.slotTaken n stamp).focus = c.focus ∧
    (c.slotTaken n stamp).cap = c.cap ∧ (c.slotTaken n stamp).roll = c.roll ∧ (c.slotTaken n stamp).link = c.link ∧
    (c.slotTaken n stamp).sig = c.sig ∧ (c.slotTaken n stamp).out = c.out ∧ (c.slotTaken n stamp).now = c.now :=
  ⟨rfl, rfl, rfl, rfl, rfl, rfl, rfl, rfl, rfl, rfl, rfl, rfl, rfl, rfl⟩

theorem validate_slotTaken (c : Core) (n stamp : Nat) (bs : List Byte) :
    validate (c.slotTaken n stamp) bs = validate c bs :=
  validate_congr (c.slotTaken n stamp) c rfl rfl bs

theorem Core.takeSlot_refused {c : Core} {bs : List Byte} {o : Res} {d : Nat} (h : validate c bs = .refused o d) (n : Nat) :
    c.takeSlot n bs = (c.slotTaken n (fieldAt bs 0 2)).decideReturn
      (Return.plain n (fieldAt bs 0 2) ((byteAt bs 3).testBit 0) c.now o d) := by
  have h := (validate_slotTaken c n (fieldAt bs 0 2) bs).trans h
  simp only [Core.slotTaken] at h
  simp only [Core.takeSlot, h]
  rfl

/-- A request that passes is served or held by its kind. -/
theorem Core.takeSlot_passed {c : Core} {bs : List Byte} {r : Request} {k : Nat} (h : validate c bs = .passed r k)
    (n : Nat) : c.takeSlot n bs =
      match r.kind with
      | .setProfile => (c.slotTaken n (fieldAt bs 0 2)).serveProfile n (fieldAt bs 0 2) r
      | .cancel => (c.slotTaken n (fieldAt bs 0 2)).serveCancel n (fieldAt bs 0 2) r
      | .exportIndex => (c.slotTaken n (fieldAt bs 0 2)).serveExport n (fieldAt bs 0 2) r
      | .mount => ((c.slotTaken n (fieldAt bs 0 2)).bindBay r).joinPending n (fieldAt bs 0 2) r k
      | _ => (c.slotTaken n (fieldAt bs 0 2)).joinPending n (fieldAt bs 0 2) r k := by
  have h := (validate_slotTaken c n (fieldAt bs 0 2) bs).trans h
  simp only [Core.slotTaken] at h
  simp only [Core.takeSlot, h]
  rfl

theorem mem_looksInFlight {n m : Nat} {w : Bool} {l : List BoardRead} :
    (m, w) ∈ looksInFlight n l ↔ m = n ∧ .slot n w ∈ l := by
  simp only [looksInFlight, List.mem_filterMap]
  constructor
  · rintro ⟨x, hx, h⟩
    cases x with
    | slot k b =>
      dsimp only at h
      split at h
      · next hk => cases h; exact ⟨rfl, hk ▸ hx⟩
      · cases h
    | _ => cases h
  · rintro ⟨rfl, h⟩
    exact ⟨_, h, by simp⟩

/-- Of the other looks at a slot that is taken, none is left to be decided (R15). -/
theorem Port.dropLooks_drops (p : Port) (n : Nat) : (∀ e, e ∈ (p.dropLooks n).sweepEnded → e.1 ≠ n) ∧
    (∀ w, .slot n w ∈ (p.dropLooks n).boardFlight → (n, w) ∈ (p.dropLooks n).dropped) := by
  refine ⟨fun e he => ?_, fun w hw => List.mem_append_right _ (mem_looksInFlight.2 ⟨rfl, hw⟩)⟩
  simpa using (List.mem_filter.1 he).2

theorem Core.bindBay_shape (c : Core) (r : Request) : ∃ x : RollMgr, c.bindBay r = c.setRoll x ∧
    (1 ≤ r.argA % 256 → r.argA % 256 ≤ c.roll.bays.length → (c.roll.bay (r.argA % 256)).st = .loaded →
      (x.bay (r.argA % 256)).st = .bound ∧ (x.bay (r.argA % 256)).roll = some r.roll) := by
  by_cases h : (c.roll.bay (r.argA % 256)).st = .loaded
  · refine ⟨c.roll.setBay (r.argA % 256) { Bay.reset with st := .bound, roll := some r.roll }, ?_, fun low high _ => ?_⟩
    · simp [Core.bindBay, h]
    · rw [RollMgr.bay_setBay_self _ _ _ low high]
      exact ⟨rfl, rfl⟩
  · exact ⟨c.roll, by simp [Core.bindBay, h]; rfl, fun _ _ g => absurd g h⟩

/-- The core in which a request of a pass has been taken and held, and a MOUNT's bay bound. -/
def Core.heldFor (c : Core) (n stamp : Nat) (r : Request) (k : Nat) (x : RollMgr) : Core :=
  ((c.slotTaken n stamp).setRoll x).joinPending n stamp r k

theorem Core.heldFor_fields (c : Core) (n stamp : Nat) (r : Request) (k : Nat) (x : RollMgr) :
    let d := c.heldFor n stamp r k x
    d.rm = { c.rm with
      slots := setAt (setAt c.rm.slots n (.held stamp .immediate)) n (.held stamp .pendingSet)
      pendingSet := c.rm.pendingSet ++
        [{ slot := n, stamp := stamp, req := r, passOver := 0, active := false, takenAt := c.now, clamps := k,
           returned := false }] } ∧
    d.port = { c.port.dropLooks n with results := c.port.results ++ [.taken n stamp] } ∧
    d.roll = x ∧ d.tr = c.tr ∧ d.store = c.store ∧ d.ix = c.ix ∧ d.cap = c.cap ∧ d.sig = c.sig ∧ d.out = c.out := by
  simp [Core.heldFor, Core.joinPending, Core.slotTaken]

/-- A request of a pass that passes the checks is held, and a MOUNT binds its bay. -/
theorem Core.takeSlot_held {c : Core} {bs : List Byte} {r : Request} {k : Nat} (h : validate c bs = .passed r k) (n : Nat)
    (kind : r.kind.positional = true ∨ r.kind = .unmount ∨ r.kind = .mount) :
    ∃ x : RollMgr, c.takeSlot n bs = c.heldFor n (fieldAt bs 0 2) r k x ∧ (r.kind ≠ .mount → x = c.roll) ∧
      (r.kind = .mount → 1 ≤ r.argA % 256 → r.argA % 256 ≤ c.roll.bays.length →
        (c.roll.bay (r.argA % 256)).st = .loaded →
        (x.bay (r.argA % 256)).st = .bound ∧ (x.bay (r.argA % 256)).roll = some r.roll) := by
  rw [Core.takeSlot_passed h]
  cases hk : r.kind with
  | mount =>
    obtain ⟨x, binds, bound⟩ := (c.slotTaken n (fieldAt bs 0 2)).bindBay_shape r
    exact ⟨x, congrArg (Core.joinPending · n (fieldAt bs 0 2) r k) binds, fun g => absurd rfl g, fun _ => bound⟩
  | setProfile | cancel | exportIndex => rw [hk] at kind; exact absurd kind (by decide)
  | _ => exact ⟨c.roll, rfl, fun _ => rfl, by simp⟩

/-- The slot of a held request, and the others. -/
theorem getElem?_setAt_setAt {α : Type} {l : List α} {n : Nat} {x y z : α} (h : l[n]? = some z) :
    (setAt (setAt l n x) n y)[n]? = some y ∧ ∀ m, m ≠ n → (setAt (setAt l n x) n y)[m]? = l[m]? := by
  have inside : n < l.length := (List.getElem?_eq_some_iff.1 h).1
  refine ⟨?_, fun m hm => ?_⟩
  · rw [getElem?_setAt, if_pos ⟨rfl, by rw [length_setAt]; exact inside⟩]
  · rw [getElem?_setAt, if_neg (fun h => hm h.1), getElem?_setAt, if_neg (fun h => hm h.1)]

/-- A lone posted look in RUN takes its slot. -/
theorem Core.lookDone_takes {c : Core} {n : Nat} {b : Bool} {bs : List Byte} (hm : c.modes.mode = .run)
    (alone : c.looksAlone n b = true) (lookable : c.rm.slots[n]? = some .lookable) (posted : slotClass bs = .posted) :
    c.lookDone n (.data bs) = (c.lookLanded n b).takeSlot n bs :=
  (Core.lookDone_alone alone (.data bs)).trans (Core.decideLook_posted (c := c.lookLanded n b) hm lookable posted b)

theorem validate_lookLanded (c : Core) (n : Nat) (b : Bool) (bs : List Byte) :
    validate (c.lookLanded n b) bs = validate c bs :=
  validate_congr (c.lookLanded n b) c rfl rfl bs

/-- Settles O24. -/
theorem postedRequestsAreTaken : Obligations.PostedRequestsAreTaken := by
  intro n b bs s hr hm alone lookable posted
  have takes := Core.lookDone_takes hm alone lookable posted
  refine ⟨fun r k passed kind => ?_, fun o d refused => ?_⟩
  · obtain ⟨x, held, same, bound⟩ := Core.takeSlot_held ((validate_lookLanded s.core n b bs).trans passed) n kind
    obtain ⟨rm, port, roll, tr, store, ix, cap, sig, out⟩ :=
      (s.core.lookLanded n b).heldFor_fields n (fieldAt bs 0 2) r k x
    have effect := takes.trans held
    generalize (s.core.lookLanded n b).heldFor n (fieldAt bs 0 2) r k x = d at *
    obtain ⟨run, front⟩ := State.exec_quiet (f := fun c => c.lookDone n (.data bs)) hr effect sig (by
      simp only [Core.endDue, rm, cap]; rfl) out
    obtain ⟨mine, others⟩ := getElem?_setAt_setAt (x := .held (fieldAt bs 0 2) .immediate)
      (y := .held (fieldAt bs 0 2) .pendingSet) lookable
    obtain ⟨ended, dropped⟩ := (s.core.lookLanded n b).port.dropLooks_drops n
    refine ⟨s.leaves d, congrArg Host.Outcome.next run, ?_⟩
    simp only [State.leaves_rm, State.leaves_tr, State.leaves_store, State.leaves_ix, State.leaves_roll,
      State.leaves_results, State.leaves_sweepEnded, State.leaves_boardFlight, State.leaves_dropped, rm, port, roll, tr,
      store, ix]
    exact ⟨mine, rfl, rfl, rfl, rfl, rfl, rfl, front, ended, dropped, same, others, bound⟩
  · have effect := takes.trans (Core.takeSlot_refused ((validate_lookLanded s.core n b bs).trans refused) n)
    obtain ⟨rm, port, -, store, -, -, -, -, cap, roll, -, sig, out, now⟩ :=
      (s.core.lookLanded n b).slotTaken_fields n (fieldAt bs 0 2)
    generalize (s.core.lookLanded n b).slotTaken n (fieldAt bs 0 2) = d at *
    obtain ⟨run, front⟩ := State.exec_quiet (f := fun c => c.lookDone n (.data bs)) hr effect sig
      ((d.decideReturn_endDue _).trans (Core.endDue_of_pass (c := s.core) (by rw [rm]; rfl) cap)) out
    obtain ⟨ended, dropped⟩ := (s.core.lookLanded n b).port.dropLooks_drops n
    have inside : n < s.core.rm.slots.length := (List.getElem?_eq_some_iff.1 lookable).1
    refine ⟨_, congrArg Host.Outcome.next run, ?_⟩
    simp only [State.leaves_rm, State.leaves_store, State.leaves_roll, State.leaves_results, State.leaves_sweepEnded,
      State.leaves_boardFlight, State.leaves_dropped, Core.decideReturn_slots, Core.decideReturn_results,
      Core.decideReturn_sweepEnded, Core.decideReturn_boardFlight, Core.decideReturn_dropped, Core.decideReturn_roll,
      Core.decideReturn_pendingLength, Core.decideReturn_store, Core.decideReturn_exports, rm, port, roll, store]
    exact ⟨(getElem?_setAt _ _ _ _).trans (if_pos ⟨rfl, inside⟩), List.append_assoc _ _ _, ended, dropped, rfl, rfl, rfl, rfl,
      front⟩

/-! ## The sweep's takings (R13) -/

theorem insertEnded_before {n m : Nat} (h : m < n) (x y : ReadEnd) :
    insertEnded (m, x) [(n, y)] = [(m, x), (n, y)] := if_pos h

/-- A sweep's end that waits for a lower slot's read. -/
theorem Core.lookDone_waits {c : Core} {m n : Nat} (h : m < n) (flight : c.port.boardFlight = [.slot m true, .slot n true])
    (waits : c.port.sweepEnded = []) (dropped : c.port.dropped = []) (r : ReadEnd) :
    c.lookDone n r = c.setPort { c.port with boardFlight := [.slot m true], sweepEnded := [(n, r)] } := by
  have hmn : m ≠ n := by omega
  have found : lookInFlight n c.port.boardFlight = some true := by simp [flight, lookInFlight, hmn]
  have left : removeFirst (· == .slot n true) c.port.boardFlight = [.slot m true] := by simp [flight, removeFirst, hmn]
  have below : sweepBelow [.slot m true] n = true := by simp [sweepBelow, h]
  unfold Core.lookDone
  rw [found]
  simp [Core.sweepDecide, Core.setPort, left, waits, dropped, insertEnded, below]

/-- The last of a sweep's reads: the ends that wait are decided in slot order. -/
theorem Core.lookDone_decides {c : Core} {m n : Nat} (h : m < n) (flight : c.port.boardFlight = [.slot m true]) {e r : ReadEnd}
    (waits : c.port.sweepEnded = [(n, e)]) (dropped : c.port.dropped = []) :
    c.lookDone m r = ((c.setPort { c.port with boardFlight := [], sweepEnded := [] }).decideLook m true r).decideLook
      n true e := by
  have found : lookInFlight m c.port.boardFlight = some true := by simp [flight, lookInFlight]
  have left : removeFirst (· == .slot m true) c.port.boardFlight = [] := by simp [flight, removeFirst]
  unfold Core.lookDone
  rw [found]
  simp [Core.sweepDecide, Core.setPort, left, waits, dropped, insertEnded_before h, sweepBelow]

/-- A look of an unknown kind is returned as such. -/
theorem Core.decideLook_unknown {c : Core} {n : Nat} {bs : List Byte} (hm : c.modes.mode = .run)
    (lookable : c.rm.slots[n]? = some .lookable) (posted : slotClass bs = .posted) (kind : kindOf (byteAt bs 2) = none)
    (b : Bool) : c.decideLook n b (.data bs) = (c.slotTaken n (fieldAt bs 0 2)).decideReturn
      (Return.plain n (fieldAt bs 0 2) ((byteAt bs 3).testBit 0) c.now .badRequest 0x01) := by
  rw [Core.decideLook_posted hm lookable posted]
  exact Core.takeSlot_refused (by simp [validate, kind, Det.unknownKind]) n

/-- What the look at a posted request of an unknown kind leaves. -/
structure Core.ReturnedUnknown (c : Core) (n : Nat) (bs : List Byte) (d : Core) : Prop where
  looks : c.decideLook n true (.data bs) = d
  mode : d.modes.mode = c.modes.mode
  others : ∀ m, m ≠ n → d.rm.slots[m]? = c.rm.slots[m]?
  results : d.port.results = c.port.results ++ [.taken n (fieldAt bs 0 2),
    .result (Return.plain n (fieldAt bs 0 2) ((byteAt bs 3).testBit 0) c.now .badRequest 0x01)]
  ended : d.port.sweepEnded = c.port.sweepEnded.filter fun e => e.1 != n
  flight : d.port.boardFlight = c.port.boardFlight
  sig : d.sig = c.sig
  out : d.out = c.out
  due : d.endDue = c.endDue
  now : d.now = c.now

theorem Core.decideLook_returnsUnknown {c : Core} {n : Nat} {bs : List Byte} (hm : c.modes.mode = .run)
    (lookable : c.rm.slots[n]? = some .lookable) (posted : slotClass bs = .posted) (kind : kindOf (byteAt bs 2) = none) :
    ∃ d, c.ReturnedUnknown n bs d := by
  obtain ⟨rm, port, modes, -, -, -, -, -, cap, -, -, sig, out, now⟩ := c.slotTaken_fields n (fieldAt bs 0 2)
  refine ⟨_, Core.decideLook_unknown hm lookable posted kind true, ?_, fun m h => ?_, ?_, ?_, ?_, ?_, ?_, ?_, ?_⟩
  · rw [Core.decideReturn_modes, modes]
  · rw [Core.decideReturn_slots, rm, getElem?_setAt, if_neg (fun g => h g.1)]
  · rw [Core.decideReturn_results, port]
    exact List.append_assoc _ _ _
  · rw [Core.decideReturn_sweepEnded, port]; rfl
  · rw [Core.decideReturn_boardFlight, port]; rfl
  · rw [Core.decideReturn_sig, sig]
  · rw [Core.decideReturn_out, out]
  · rw [Core.decideReturn_endDue]
    exact Core.endDue_of_pass (by rw [rm]) cap
  · rw [Core.decideReturn_now, now]

/-- Settles O20. -/
theorem sweepReadsEverySlot : Obligations.SweepReadsEverySlot := by
  intro s hr
  refine ⟨fun t ht none' => ?_, fun t n ht some' => ?_, fun none' => ?_, fun m n bs h flight waits dropped => ?_,
    fun m n as bs h flight waits dropped hm posted posted' kind kind' lookable lookable' => ?_⟩
  · have idle : (s.core.port.boardQueue.any BoardRead.sweeping || s.core.port.boardFlight.any BoardRead.sweeping) = false := by
      rw [← Bool.not_eq_true, Bool.or_eq_true, sweeping_iff, sweeping_iff]
      rintro (⟨n, hn⟩ | ⟨n, hn⟩)
      · exact (none' n).1 hn
      · exact (none' n).2 hn
    have effect := Core.sweepExpiry_running ht
    rw [idle] at effect
    exact congrArg Host.Outcome.next (State.runCore_leaves hr effect rfl rfl rfl)
  · have busy : (s.core.port.boardQueue.any BoardRead.sweeping || s.core.port.boardFlight.any BoardRead.sweeping) = true := by
      rw [Bool.or_eq_true, sweeping_iff, sweeping_iff]
      exact some'.imp (⟨n, ·⟩) (⟨n, ·⟩)
    have effect := Core.sweepExpiry_running ht
    rw [busy] at effect
    exact congrArg Host.Outcome.next (State.runCore_leaves hr effect rfl rfl rfl)
  · exact congrArg Host.Outcome.next (State.runCore_leaves hr (by simp [Core.sweepExpiry, none']) rfl rfl rfl)
  · exact congrArg Host.Outcome.next (State.runCore_leaves hr (Core.lookDone_waits h flight waits dropped _) rfl rfl rfl)
  · obtain ⟨c, hc⟩ : ∃ c, c = s.core.setPort { s.core.port with boardFlight := [], sweepEnded := [] } := ⟨_, rfl⟩
    obtain ⟨d, first⟩ := Core.decideLook_returnsUnknown (c := c) (by rw [hc]; exact hm) (by rw [hc]; exact lookable) posted kind
    have away : n ≠ m := by omega
    obtain ⟨e, second⟩ := Core.decideLook_returnsUnknown (c := d) (first.mode.trans (by rw [hc]; exact hm))
      ((first.others n away).trans (by rw [hc]; exact lookable')) posted' kind'
    have effect : s.core.lookDone m (.data as) = e := by
      rw [Core.lookDone_decides h flight waits dropped, ← hc, first.looks, second.looks]
    obtain ⟨run, -⟩ := State.exec_quiet (f := fun c => c.lookDone m (.data as)) hr effect
      (by rw [second.sig, first.sig, hc]; rfl) (by rw [second.due, first.due, hc]; rfl) (by rw [second.out, first.out, hc]; rfl)
    have now : d.now = s.core.now := by rw [first.now, hc]; rfl
    have waiting : c.port.sweepEnded = [] := by rw [hc]; rfl
    have flying : c.port.boardFlight = [] := by rw [hc]; rfl
    have results : c.port.results = s.core.port.results := by rw [hc]; rfl
    refine ⟨_, congrArg Host.Outcome.next run, ?_, ?_, ?_⟩
    · rw [State.leaves_sweepEnded, second.ended, first.ended, waiting]; rfl
    · rw [State.leaves_boardFlight, second.flight, first.flight, flying]
    · rw [State.leaves_results, second.results, first.results, now, results, hc]
      simp

end Sys2Proof.Machine
end

section
/-! SUPPORT. Validation at taking (R26 to R32), check by check. -/

namespace Sys2Proof.Machine

/-! ## Addresses (R29) -/

theorem not_addressOk_iff (a len : Nat) : (!addressOk a len) = true ↔ ¬(a % 64 = 0 ∧ a ≠ 0 ∧ a + len ≤ 2 ^ 64) := by
  rw [addressOk, Bool.not_eq_true', decide_eq_false_iff_not]

theorem addressFault_mount {r : Request} (h : r.kind = .mount) : addressFault r = true ↔
    (r.argA.testBit 16 = true ∨ r.argA.testBit 17 = true) ∧
      ¬(r.argB % 64 = 0 ∧ r.argB ≠ 0 ∧ r.argB + 36 + 24 * 16384 ≤ 2 ^ 64) := by
  rw [addressFault, h, Bool.and_eq_true, Bool.or_eq_true, not_addressOk_iff, Nat.add_assoc]

theorem addressFault_scan {r : Request} (h : r.kind = .scan) : addressFault r = true ↔
    r.argA ≠ 0 ∧ ¬(r.argA % 64 = 0 ∧ r.argA + mapLength r.endTarget.isSome (min r.count 256) ≤ 2 ^ 64) := by
  rw [addressFault, h, Bool.and_eq_true, not_addressOk_iff]
  simp only [bne_iff_ne]
  tauto

/-- The address rule of each kind. -/
theorem addressFault_rules (r : Request) :
    (r.kind = .mount → (addressFault r = true ↔ (r.argA.testBit 16 = true ∨ r.argA.testBit 17 = true) ∧
      ¬(r.argB % 64 = 0 ∧ r.argB ≠ 0 ∧ r.argB + 36 + 24 * 16384 ≤ 2 ^ 64))) ∧
    (r.kind = .setProfile → (addressFault r = true ↔ ¬(r.argA % 64 = 0 ∧ r.argA ≠ 0 ∧ r.argA + 256 ≤ 2 ^ 64))) ∧
    (r.kind = .exportIndex → (addressFault r = true ↔ ¬(r.argA % 64 = 0 ∧ r.argA ≠ 0 ∧ r.argA + r.argB ≤ 2 ^ 64))) ∧
    (r.kind = .scan → r.argA = 0 → addressFault r = false) ∧
    (r.kind = .scan → r.argA ≠ 0 → r.endTarget ≠ none →
      (addressFault r = true ↔ ¬(r.argA % 64 = 0 ∧ r.argA + 1024 ≤ 2 ^ 64))) ∧
    (r.kind = .scan → r.argA ≠ 0 → r.endTarget = none →
      (addressFault r = true ↔ ¬(r.argA % 64 = 0 ∧ r.argA + (min r.count 256 + 3) / 4 ≤ 2 ^ 64))) ∧
    (r.kind = .find ∨ r.kind = .index ∨ r.kind = .probe ∨ r.kind = .unmount ∨ r.kind = .cancel →
      addressFault r = false) := by
  refine ⟨addressFault_mount, fun h => ?_, fun h => ?_, fun h none' => ?_, fun h some' ends => ?_, fun h some' ends => ?_,
    fun h => ?_⟩
  · rw [addressFault, h, not_addressOk_iff]
  · rw [addressFault, h, not_addressOk_iff]
  · rw [← Bool.not_eq_true, addressFault_scan h]
    exact fun g => g.1 none'
  · rw [addressFault_scan h, Option.isSome_iff_ne_none.2 ends]
    exact and_iff_right some'
  · rw [addressFault_scan h, ends]
    exact and_iff_right some'
  · rcases h with h | h | h | h | h <;> rw [addressFault, h]

/-! ## The checks in their order (R28) -/

/-- The checks of a request of a known kind. -/
theorem validate_of_kind {bs : List Byte} {k : Kind} (h : kindOf (byteAt bs 2) = some k) (c : Core) :
    validate c bs =
      if byteAt bs 3 / 32 ≠ 0 then .refused .badRequest 0x02
      else if formAllowed k (byteAt bs 8) = false then .refused .badRequest 0x03
      else ((extentFault (requestCopy k bs) (byteAt bs 9)).or ((targetFault (requestCopy k bs)).or
        ((if addressFault (requestCopy k bs) then some 0x08 else none).or (argumentFault c (requestCopy k bs))))).elim
          (checkRoll c (requestCopy k bs)) (.refused .badRequest ·) := by
  simp only [validate, h]
  split
  · rfl
  · split
    · rfl
    · cases extentFault (requestCopy k bs) (byteAt bs 9) with
      | some d => rfl
      | none =>
        cases targetFault (requestCopy k bs) with
        | some d => rfl
        | none =>
          cases addressFault (requestCopy k bs) with
          | true => rfl
          | false => cases argumentFault c (requestCopy k bs) <;> rfl

/-- The fault of checks 4 to 8, in their order. -/
def argumentsFault (c : Core) (r : Request) (extent : Nat) : Option Nat :=
  (extentFault r extent).or ((targetFault r).or ((if addressFault r then some 0x08 else none).or (argumentFault c r)))

theorem validate_fault {c : Core} {bs : List Byte} {k : Kind} (h : kindOf (byteAt bs 2) = some k) (options : byteAt bs 3 < 32)
    (form : formAllowed k (byteAt bs 8) = true) {d : Nat} (fault : argumentsFault c (requestCopy k bs) (byteAt bs 9) = some d) :
    validate c bs = .refused .badRequest d := by
  rw [validate_of_kind h, if_neg (by omega), if_neg (by simp [form]), ← argumentsFault, fault]
  rfl

theorem validate_unfaulted {c : Core} {bs : List Byte} {k : Kind} (h : kindOf (byteAt bs 2) = some k)
    (options : byteAt bs 3 < 32) (form : formAllowed k (byteAt bs 8) = true)
    (none' : argumentsFault c (requestCopy k bs) (byteAt bs 9) = none) :
    validate c bs = checkRoll c (requestCopy k bs) := by
  rw [validate_of_kind h, if_neg (by omega), if_neg (by simp [form]), ← argumentsFault, none']
  rfl

/-! ## Check 6 -/

theorem targetFault_bad {r : Request} (h : r.kind.positional = true)
    (bad : r.target.valid = false ∨ (r.endTarget.getD r.target).valid = false) : targetFault r = some 0x06 := by
  rw [targetFault, if_pos h]
  exact if_pos (by rcases bad with bad | bad <;> simp [bad])

theorem targetFault_order {r : Request} {e : Target} (h : r.kind.positional = true) (he : r.endTarget = some e)
    (valid : r.target.valid = true) (ends : e.valid = true) (order : e.before r.target = true) :
    targetFault r = some 0x07 := by
  simp [targetFault, h, he, valid, ends, order, Det.endBeforeStart]

/-! ## Checks 8 and 9 of a MOUNT (R32) -/

theorem argumentFault_mount {r : Request} (h : r.kind = .mount) (c : Core) :
    (r.roll = 0 ∨ r.argA / 256 % 4 = 3 → argumentFault c r = some 0x09) ∧
    (r.roll ≠ 0 → r.argA / 256 % 4 ≠ 3 → r.argA % 256 = 0 ∨ c.roll.bayCount < r.argA % 256 →
      argumentFault c r = some 0x0A) ∧
    (r.roll ≠ 0 → 1 ≤ r.argA % 256 → r.argA % 256 ≤ c.roll.bayCount →
      (r.argA / 256 % 4 = 1 ∧ c.store.setA = none ∨ r.argA / 256 % 4 = 2 ∧ c.store.setB = none) →
      argumentFault c r = some 0x0D) := by
  refine ⟨fun bad => ?_, fun roll sel bay => ?_, fun roll low high empty => ?_⟩
  · rw [argumentFault, h]
    exact if_pos bad
  · rw [argumentFault, h]
    exact (if_neg (not_or.2 ⟨roll, sel⟩)).trans (if_pos bay)
  · have sel : r.argA / 256 % 4 ≠ 3 := by omega
    have bay : ¬(r.argA % 256 = 0 ∨ c.roll.bayCount < r.argA % 256) := by omega
    rw [argumentFault, h]
    refine ((if_neg (not_or.2 ⟨roll, sel⟩)).trans (if_neg bay)).trans ?_
    rcases empty with ⟨one, none'⟩ | ⟨two, none'⟩
    · simp [one, selectionSet, Store.get, none', Det.profileEmpty]
    · simp [two, selectionSet, Store.get, none', Det.profileEmpty]

theorem checkRoll_mount {r : Request} (h : r.kind = .mount) (c : Core) :
    checkRoll c r = ((mountFault c r).elim (.passed r 0) fun f => .refused f.1 f.2) := by
  rw [checkRoll, h]
  cases mountFault c r <;> rfl

/-- A roll bound to another bay refuses a MOUNT. -/
theorem mountFault_elsewhere {c : Core} {r : Request} {b : Nat} (h : c.roll.boundBay r.roll = some b)
    (ne : b ≠ r.argA % 256) : mountFault c r = some (.badRequest, 0x0C) := by
  simp [mountFault, h, ne, Det.rollBound]

/-- A roll that is bound to no other bay is mounted as its bay's state says. -/
theorem mountFault_here {c : Core} {r : Request}
    (h : c.roll.boundBay r.roll = none ∨ c.roll.boundBay r.roll = some (r.argA % 256)) : mountFault c r =
      match (c.roll.bay (r.argA % 256)).st with
      | .empty => some (.rollAbsent, 0x1B)
      | .failed => some (.changerFault, 0x52)
      | .loaded => none
      | .bound | .mounted => if (c.roll.bay (r.argA % 256)).roll = some r.roll then none else some (.badRequest, 0x0B) := by
  rcases h with h | h
  · simp only [mountFault, h] <;> rfl
  · simp only [mountFault, h, bne_self_eq_false] <;> rfl

/-! ## Check 9 of the other kinds (R27, R38) -/

/-- The kinds whose Roll ID is resolved. -/
def Kind.namesRoll (k : Kind) : Prop := k.positional = true ∨ k = .unmount ∨ k = .exportIndex

theorem checkRoll_names {r : Request} (h : r.kind.namesRoll) (c : Core) : checkRoll c r =
    match rollOf c r with
    | .passed q _ => clampCount q
    | v => v := by
  unfold checkRoll
  cases hk : r.kind with
  | mount | setProfile | cancel => rw [hk] at h; exact absurd h (by simp [Kind.namesRoll, Kind.positional])
  | _ => rfl

theorem checkRoll_refused {r : Request} (h : r.kind.namesRoll) {c : Core} {o : Res} {d : Nat}
    (refused : rollOf c r = .refused o d) : checkRoll c r = .refused o d := by
  rw [checkRoll_names h, refused]

theorem rollOf_unmounted {c : Core} {r : Request} (zero : r.roll = 0) (none' : c.roll.mounted = none) :
    rollOf c r = .refused .rollAbsent 0x19 := by
  simp [rollOf, zero, none', Det.noRollMounted]

theorem rollOf_unbound {c : Core} {r : Request} (some' : r.roll ≠ 0) (none' : c.roll.boundBay r.roll = none) :
    rollOf c r = .refused .rollAbsent 0x18 := by
  simp [rollOf, some', none', Det.notBound]

theorem rollOf_export {c : Core} {r : Request} {b : Nat} (kind : r.kind = .exportIndex) (some' : r.roll ≠ 0)
    (bound : c.roll.boundBay r.roll = some b) (ne : c.roll.mounted ≠ some b) :
    rollOf c r = .refused .rollAbsent 0x1A := by
  simp [rollOf, some', bound, kind, ne, Det.notMounted]

/-- A roll that is resolved passes, with the mounted roll's ID for a Roll ID of 0. -/
theorem rollOf_passed {c : Core} {r : Request} {roll : Nat}
    (h : r.roll = 0 ∧ c.roll.mounted ≠ none ∧ roll = c.mountedRoll ∨
      r.roll ≠ 0 ∧ roll = r.roll ∧ c.roll.boundBay r.roll ≠ none ∧
        (r.kind = .exportIndex → c.roll.boundBay r.roll = c.roll.mounted)) :
    rollOf c r = .passed { r with roll := roll } 0 := by
  rcases h with ⟨zero, some', rfl⟩ | ⟨some', rfl, bound, same⟩
  · obtain ⟨b, hb⟩ := Option.ne_none_iff_exists'.1 some'
    simp [rollOf, zero, hb]
  · obtain ⟨b, hb⟩ := Option.ne_none_iff_exists'.1 bound
    have mounted : ¬(r.kind = .exportIndex ∧ c.roll.mounted ≠ some b) := fun h => h.2 ((same h.1).symm.trans hb)
    simp only [rollOf, some', if_false, hb, if_neg mounted]

/-- Settles O23. -/
theorem addressesOfRequests : Obligations.AddressesOfRequests := by
  refine ⟨addressFault_rules, fun c bs h => by simp [validate, h, Det.unknownKind], fun c bs k r hk hr => ?_⟩
  have kind : r.kind = k := by rw [hr]; rfl
  refine ⟨fun options => ?_, fun options => ⟨fun form => ?_, fun form => ?_⟩⟩
  · rw [validate_of_kind hk, if_pos (by omega)]
  · rw [validate_of_kind hk, if_neg (by omega), if_pos form]
  have refuses {d : Nat} (h : argumentsFault c r (byteAt bs 9) = some d) : validate c bs = .refused .badRequest d :=
    validate_fault hk options form (hr ▸ h)
  refine ⟨fun extent => ?_, fun which extent count => ?_, fun noExtent => ?_⟩
  · refine refuses ?_
    rcases extent with ⟨rfl, h⟩ | ⟨rfl, h⟩
    · simp [argumentsFault, extentFault, kind, h, Det.badExtent]
    · simp [argumentsFault, extentFault, kind, h, Det.badExtent]
  · refine refuses ?_
    rcases which with rfl | rfl
    · simp [argumentsFault, extentFault, kind, extent, count, Det.countZero]
    · simp [argumentsFault, extentFault, kind, extent, count, Det.countZero]
  have refuses {d : Nat} (h : (targetFault r).or ((if addressFault r then some 0x08 else none).or (argumentFault c r)) =
      some d) : validate c bs = .refused .badRequest d := refuses (by rw [argumentsFault, noExtent, Option.none_or, h])
  have badTarget (h : k.positional = true) (bad : r.target.valid = false ∨ (r.endTarget.getD r.target).valid = false) :
      validate c bs = .refused .badRequest 0x06 := refuses (by rw [targetFault_bad (kind ▸ h) bad, Option.some_or])
  refine ⟨fun n h target bad => badTarget h (.inl ?_), fun x h target bad => badTarget h (.inl ?_),
    fun e h ends valid bad => badTarget (h ▸ rfl) (.inr (by rw [ends]; exact bad)),
    fun e h ends valid valid' order => refuses ?_, fun noTarget => ?_⟩
  · rw [target, Target.valid, decide_eq_false_iff_not]; omega
  · rw [target, Target.valid, decide_eq_false_iff_not]; omega
  · rw [targetFault_order (by rw [kind, h]; rfl) ends valid valid' order, Option.some_or]
  have refuses {d : Nat} (h : (if addressFault r then some 0x08 else none).or (argumentFault c r) = some d) :
      validate c bs = .refused .badRequest d := refuses (by rw [noTarget, Option.none_or, h])
  refine ⟨fun address => refuses (by rw [address]; rfl), fun address => ?_⟩
  have refuses {d : Nat} (h : argumentFault c r = some d) : validate c bs = .refused .badRequest d :=
    refuses (by rw [address]; exact h)
  refine ⟨fun h bad => refuses ((argumentFault_mount (kind.trans h) c).1 bad),
    fun h big => refuses (by rw [argumentFault, kind, h]; exact if_pos big),
    fun h roll sel bay => refuses ((argumentFault_mount (kind.trans h) c).2.1 roll sel bay),
    fun h roll low high empty => refuses ((argumentFault_mount (kind.trans h) c).2.2 roll low high empty), fun noArgument => ?_⟩
  have checked : validate c bs = checkRoll c r := by
    rw [hr]
    rw [hr] at noExtent noTarget address noArgument
    exact validate_unfaulted hk options form (by
      rw [argumentsFault, noExtent, noTarget, address, noArgument]; rfl)
  rw [checked]
  refine ⟨fun b h bound ne => ?_, fun h here => ?_, fun h => ?_, fun h => ?_⟩
  · rw [checkRoll_mount (kind.trans h), mountFault_elsewhere bound ne]; rfl
  · rw [checkRoll_mount (kind.trans h), mountFault_here here]
    refine ⟨fun st => by rw [st]; rfl, fun st => by rw [st]; rfl, fun st => by rw [st]; rfl, fun st => ?_⟩
    rcases st with st | st <;> rw [st] <;> dsimp only <;> split <;> rfl
  · rcases h with h | h <;> rw [checkRoll, kind, h]
  · have names : r.kind.namesRoll := by rw [kind]; exact h
    refine ⟨fun zero none' => checkRoll_refused names (rollOf_unmounted zero none'),
      fun some' none' => checkRoll_refused names (rollOf_unbound some' none'),
      fun b h some' bound ne => checkRoll_refused names (rollOf_export (kind.trans h) some' bound ne), fun roll resolved => ?_⟩
    rw [checkRoll_names names, rollOf_passed (by rw [kind]; exact resolved)]
    simp only [clampCount, kind, Option.isNone_iff_eq_none]

end Sys2Proof.Machine
end

section
/-! SUPPORT. Grants of the memory port (R144), and the end of a Return's writes (R18, R20). -/

namespace Sys2Proof.Machine

/-! ## Grants -/

/-- The core whose port has issued a requester's transaction. -/
def Core.granted (c : Core) (r : Requester) (x : Transaction) : Core :=
  c.setPort { c.port with last := r, issued := some x }

/-- A grant to a requester other than the Status Writer is the issue in its block. -/
theorem State.exec_grant {s : State} {r : Requester} {x : Transaction} (hm : s.core.modes.mode ≠ .held)
    (hw : r ≠ .statusWriter) (h : s.arbitrate = some (r, x)) :
    exec .memoryPortGrant s = .next (s.runCore fun c => (c.granted r x).issued r) := by
  have granted : s.grant r x = s.runCore fun c => (c.granted r x).issued r := by
    rw [State.runCore_awake _ hm, State.grant]
    simp only [hw, if_false]
    exact State.runCore_awake (s := { s with core := s.core.granted r x }) _ hm
  simp only [exec, execMemoryPortGrant, hm, if_false, h, granted]

/-- What the arbiter chose is what the requester offers. -/
theorem State.offer_of_arbitrate {s : State} {r : Requester} {x : Transaction} (h : s.arbitrate = some (r, x)) :
    s.offer r = some x := (State.firstReady_eq_some h).1

/-! ## NOTIFY (R20) -/

/-- Raising a cause leaves the other causes and the Fault Queue. -/
theorem Front.raiseReturn_fields (c : Core) (f : Front) : (f.raiseReturn c).causeReturn = true ∧
    (f.raiseReturn c).causeFault = f.causeFault := by
  obtain ⟨-, -, -, ret, fault, -⟩ := Front.causeRaised_fields c { f with causeReturn := true }
  exact ⟨ret, fault⟩

/-- The Return Stamp's end of a request in the Request Manager, before NOTIFY counts. -/
def ReqMgr.ended (m : ReqMgr) (r : Return) : ReqMgr :=
  { m with
    slots := setAt m.slots r.slot .lookable
    pendingSet := m.pendingSet.filter fun q => !decide (q.slot = r.slot ∧ q.stamp = r.stamp)
    loading := m.loading.filter fun q => !decide (q.slot = r.slot ∧ q.stamp = r.stamp)
    pass := if r.endsPass then none else m.pass }

/-- The core of an ended request, before NOTIFY counts. -/
def Core.requestEnded (c : Core) (r : Return) : Core :=
  { c with
    rm := c.rm.ended r
    store := { c.store with load := c.store.load.filter fun q => !decide (q.slot = r.slot ∧ q.stamp = r.stamp) }
    out := c.out ++ if r.endsPass then [.snapshot { passEnd := true } false] else [] }

theorem Core.returned_eq (c : Core) (r : Return) :
    c.returned r = if r.notify then (c.requestEnded r).notify else c.requestEnded r := by
  have ended : (if r.endsPass then ((c.setRm (c.rm.ended r)).setStore { c.store with
      load := c.store.load.filter fun q => !decide (q.slot = r.slot ∧ q.stamp = r.stamp) }).trigger { passEnd := true } false
      else (c.setRm (c.rm.ended r)).setStore { c.store with
      load := c.store.load.filter fun q => !decide (q.slot = r.slot ∧ q.stamp = r.stamp) }) = c.requestEnded r := by
    unfold Core.requestEnded
    split
    · rfl
    · rw [List.append_nil]; rfl
  rw [← ended]
  rfl

/-- The count's reaching Return Count raises RETURN. -/
theorem Core.notify_raises {c : Core} (h : c.port.setup.returnCount ≤ c.rm.notifyCount + 1) :
    c.notify = (c.setRm { c.rm with notifyCount := 0, returnDelay := none }).send .returnCause := if_pos h

/-- Below Return Count the delay is armed. -/
theorem Core.notify_arms {c : Core} (h : c.rm.notifyCount + 1 < c.port.setup.returnCount) :
    c.notify = c.setRm { c.rm with
      notifyCount := c.rm.notifyCount + 1
      returnDelay := if c.rm.returnDelay = none ∧ c.port.setup.returnDelay ≠ 0 then some c.now else c.rm.returnDelay } := by
  refine (if_neg (by omega)).trans ?_
  simp only [Option.isNone_iff_eq_none, Core.tick]

/-- What a Return's end leaves, NOTIFY or not. -/
theorem Core.returned_fields (c : Core) (r : Return) :
    (c.returned r).rm.slots = (c.rm.ended r).slots ∧ (c.returned r).rm.pendingSet = (c.rm.ended r).pendingSet ∧
    (c.returned r).rm.pass = (c.rm.ended r).pass ∧ (c.returned r).port = c.port ∧ (c.returned r).cap = c.cap ∧
    (c.returned r).sig = c.sig := by
  rw [Core.returned_eq]
  cases r.notify with
  | false => exact ⟨rfl, rfl, rfl, rfl, rfl, rfl⟩
  | true =>
    by_cases h : (c.requestEnded r).port.setup.returnCount ≤ (c.requestEnded r).rm.notifyCount + 1
    · rw [if_pos rfl, Core.notify_raises h]
      exact ⟨rfl, rfl, rfl, rfl, rfl, rfl⟩
    · rw [if_pos rfl, Core.notify_arms (Nat.not_le.1 h)]
      exact ⟨rfl, rfl, rfl, rfl, rfl, rfl⟩

/-- The end of a request makes no pass's end due. -/
theorem Core.returned_endDue {c : Core} (r : Return) (h : c.endDue = false) : (c.returned r).endDue = false := by
  obtain ⟨-, -, pass, -, cap, -⟩ := c.returned_fields r
  cases he : r.endsPass with
  | true => exact Core.endDue_of_no_pass (pass.trans (if_pos he))
  | false =>
    rw [Core.endDue_of_pass (c := c) (pass.trans (if_neg (by simp [he]))) cap, h]

/-- The causes after what a Return's end sent: the PASS_END snapshot, and RETURN where the count was reached. -/
theorem State.leaves_returned (s : State) {d : Core} {ends raises : Bool}
    (out : d.out = (if ends then [.snapshot { passEnd := true } false] else []) ++ if raises then [.returnCause] else []) :
    (s.leaves d).front.causeReturn = (s.front.causeReturn || raises) := by
  obtain ⟨-, -, -, ret, -⟩ := Front.trigger_fields d.idleFollow.escalationFollow s.front { passEnd := true } false
  have raised (f : Front) := (Front.raiseReturn_fields d.idleFollow.escalationFollow f).1
  cases ends <;> cases raises <;> simp [State.leaves, State.flush, out, Front.take, ret, raised]

/-- Settles O33. -/
theorem returnsEndRequestsAndNotify : Obligations.ReturnsEndRequestsAndNotify := by
  refine ⟨fun r rest x s hr hres two arb inside => ?_, fun x s hr hd => ?_, fun s hr hd => ?_⟩
  · have prepared : s.core.resultPrepare = s.core := by simp [Core.resultPrepare, hres, two]
    have written : x = .write .resultWriter (slotAddress (s.core.port.workArea.getD 0) r.slot 0x42) (bytesOf 2 r.stamp) := by
      have := State.offer_of_arbitrate arb
      simp only [State.offer, prepared, Core.resultWrite, hres, two, Option.map_some, Option.some.injEq] at this
      exact this.symm
    obtain ⟨c, hc⟩ : ∃ c, c = (s.core.granted .resultWriter x).setPort { (s.core.granted .resultWriter x).port with
      results := rest } := ⟨_, rfl⟩
    have effect : (s.core.granted .resultWriter x).issued .resultWriter = c.returned r := by
      have prepared : (s.core.granted .resultWriter x).resultPrepare = s.core.granted .resultWriter x := by
        simp [Core.resultPrepare, Core.granted, hres, two]
      rw [Core.issued, prepared, hc]
      simp [Core.resultIssued, Core.granted, hres, two]
    obtain ⟨slots, pending, pass, port, cap, sig⟩ := c.returned_fields r
    have due : c.endDue = false := by rw [hc]; exact s.ready_endDue hr
    have run := State.runCore_ready (f := fun c => (c.granted .resultWriter x).issued .resultWriter) hr effect
      (sig.trans (by rw [hc]; exact s.ready_sig hr)) (Core.returned_endDue r due)
    have rm : c.rm = s.core.rm := by rw [hc]; rfl
    have setup : c.port.setup = s.core.port.setup := by rw [hc]; rfl
    have out : c.out = [] := by rw [hc]; exact s.ready_out hr
    have now : c.now = s.core.now := by rw [hc]; rfl
    refine ⟨written, s.leaves (c.returned r),
      (State.exec_grant (s.ready_mode hr) (by decide) arb).trans (congrArg Host.Outcome.next run), ?_, ?_, ?_, ?_, ?_, ?_, ?_,
      ?_, ?_, ?_⟩
    · rw [State.leaves_results, port, hc]; rfl
    · exact (congrArg Port.issued port).trans (by rw [hc]; rfl)
    · rw [State.leaves_rm, slots, rm]
      exact (getElem?_setAt _ _ _ _).trans (if_pos ⟨rfl, inside⟩)
    · intro m hm
      rw [State.leaves_rm, slots, rm]
      exact (getElem?_setAt _ _ _ _).trans (if_neg fun h => hm h.1)
    · intro q
      rw [State.leaves_rm, pending, rm, ReqMgr.ended, List.mem_filter, Bool.not_eq_true', decide_eq_false_iff_not,
        not_and_or]
    · intro ends
      rw [State.leaves_rm, pass]
      exact if_pos ends
    · intro goes
      rw [State.leaves_rm, pass, rm]
      exact if_neg (by simp [goes])
    · intro quiet
      have plain : c.returned r = c.requestEnded r := by rw [Core.returned_eq, quiet]; rfl
      rw [plain, ← rm]
      refine ⟨rfl, rfl, ?_⟩
      rw [s.leaves_returned (ends := r.endsPass) (raises := false), Bool.or_false]
      rw [Core.requestEnded, out]
      simp
    · intro counts reached
      have raises : c.returned r = _ := (c.returned_eq r).trans ((if_pos counts).trans
        (Core.notify_raises (c := c.requestEnded r) (by rw [← setup, ← rm] at reached; exact reached)))
      rw [raises]
      refine ⟨rfl, rfl, ?_⟩
      rw [s.leaves_returned (ends := r.endsPass) (raises := true), Bool.or_true]
      change (c.out ++ _) ++ _ = _
      rw [out]; rfl
    · intro counts below
      have arms : c.returned r = _ := (c.returned_eq r).trans ((if_pos counts).trans
        (Core.notify_arms (c := c.requestEnded r) (by rw [← setup, ← rm] at below; exact below)))
      rw [arms, ← setup, ← rm, ← now]
      refine ⟨rfl, ?_, rfl⟩
      rw [s.leaves_returned (ends := r.endsPass) (raises := false), Bool.or_false]
      change c.out ++ _ = _
      rw [out]
      simp
  · have effect : s.core.returnDelayOver =
        (s.core.setRm { s.core.rm with notifyCount := 0, returnDelay := none }).send .returnCause := by
      simp [Core.returnDelayOver, hd]
    have out : ((s.core.setRm { s.core.rm with notifyCount := 0, returnDelay := none }).send .returnCause).out =
        [.returnCause] := by
      change s.core.out ++ _ = _
      rw [s.ready_out hr, List.nil_append]
    obtain ⟨ret, fault⟩ := Front.raiseReturn_fields
      ((s.core.setRm { s.core.rm with notifyCount := 0, returnDelay := none }).send .returnCause).idleFollow.escalationFollow
      s.front
    refine ⟨_, congrArg Host.Outcome.next (State.runCore_ready hr effect (s.ready_sig hr) (s.ready_endDue hr)), rfl, ?_, ?_,
      rfl, rfl⟩
    · rw [s.leaves_front_one out]; exact ret
    · rw [s.leaves_front_one out]; exact fault
  · exact congrArg Host.Outcome.next (State.runCore_leaves hr (by simp [Core.returnDelayOver, hd]) rfl rfl rfl)

end Sys2Proof.Machine
end

section
/-!
SUPPORT. Settling report by report; the head of the accessory link and its result (R185 to R193), and the lamp's
transactions and counts (R145, R146).
-/

namespace Sys2Proof.Machine

/-! ## Settling -/

/-- In `n` reports, taken oldest first with those they bring about behind them, the core `c` comes to rest as `d`. -/
inductive Core.Settles : Nat → Core → Core → Prop
  | quiet {c : Core} (h : c.sig = []) : Core.Settles 0 c c
  | report {n : Nat} {c d : Core} {x : Signal} {l : List Signal} (h : c.sig = x :: l)
      (k : Core.Settles n ({ c with sig := l }.handle x) d) : Core.Settles (n + 1) c d

theorem Core.Settles.settleFrom {n : Nat} {c d : Core} (h : Core.Settles n c d) :
    ∀ m, n ≤ m → Core.settleFrom m c = d.tryEnd := by
  induction h with
  | quiet h => exact fun m _ => Core.settleFrom_nil m h
  | report h _ ih =>
    intro m hm
    cases m with
    | zero => cases hm
    | succ m => exact (Core.settleFrom_cons m h).trans (ih m (Nat.le_of_succ_le_succ hm))

theorem Core.emit_taken {d : Core} (x : Signal) (h : d.sig = []) : { d.emit x with sig := [] } = d := by
  obtain ⟨_, _, _, _, _, _, _, _, _, _, _, _, sig, _⟩ := d
  cases h
  rfl

/-- One report of a core that had none. -/
theorem Core.Settles.emit {n : Nat} {d e : Core} {x : Signal} (h : d.sig = []) (k : Core.Settles n (d.handle x) e) :
    Core.Settles (n + 1) (d.emit x) e := by
  refine .report (x := x) (l := []) (by rw [Core.emit, h]; rfl) ?_
  rw [Core.emit_taken x h]
  exact k

/-- What settling leaves, with the end of a pass made where it is due. -/
theorem State.runCore_settles_end {s : State} {f : Core → Core} {c d : Core} {n : Nat} (hr : s.ready = true)
    (hf : f s.core = c) (h : Core.Settles n c d) (few : n ≤ 65536) : s.runCore f = s.leaves d.tryEnd := by
  subst hf
  rw [State.runCore_awake f (s.ready_mode hr), Core.settle, h.settleFrom 65536 few]
  rfl

theorem State.runCore_settles {s : State} {f : Core → Core} {c d : Core} {n : Nat} (hr : s.ready = true)
    (hf : f s.core = c) (h : Core.Settles n c d) (few : n ≤ 65536) (due : d.endDue = false) : s.runCore f = s.leaves d := by
  rw [State.runCore_settles_end hr hf h few, Core.tryEnd_of_not_due due]

/-- A ready part's effect that makes one report, answered by none. -/
theorem State.runCore_emit {s : State} {f : Core → Core} {c d : Core} {x : Signal} (hr : s.ready = true)
    (hf : f s.core = c.emit x) (sig : c.sig = []) (result : c.handle x = d) (quiet : d.sig = []) (due : d.endDue = false) :
    s.runCore f = s.leaves d := by
  subst result
  exact State.runCore_settles hr hf (.emit sig (.quiet quiet)) (show 0 + 1 ≤ 65536 by decide) due

/-- A second look at the strobe conditions, where nothing would strobe. -/
theorem Core.Settles.tryStrobe {d : Core} (h : d.sig = []) (hs : d.strobeless = true) :
    Core.Settles 1 (d.emit .tryStrobe) d := by
  refine .emit h ?_
  rw [show d.handle .tryStrobe = d from Core.tryStrobe_strobeless hs]
  exact .quiet h

/-! ## The head on the wire (R186) -/

theorem Core.onWire_iff (c : Core) (item : LinkItem) : c.onWire item = true ↔
    c.link.opened = true ∧ c.modes.mode ≠ .failed ∧ c.link.st = .address ∧ ∃ rest, c.link.queue = item :: rest := by
  simp only [Core.onWire, Bool.and_eq_true, bne_iff_ne, beq_iff_eq, and_assoc, List.head?_eq_some_iff]

/-- A link that takes part in the bus. -/
theorem Core.onLink_up {c : Core} (opened : c.link.opened = true) (mode : c.modes.mode ≠ .failed)
    (up : c.link.st ≠ .down) (f : Core → Core) : c.onLink f = f c := by
  simp [Core.onLink, Core.when, Core.linkDead, opened, mode, up]

theorem Core.onLink_onWire {c : Core} {item : LinkItem} (h : c.onWire item = true) (f : Core → Core) :
    c.onLink f = f c := by
  obtain ⟨opened, mode, st, -⟩ := (c.onWire_iff item).1 h
  exact Core.onLink_up opened mode (by rw [st]; decide) f

/-- The head's end frees the link, and is told to its requester. -/
theorem Core.linkEnd_head {c : Core} {item : LinkItem} {rest : List LinkItem} (h : c.link.queue = item :: rest)
    (bytes : List Byte) (d : Option LinkDetail) :
    c.linkEnd bytes d = c.linkFreed.emit (.linkResult item bytes d) := by
  simp only [Core.linkEnd, h]
  rfl

/-- The core that has queued the fault of a failed head. -/
theorem Core.linkFault_queued {c : Core} {item : LinkItem} {d : LinkDetail} {n : FaultName} (by' : item.by' ≠ .startUp)
    (h : d.faultName = some n) (low : Nat) : c.linkFault item d low =
      c.fault n .link (item.msg.target * 65536 + item.msg.code * 256 + low) (BitVec.ofNat 28 item.by'.code) := by
  unfold Core.linkFault
  cases hb : item.by' with
  | startUp => exact absurd hb by'
  | _ => rw [h]

theorem Core.linkWrite_ack {c : Core} {item : LinkItem} {isMsg : LinkMsg → Bool} (h : c.onWire item = true)
    (msg : isMsg item.msg = true) :
    (c.onLink fun c => c.linkWrite isMsg none) = c.linkFreed.emit (.linkResult item [] none) := by
  obtain ⟨-, -, st, rest, queue⟩ := (c.onWire_iff item).1 h
  rw [Core.onLink_onWire h, ← Core.linkEnd_head queue]
  simp only [Core.linkWrite, st, queue, msg, if_true]

theorem Core.linkWrite_nak {c : Core} {item : LinkItem} {isMsg : LinkMsg → Bool} {k : Nat} (h : c.onWire item = true)
    (msg : isMsg item.msg = true) (low : 1 ≤ k) (high : k ≤ item.msg.bytes.length) :
    (c.onLink fun c => c.linkWrite isMsg (some k)) =
      (c.linkFault item .dataNak k).linkEnd [] (some .dataNak) := by
  obtain ⟨-, -, st, rest, queue⟩ := (c.onWire_iff item).1 h
  rw [Core.onLink_onWire h]
  simp only [Core.linkWrite, st, queue, msg, if_true, low, high, and_self, Core.linkFail]

theorem Core.linkRead_ends {c : Core} {item : LinkItem} {isMsg : LinkMsg → Bool} (h : c.onWire item = true)
    (msg : isMsg item.msg = true) (bytes : List Byte) :
    (c.onLink fun c => c.linkRead isMsg bytes) =
      c.linkFreed.emit (.linkResult item (bytes.take item.msg.readCount) none) := by
  obtain ⟨-, -, st, rest, queue⟩ := (c.onWire_iff item).1 h
  rw [Core.onLink_onWire h, ← Core.linkEnd_head queue]
  simp only [Core.linkRead, st, queue, msg, if_true]

/-- A failed head of a requester other than the start-up logic: its fault is queued, the link is free, and the failure is
told. -/
theorem Core.linkFault_linkEnd {c : Core} {item : LinkItem} {d : LinkDetail} {n : FaultName}
    (head : ∃ rest, c.link.queue = item :: rest) (by' : item.by' ≠ .startUp) (name : d.faultName = some n) (low : Nat) :
    (c.linkFault item d low).linkEnd [] (some d) =
      (c.linkFreed.fault n .link (item.msg.target * 65536 + item.msg.code * 256 + low)
        (BitVec.ofNat 28 item.by'.code)).emit (.linkResult item [] (some d)) := by
  obtain ⟨rest, head⟩ := head
  rw [Core.linkFault_queued by' name]
  exact Core.linkEnd_head (c := c.fault n .link _ _) head [] (some d)

/-! ## The lamp (R145, R146) -/

theorem Core.handle_lampResult (c : Core) (msg : LinkMsg) (bytes : List Byte) (d : Option LinkDetail) :
    c.handle (.linkResult { msg := msg, by' := .captureUnit } bytes d) = c.lampResult msg bytes d.isSome := rfl

/-- The lamp once it is READY. -/
def Lamp.ready (l : Lamp) : Lamp := { l.newRecord with st := .ready, fixed := none }

theorem Core.lampReady_eq (c : Core) : c.lampReady = (c.setLamp c.cap.lamp.ready).emit .tryStrobe := rfl

/-- A core with its lamp READY settles where nothing strobes. -/
theorem Core.Settles.lampReady {c : Core} (h : c.sig = []) (hs : c.strobeless = true) :
    Core.Settles 1 c.lampReady (c.setLamp c.cap.lamp.ready) := by
  rw [Core.lampReady_eq]
  exact .tryStrobe h hs

/-- One fault sent by a core that had sent nothing. -/
theorem State.leaves_fault (s : State) {d : Core} {e : FaultEntry} (out : d.out = [.fault e]) :
    (s.leaves d).front.faults = s.front.queued e := by
  rw [s.leaves_front_one out]
  exact Front.raiseFault_faults _ _ e

theorem Core.fault_out_alone {c : Core} (h : c.out = []) (name : FaultName) (source : Source) (info : Nat) (aux : BitVec 28) :
    (c.fault name source info aux).out = [.fault ⟨name, source, BitVec.ofNat 24 info, aux⟩] := by
  rw [Core.fault, Core.send, h]; rfl

/-- A lamp transaction that ends well on the wire. -/
theorem State.runCore_lampAck {s : State} {msg : LinkMsg} {isMsg : LinkMsg → Bool} (hr : s.ready = true)
    (h : s.core.onWire { msg := msg, by' := .captureUnit } = true) (kind : isMsg msg = true)
    (same : s.core.linkFreed.lampResult msg [] false = s.core.linkFreed) :
    (s.runCore fun c => c.onLink fun c => c.linkWrite isMsg none) = s.leaves s.core.linkFreed :=
  State.runCore_emit hr (Core.linkWrite_ack h kind) (s.ready_sig hr) same (s.ready_sig hr) (s.ready_endDue hr)

/-- A lamp transaction whose byte `k` is answered NAK. -/
theorem State.runCore_lampNak {s : State} {msg : LinkMsg} {isMsg : LinkMsg → Bool} {k : Nat} {d : Core} (hr : s.ready = true)
    (h : s.core.onWire { msg := msg, by' := .captureUnit } = true) (kind : isMsg msg = true) (low : 1 ≤ k)
    (high : k ≤ msg.bytes.length)
    (result : (s.core.linkFreed.fault .linkDataNak .link (msg.target * 65536 + msg.code * 256 + k) 2).lampResult msg [] true =
      d) (sig : d.sig = s.core.sig) (due : d.endDue = s.core.endDue)
    (out : d.out = (s.core.linkFreed.fault .linkDataNak .link (msg.target * 65536 + msg.code * 256 + k) 2).out) :
    (s.runCore fun c => c.onLink fun c => c.linkWrite isMsg (some k)) = s.leaves d ∧
      (s.leaves d).front.faults =
        s.front.queued ⟨.linkDataNak, .link, BitVec.ofNat 24 (msg.target * 65536 + msg.code * 256 + k), 2⟩ := by
  have effect := (Core.linkWrite_nak h kind low high).trans (Core.linkFault_linkEnd (n := .linkDataNak)
    ((s.core.onWire_iff _).1 h).2.2.2 (fun h => LinkRequester.noConfusion h) rfl k)
  exact ⟨State.runCore_emit hr effect (s.ready_sig hr) result (sig.trans (s.ready_sig hr)) (due.trans (s.ready_endDue hr)),
    s.leaves_fault (out.trans (Core.fault_out_alone (s.ready_out hr) ..))⟩

/-- The answer to a LAMP STATUS of the present record, and a stale one. -/
theorem Core.lampResult_status (c : Core) (n : Nat) (a d : Byte) :
    (c.cap.lamp.polling = true → c.cap.lamp.serial = n → a.toNat % 2 = 1 →
      c.lampResult (.lampStatus n) [a, d] false = c.lampReady) ∧
    (c.cap.lamp.polling = true → c.cap.lamp.serial = n → a.toNat % 2 = 0 →
      c.lampResult (.lampStatus n) [a, d] false = c.setLamp { c.cap.lamp with pollTimer := some c.now }) ∧
    (c.cap.lamp.polling = false ∨ c.cap.lamp.serial ≠ n → c.lampResult (.lampStatus n) [a, d] false = c) := by
  have byte : byteAt [a, d] 0 = a.toNat := rfl
  refine ⟨fun polls same found => ?_, fun polls same found => ?_, fun stale => ?_⟩
  · simp [Core.lampResult, polls, same, byte, found]
  · simp [Core.lampResult, polls, same, byte, found, Core.setLamp, Core.tick]
  · rcases stale with h | h <;> simp [Core.lampResult, h]

/-- Settles O52. -/
theorem lampTransactionsEnd : Obligations.LampTransactionsEnd := by
  refine ⟨fun i s hr h => ⟨?_, fun k hk => ?_⟩, fun s hr h => ⟨?_, ?_⟩, fun n a d s hr h => ⟨?_, ?_, ?_⟩⟩
  · exact congrArg Host.Outcome.next (State.runCore_lampAck hr h rfl rfl)
  · obtain ⟨run, faults⟩ := State.runCore_lampNak (k := k) hr h (isMsg := LinkMsg.isLampSet) rfl (by omega)
      (show k ≤ 2 by omega) rfl rfl rfl rfl
    exact ⟨_, congrArg Host.Outcome.next run, rfl, rfl, rfl, rfl, faults⟩
  · exact congrArg Host.Outcome.next (State.runCore_lampAck hr h rfl rfl)
  · obtain ⟨run, faults⟩ := State.runCore_lampNak (k := 1) hr h (isMsg := LinkMsg.isLampOff) rfl (by omega) (by decide) rfl rfl
      rfl rfl
    exact ⟨_, congrArg Host.Outcome.next run, rfl, rfl, faults⟩
  all_goals
    obtain ⟨ready, waits, stale⟩ := s.core.linkFreed.lampResult_status n a d
    have effect := Core.linkRead_ends h (isMsg := LinkMsg.isLampStatus) rfl [a, d]
  · exact fun polls same found => congrArg Host.Outcome.next (State.runCore_emit hr effect (s.ready_sig hr)
      (waits polls same found) (s.ready_sig hr) (s.ready_endDue hr))
  · intro polls same found quiet
    have run := State.runCore_settles (f := fun c => c.onLink fun c => c.linkRead LinkMsg.isLampStatus [a, d])
      (d := s.core.linkFreed.setLamp s.core.linkFreed.cap.lamp.ready) hr effect
      (.emit (s.ready_sig hr) (by
        change Core.Settles 1 (s.core.linkFreed.lampResult (.lampStatus n) [a, d] false) _
        rw [ready polls same found]
        exact .lampReady (c := s.core.linkFreed) (s.ready_sig hr) quiet))
      (show 1 + 1 ≤ 65536 by decide) (s.ready_endDue hr)
    exact ⟨_, congrArg Host.Outcome.next run, rfl, rfl, rfl, rfl, rfl, rfl, s.leaves_front (s.ready_out hr)⟩
  · exact fun old => congrArg Host.Outcome.next (State.runCore_emit hr effect (s.ready_sig hr) (stale old) (s.ready_sig hr)
      (s.ready_endDue hr))

/-! ## The lamp's counts -/

theorem Core.when_true {c : Core} {b : Bool} (h : b = true) (f : Core → Core) : c.when b f = f c := by rw [Core.when, h]; rfl

theorem Core.when_false {c : Core} {b : Bool} (h : b = false) (f : Core → Core) : c.when b f = c := by rw [Core.when, h]; rfl

/-- Settles O53. -/
theorem lampCountsExpire : Obligations.LampCountsExpire := by
  intro x s hr
  refine ⟨fun runs up room => ?_, fun runs quiet => ?_, fun runs quiet => ?_, fun rest => ?_, fun rest => ?_, fun rest => ?_⟩
  · exact congrArg Host.Outcome.next (State.exec_quiet hr ((Core.when_true (by rw [runs]; rfl) Core.lampAgain).trans
      (Core.submit_queued (c := s.core.setLamp { s.core.cap.lamp with pollTimer := none }) _ up room)) rfl rfl rfl).1
  · have run := State.runCore_settles (f := fun c => c.when c.cap.lamp.pollLimit.isSome Core.lampLate) hr
      (Core.when_true (by rw [runs]; rfl) Core.lampLate)
      (.lampReady (c := s.core.fault .lampTimeout .captureUnit s.core.cap.lamp.lastSent 0) (s.ready_sig hr) quiet)
      (by decide) (s.ready_endDue hr)
    exact ⟨_, congrArg Host.Outcome.next run, rfl, rfl, rfl, rfl, s.leaves_fault (Core.fault_out_alone (s.ready_out hr) ..)⟩
  · have run := State.runCore_settles (f := fun c => c.when c.cap.lamp.fixed.isSome Core.lampReady) hr
      (Core.when_true (by rw [runs]; rfl) Core.lampReady) (.lampReady (s.ready_sig hr) quiet) (by decide) (s.ready_endDue hr)
    exact ⟨_, congrArg Host.Outcome.next run, rfl, rfl, rfl, s.leaves_front (s.ready_out hr)⟩
  all_goals
    exact congrArg Host.Outcome.next (State.runCore_leaves hr (Core.when_false (by rw [rest]; rfl) _) rfl rfl rfl)

/-! ## The head's retries (R188) and the bus-free time (R187) -/

/-- A link whose stretched head has left, of the Capture Unit's LAMP OFF: nothing follows its result. -/
theorem Core.handle_lampOff (c : Core) (bytes : List Byte) (d : Option LinkDetail) :
    c.handle (.linkResult { msg := .lampOff, by' := .captureUnit } bytes d) = c := rfl

/-- The stretched head leaves once SCL has risen. -/
theorem Core.linkStopSent_stretch {c : Core} {item : LinkItem} {rest : List LinkItem} (st : c.link.st = .stop)
    (queue : c.link.queue = item :: rest) :
    c.linkStopSent = (c.setLink { c.link with lowCount := none }).linkFreed.emit (.linkResult item [] c.link.failed) := by
  rw [Core.linkStopSent, if_pos st]
  exact Core.linkEnd_head (c := c.setLink { c.link with lowCount := none }) queue [] c.link.failed

theorem Core.linkStopSent_of_ne {c : Core} (st : c.link.st ≠ .stop) : c.linkStopSent = c := if_neg st

/-- The bus-free time after a stretch: the head leaves, and the next goes to the wire. -/
theorem Core.linkBusFree_stretch {c : Core} {item : LinkItem} {rest : List LinkItem} (st : c.link.st = .stop)
    (queue : c.link.queue = item :: rest) (waiting : c.link.waiting = []) :
    c.linkBusFree = (c.setLink { c.link with
      queue := rest, retries := 0, losses := 0, moved := 0, retryWait := none, failed := none
      freeCount := some c.now, lowCount := none, st := if rest = [] then .idle else .address }).emit
        (.linkResult item [] c.link.failed) := by
  rw [Core.linkBusFree, Core.linkStopSent_stretch st queue]
  cases rest with
  | nil => simp [Core.linkFreed, Link.dropHead, Link.resting, Core.emit, Core.setLink, queue, waiting]
  | cons y l => simp [Core.linkFreed, Link.dropHead, Link.resting, Core.emit, Core.setLink, queue, waiting, Core.linkStart,
      Core.tick]

/-- A failed lamp transaction changes at most the lamp. -/
theorem Core.lampResult_failed (c : Core) (msg : LinkMsg) : ∃ lamp, c.lampResult msg [] true = c.setLamp lamp := by
  cases msg with
  | lampSet i => exact ⟨_, rfl⟩
  | lampStatus n => exact ⟨_, rfl⟩
  | _ => exact ⟨c.cap.lamp, rfl⟩

/-- Settles O54. -/
theorem linkRetriesAfterNak : Obligations.LinkRetriesAfterNak := by
  intro item s hr
  refine ⟨fun h few => ?_, fun h many by' => ?_, fun opened mode st waits => ?_, fun opened mode check st => ?_,
    fun rest opened mode check st failed waiting queue => ?_, fun check => ?_⟩
  · obtain ⟨-, -, st, -⟩ := (s.core.onWire_iff item).1 h
    refine congrArg Host.Outcome.next (State.runCore_leaves hr ((Core.onLink_onWire h _).trans ?_) rfl rfl rfl)
    simp [Core.linkNak, st, few, Core.tick]
  · obtain ⟨-, -, st, head⟩ := (s.core.onWire_iff item).1 h
    obtain ⟨msg, req⟩ := item
    subst by'
    have effect : s.core.onLink Core.linkNak = _ := (Core.onLink_onWire h _).trans ((by
      obtain ⟨rest, queue⟩ := head
      rw [Core.linkNak, if_pos st, if_neg (by omega), Core.linkFail, queue] : s.core.linkNak =
        (s.core.linkFault ⟨msg, .captureUnit⟩ .nak 4).linkEnd [] (some .nak)).trans
          (Core.linkFault_linkEnd (n := .linkNak) head (fun h => LinkRequester.noConfusion h) rfl 4))
    obtain ⟨lamp, result⟩ := (s.core.linkFreed.fault .linkNak .link (msg.target * 65536 + msg.code * 256 + 4)
      2).lampResult_failed msg
    exact ⟨_, congrArg Host.Outcome.next (State.runCore_emit hr effect (s.ready_sig hr) result (s.ready_sig hr)
      (s.ready_endDue hr)), rfl, s.leaves_fault (Core.fault_out_alone (s.ready_out hr) ..)⟩
  · refine congrArg Host.Outcome.next (State.runCore_leaves hr ((Core.onLink_up opened mode (by rw [st]; decide) _).trans
      ((Core.when_true (Option.isSome_iff_ne_none.2 waits) _).trans ?_)) rfl rfl rfl)
    simp [Core.linkRetry, st]
  · refine congrArg Host.Outcome.next (State.runCore_leaves hr ((if_neg (by simp [check])).trans
      ((Core.onLink_up opened mode (by rw [st]; decide) _).trans ?_)) rfl rfl rfl)
    rw [Core.linkBusFree, Core.linkStopSent_of_ne (by rw [st]; decide)]
    simp only [st]
    rfl
  · have effect : s.core.busFree = _ := (if_neg (by simp [check])).trans ((Core.onLink_up opened mode (by rw [st]; decide) Core.linkBusFree).trans
      (Core.linkBusFree_stretch st queue waiting))
    exact congrArg Host.Outcome.next (State.runCore_emit (f := Core.busFree) hr effect (s.ready_sig hr)
      (Core.handle_lampOff _ _ _) (s.ready_sig hr) (s.ready_endDue hr))
  · exact congrArg Host.Outcome.next (State.runCore_leaves hr (if_pos check) rfl rfl rfl)

end Sys2Proof.Machine
end

section
/-! SUPPORT. The accessory link among other controllers, and the stuck bus (R190 to R193). -/

namespace Sys2Proof.Machine

/-! ## Lost arbitration and the clock stretch -/

/-- What a queued fault leaves of a head that has not left yet. -/
theorem State.runCore_linkFault {s : State} {f : Core → Core} {l : Link} {item : LinkItem} {d : LinkDetail} {n : FaultName}
    {low : Nat} (hr : s.ready = true) (by' : item.by' ≠ .startUp) (name : d.faultName = some n)
    (hf : f s.core = (s.core.setLink l).linkFault item d low) :
    ∃ t, s.runCore f = t ∧ t.core.link = l ∧ t.front.faults = s.front.queued
      ⟨n, .link, BitVec.ofNat 24 (item.msg.target * 65536 + item.msg.code * 256 + low), BitVec.ofNat 28 item.by'.code⟩ := by
  rw [Core.linkFault_queued by' name] at hf
  exact ⟨_, State.runCore_leaves hr hf rfl rfl rfl, rfl, s.leaves_fault (Core.fault_out_alone (s.ready_out hr) ..)⟩

theorem Core.linkLost_address {c : Core} {item : LinkItem} (h : c.onWire item = true) :
    (c.onLink fun c => c.linkLost none) =
      if 8 ≤ c.link.losses + 1 then (c.setLink { c.link with
        st := .listen, losses := c.link.losses + 1, moved := 0, listenAddress := true, failed := some .arb }).linkFault item .arb 8
      else c.setLink { c.link with st := .listen, losses := c.link.losses + 1, moved := 0, listenAddress := true } := by
  obtain ⟨-, -, st, rest, queue⟩ := (c.onWire_iff item).1 h
  rw [Core.onLink_onWire h]
  simp only [Core.linkLost, st, queue]
  rfl

theorem Core.linkLost_write {c : Core} {item : LinkItem} {m : Nat} (h : c.onWire item = true)
    (possible : m < item.msg.bytes.length) :
    (c.onLink fun c => c.linkLost (some m)) =
      c.setLink { c.link with st := .listen, losses := 1, moved := 0, listenAddress := false } := by
  obtain ⟨-, -, st, rest, queue⟩ := (c.onWire_iff item).1 h
  rw [Core.onLink_onWire h]
  simp [Core.linkLost, st, queue, possible]

theorem Core.linkStretch_onWire {c : Core} {item : LinkItem} (h : c.onWire item = true) (m : Nat) :
    (c.onLink fun c => c.linkStretch (some m)) = (c.setLink { c.link with
      st := .stop, failed := some .stretch, moved := m, lowCount := some (c.now - 25), losses := 0 }).linkFault item
        .stretch m := by
  obtain ⟨-, -, st, rest, queue⟩ := (c.onWire_iff item).1 h
  rw [Core.onLink_onWire h]
  simp [Core.linkStretch, st, queue]

/-! ## Other controllers' transfers (R194) -/

/-- A link as it answers its own address, or lets another transfer go by. -/
def Link.watched (l : Link) (now : Nat) (mine : Bool) : Link :=
  if mine then { l with
    st := .target, buffer := [], tooLong := false, dropMessage := false, listenAddress := false, freeCount := some now }
  else { l with listenAddress := false, freeCount := some now }

theorem Core.linkWatch_watching {c : Core} (opened : c.link.opened = true)
    (st : c.link.st = .idle ∨ c.link.st = .waitFree ∨ c.link.st = .retryWait) (a : Nat) (w : Bool) :
    c.linkWatch a w = c.setLink (c.link.watched c.now (w && decide (a = c.link.address ∧ a ≠ 0))) := by
  rw [Core.linkWatch, Core.linkStopSent_of_ne (by rcases st with h | h | h <;> rw [h] <;> decide)]
  rcases st with h | h | h <;> simp only [Link.watched, h, opened, Core.tick, Bool.true_and, if_true]

/-- The link whose stretched head has left, with nothing on the wire. -/
def Link.stretchOver (l : Link) (rest : List LinkItem) (now : Nat) : Link :=
  { l with
    queue := rest, retries := 0, losses := 0, moved := 0, retryWait := none, failed := none, lowCount := none
    st := if rest = [] then .idle else .waitFree, freeCount := some now }

theorem Core.linkStopSent_over {c : Core} {item : LinkItem} {rest : List LinkItem} (st : c.link.st = .stop)
    (queue : c.link.queue = item :: rest) (waiting : c.link.waiting = []) :
    c.linkStopSent = (c.setLink (c.link.stretchOver rest c.now)).emit (.linkResult item [] c.link.failed) := by
  rw [Core.linkStopSent_stretch st queue]
  cases rest with
  | nil => simp [Core.linkFreed, Link.dropHead, Link.resting, Core.emit, Core.setLink, queue, waiting, Link.stretchOver]
  | cons y l => simp [Core.linkFreed, Link.dropHead, Link.resting, Core.emit, Core.setLink, queue, waiting, Link.stretchOver]

/-- After a stretch another controller's address byte is read as the link at rest reads it, and the head leaves. -/
theorem Core.linkWatch_stretch {c : Core} {item : LinkItem} {rest : List LinkItem} (opened : c.link.opened = true)
    (st : c.link.st = .stop) (queue : c.link.queue = item :: rest) (waiting : c.link.waiting = []) (a : Nat) (w : Bool) :
    c.linkWatch a w = (c.setLink ((c.link.stretchOver rest c.now).watched c.now
      (w && decide (a = c.link.address ∧ a ≠ 0)))).emit (.linkResult item [] c.link.failed) := by
  rw [Core.linkWatch, Core.linkStopSent_over st queue waiting]
  cases rest with
  | nil => simp only [Core.emit, Core.setLink, Link.stretchOver, Link.watched, opened, Core.tick, Bool.true_and, if_true]
  | cons y l =>
    simp only [Core.emit, Core.setLink, Link.stretchOver, Link.watched, opened, Core.tick, Bool.true_and, if_true,
      List.cons_ne_nil, if_false]

theorem addressed {a b : Nat} {w : Bool} (hw : w = true) (ha : a = b) (hn : a ≠ 0) :
    (w && decide (a = b ∧ a ≠ 0)) = true := by
  rw [hw, Bool.true_and, decide_eq_true_eq]
  exact ⟨ha, hn⟩

theorem unaddressed {a b : Nat} {w : Bool} (h : w = false ∨ a ≠ b ∨ a = 0) : (w && decide (a = b ∧ a ≠ 0)) = false := by
  rw [Bool.and_eq_false_iff, decide_eq_false_iff_not, not_and_or, not_not]
  exact h

/-- Settles O55. -/
theorem linkMeetsOtherControllers : Obligations.LinkMeetsOtherControllers := by
  intro item s hr
  refine ⟨fun h few => ?_, fun h many by' => ?_, fun m h possible => ?_, fun m h by' => ?_, fun a w opened mode st => ?_,
    fun a w rest opened mode st failed waiting queue => ?_, fun opened mode st failed => ?_⟩
  · exact congrArg Host.Outcome.next (State.runCore_leaves hr ((Core.linkLost_address h).trans (if_neg (by omega))) rfl rfl rfl)
  · obtain ⟨t, run, link, faults⟩ := State.runCore_linkFault (f := fun c => c.onLink fun c => c.linkLost none)
      (n := .linkArb) hr by' rfl ((Core.linkLost_address h).trans (if_pos (by omega)))
    exact ⟨t, congrArg Host.Outcome.next run, by rw [link, many], faults⟩
  · exact congrArg Host.Outcome.next (State.runCore_leaves hr (Core.linkLost_write h possible) rfl rfl rfl)
  · obtain ⟨t, run, link, faults⟩ := State.runCore_linkFault (f := fun c => c.onLink fun c => c.linkStretch (some m))
      (n := .linkStretch) hr by' rfl (Core.linkStretch_onWire h m)
    exact ⟨t, congrArg Host.Outcome.next run, link, faults⟩
  · have run := State.runCore_leaves hr ((Core.onLink_up opened mode (by rw [st]; decide) fun c => c.linkWatch a w).trans
      (Core.linkWatch_watching opened (.inl st) a w)) rfl rfl rfl
    refine ⟨fun hw ha hn => congrArg Host.Outcome.next (run.trans ?_), fun other => congrArg Host.Outcome.next (run.trans ?_)⟩
    · rw [addressed hw ha hn]; rfl
    · rw [unaddressed other]; rfl
  · have effect := (Core.onLink_up opened mode (by rw [st]; decide) fun c => c.linkWatch a w).trans
      (Core.linkWatch_stretch opened st queue waiting a w)
    have run := State.runCore_emit (f := fun c => c.onLink fun c => c.linkWatch a w) hr effect (s.ready_sig hr)
      (Core.handle_lampOff _ _ _) (s.ready_sig hr) (s.ready_endDue hr)
    refine ⟨fun hw ha hn => congrArg Host.Outcome.next (run.trans ?_), fun other => congrArg Host.Outcome.next (run.trans ?_)⟩
    · rw [addressed hw ha hn]; rfl
    · rw [unaddressed other]; rfl
  · refine congrArg Host.Outcome.next (State.runCore_leaves hr
      ((Core.onLink_up opened mode (by rw [st]; decide) Core.linkForeignStop).trans ?_) rfl rfl rfl)
    simp only [Core.linkForeignStop, st, Core.linkLeave, failed, Option.isSome_none]
    rfl

/-! ## The stuck bus (R192) -/

/-- The link that has given up (R192). -/
def Link.gaveUp (l : Link) : Link :=
  { l with
    queue := [], waiting := [], st := .down, retries := 0, losses := 0, moved := 0, retryWait := none, failed := none
    freeCount := none, lowCount := none }

/-- The link after the recovery's pulses (R192). -/
def Link.pulsed (l : Link) : Link :=
  { l with listenAddress := false, buffer := [], tooLong := false, dropMessage := false, lowCount := none, retryWait := none,
           moved := 0 }

/-- With nothing queued the link gives up without a report, and lamp control is ABSENT. -/
theorem Core.linkGiveUp_empty {c : Core} (queue : c.link.queue = []) (waiting : c.link.waiting = []) :
    ∃ (link : Link) (lamp : Lamp), c.linkGiveUp = (c.setLink link).setLamp lamp ∧ link.st = .down ∧ link.queue = [] ∧
      lamp.present = false ∧ lamp.st = c.cap.lamp.st := by
  cases hp : c.cap.lamp.present with
  | true =>
    refine ⟨c.link.gaveUp, { c.cap.lamp with present := false }, ?_, rfl, rfl, rfl, rfl⟩
    simp only [Core.linkGiveUp, queue, waiting, List.append_nil, List.foldl_nil, Core.setLink_cap, hp, if_true]
    rfl
  | false =>
    refine ⟨c.link.gaveUp, c.cap.lamp, ?_, rfl, rfl, hp, rfl⟩
    simp only [Core.linkGiveUp, queue, waiting, List.append_nil, List.foldl_nil, Core.setLink_cap, hp]
    rfl

/-- The recovery of a link with nothing on the wire and nothing queued: the pulses, the wires' levels after it, and its
fault outside the self-test's link check. -/
theorem Core.linkRecover_idle {c : Core} (st : c.link.st = .idle) (queue : c.link.queue = []) (waiting : c.link.waiting = [])
    (quiet high scl sda : Bool) : ∃ (link : Link) (lamp : Lamp),
      c.linkRecover quiet high scl sda =
        ((if quiet then c.setPins { c.pins with linkPulses := c.pins.linkPulses + (if high then 9 else 0) }
          else (c.setPins { c.pins with linkPulses := c.pins.linkPulses + (if high then 9 else 0) }).linkStuckFault scl sda
            (scl && sda)).setLink link).setLamp lamp ∧
      link.st = (if scl && sda then .idle else .down) ∧ link.queue = [] ∧
      lamp.present = (if scl && sda then c.cap.lamp.present else false) ∧ lamp.st = c.cap.lamp.st := by
  have pulsed : (if high then c.setPins { c.pins with linkPulses := c.pins.linkPulses + 9 } else c) =
      c.setPins { c.pins with linkPulses := c.pins.linkPulses + (if high then 9 else 0) } := by
    cases high <;> rfl
  unfold Core.linkRecover
  rw [pulsed]
  generalize hd : c.setPins { c.pins with linkPulses := c.pins.linkPulses + (if high then 9 else 0) } = d
  have link : d.link = c.link := by rw [← hd]; rfl
  have cap : d.cap = c.cap := by rw [← hd]; rfl
  have head : d.link.stuckHead = none := by rw [link, Link.stuckHead, st]
  simp only [head]
  cases h : scl && sda with
  | true =>
    refine ⟨{ d.link.pulsed with st := d.link.pulsed.resting, freeCount := d.tick }, d.cap.lamp, ?_, ?_, ?_,
      congrArg (fun k : Capture => k.lamp.present) cap, congrArg (fun k : Capture => k.lamp.st) cap⟩
    · cases quiet <;> rfl
    · simp [Link.resting, Link.pulsed, link, queue]
    · exact (congrArg Link.queue link).trans queue
  | false =>
    obtain ⟨link, lamp, up, down, empty, absent, same⟩ := Core.linkGiveUp_empty
      (c := (if quiet then d else d.linkStuckFault scl sda false).setLink d.link.pulsed)
      ((congrArg Link.queue link).trans queue) ((congrArg Link.waiting link).trans waiting)
    refine ⟨link, lamp, up, down, empty, absent, same.trans ?_⟩
    rw [← cap]
    cases quiet <;> rfl

/-- Settles O56. -/
theorem lowLineIsRecovered : Obligations.LowLineIsRecovered := by
  intro high scl sda s hr st queue waiting
  refine ⟨fun check opened mode => ?_, fun check => ?_⟩
  · obtain ⟨link, lamp, recovers, hst, hqueue, present, hlamp⟩ := Core.linkRecover_idle st queue waiting false high scl sda
    have effect : s.core.lowLine high scl sda = _ := (if_neg (by simp [check])).trans
      ((Core.onLink_up opened mode (by rw [st]; decide) fun c => c.linkRecover false high scl sda).trans recovers)
    have run := State.runCore_ready (f := fun c => c.lowLine high scl sda) hr effect (s.ready_sig hr) (s.ready_endDue hr)
    exact ⟨_, congrArg Host.Outcome.next run, rfl, hst, hqueue, present, hlamp,
      s.leaves_fault (Core.fault_out_alone (s.ready_out hr) ..)⟩
  · obtain ⟨link, lamp, recovers, -⟩ := Core.linkRecover_idle st queue waiting true high scl sda
    have effect : s.core.lowLine high scl sda = _ := (if_pos check).trans
      (congrArg (Core.setModes · { s.core.modes with linkResult := some (scl && sda) }) recovers)
    have run := State.runCore_ready (f := fun c => c.lowLine high scl sda) hr effect (s.ready_sig hr) (s.ready_endDue hr)
    exact ⟨_, congrArg Host.Outcome.next run, rfl, rfl, s.leaves_front (s.ready_out hr)⟩

end Sys2Proof.Machine
end

section
/-! SUPPORT. Bay Events (R181, R182), the start-up survey (R169, R196), and the changer's exchanges (R174, R178). -/

namespace Sys2Proof.Machine

/-! ## Held requests returned (R154) -/

/-- What a return of held requests keeps. -/
theorem Core.returnHeld_keeps (c : Core) (roll : Nat) (pos : Bool) (o : Res) (d : Nat) :
    (c.returnHeld roll pos o d).sig = c.sig ∧ (c.returnHeld roll pos o d).out = c.out ∧
    (c.returnHeld roll pos o d).rm.pass = c.rm.pass ∧ (c.returnHeld roll pos o d).cap = c.cap ∧
    (c.returnHeld roll pos o d).tr = c.tr ∧ (c.returnHeld roll pos o d).roll = c.roll ∧
    (c.returnHeld roll pos o d).link = c.link := by
  unfold Core.returnHeld
  generalize c.rm.pendingSet = l
  induction l generalizing c with
  | nil => exact ⟨rfl, rfl, rfl, rfl, rfl, rfl, rfl⟩
  | cons q l ih =>
    rw [List.foldl_cons]
    split
    · obtain ⟨sig, out, pass, cap, tr, roll, link⟩ := ih
        (c.decideReturn { Return.plain q.slot q.stamp q.req.notify q.takenAt o d with clamps := q.clamps })
      exact ⟨sig, out, pass, cap, tr, roll, link⟩
    · exact ih c

/-! ## Messages taken in TARGET (R194) -/

/-- The link that has left a TARGET in which no head had failed. -/
def Link.left (l : Link) (now : Nat) : Link :=
  { l with listenAddress := false, dropMessage := false, freeCount := some now, st := l.resting }

/-- The link with the bytes of a message it has taken. -/
def Link.took (l : Link) (bytes : List Byte) : Link := { l with buffer := bytes.take 4, tooLong := decide (4 < bytes.length) }

theorem Core.linkLeave_of_none {c : Core} (h : c.link.failed = none) : c.linkLeave = c.setLink (c.link.left c.now) := by
  rw [Core.linkLeave]
  exact if_neg (by simp [h])

theorem Core.takeMessage_dropped {c : Core} (st : c.link.st = .target) (failed : c.link.failed = none)
    (drop : c.link.dropMessage = true) (bytes : List Byte) : c.takeMessage bytes = c.setLink (c.link.left c.now) := by
  simp only [Core.takeMessage, Core.linkMessage, st, drop, if_true, Core.linkLeave_of_none failed]

/-- A message that is taken leaves the TARGET, and a Bay Event goes on. -/
theorem Core.takeMessage_taken {c : Core} (st : c.link.st = .target) (failed : c.link.failed = none)
    (drop : c.link.dropMessage = false) (bytes : List Byte) :
    c.takeMessage bytes = (bayMessage bytes).elim (c.setLink ((c.link.took bytes).left c.now))
      fun e => (c.setLink ((c.link.took bytes).left c.now)).bayEvent e.1 e.2 := by
  have left : (c.setLink (c.link.took bytes)).linkLeave = c.setLink ((c.link.took bytes).left c.now) :=
    Core.linkLeave_of_none (c := c.setLink (c.link.took bytes)) failed
  rw [Core.takeMessage, Core.linkMessage, if_pos st, if_neg (by simp [drop])]
  change (match ((c.setLink (c.link.took bytes)).linkLeave, bayMessage bytes) with
    | (c, some (bay, occupancy)) => c.bayEvent bay occupancy
    | (c, none) => c) = _
  rw [left]
  cases bayMessage bytes <;> rfl

/-- The four bytes of a Bay Event. -/
theorem bayMessage_event (b o : Byte) : bayMessage [0x0B, b, o, 0x0B ^^^ b ^^^ o] = some (b.toNat, o.toNat) := by
  simp [bayMessage]

/-! ## Bay Events (R181) -/

/-- A cassette taken out of a known bay, by the bay's record. -/
theorem Core.bayEvent_out {c : Core} {bay : Nat} (checked : c.roll.checked = true) (changer : c.roll.changer = true)
    (low : 1 ≤ bay) (high : bay ≤ c.roll.bayCount) : c.bayEvent bay 0 =
      match (c.roll.bay bay).st with
      | .empty => c
      | .failed => c.setRoll (c.roll.setBay bay { c.roll.bay bay with st := .empty })
      | .mounted => c.bayFault bay 0 3
      | .loaded =>
        if c.roll.cassette = some bay then c.bayFault bay 0 3
        else c.setRoll (c.roll.setBay bay { c.roll.bay bay with st := .empty })
      | .bound => if c.roll.cassette = some bay then c.bayFault bay 0 3 else c.bayLost bay := by
  rw [Core.bayEvent, if_neg (by simp [checked, changer]), if_neg (by omega)]
  dsimp only
  cases (c.roll.bay bay).st <;> rfl

/-- A cassette put into a known bay, by the bay's record. -/
theorem Core.bayEvent_in {c : Core} {bay : Nat} (checked : c.roll.checked = true) (changer : c.roll.changer = true)
    (low : 1 ≤ bay) (high : bay ≤ c.roll.bayCount) : c.bayEvent bay 1 =
      match (c.roll.bay bay).st with
      | .empty | .failed => c.setRoll (c.roll.setBay bay { c.roll.bay bay with st := .loaded })
      | _ => c := by
  rw [Core.bayEvent, if_neg (by simp [checked, changer]), if_neg (by omega)]
  dsimp only
  cases (c.roll.bay bay).st <;> rfl

theorem Core.bayEvent_discarded {c : Core} (h : c.roll.checked = false ∨ c.roll.changer = false) (bay o : Nat) :
    c.bayEvent bay o = c := if_pos (by rcases h with h | h <;> simp [h])

theorem Core.bayEvent_invalid {c : Core} {bay o : Nat} (checked : c.roll.checked = true) (changer : c.roll.changer = true)
    (h : bay = 0 ∨ c.roll.bayCount < bay ∨ 1 < o) : c.bayEvent bay o = c.bayFault bay o 4 := by
  rw [Core.bayEvent, if_neg (by simp [checked, changer]), if_pos h]

/-- A BOUND bay emptied with no sequence and no swap. -/
theorem Core.bayLost_idle {c : Core} (seq : c.roll.seq = none) (swap : c.rm.swap = none) (bay : Nat) :
    c.bayLost bay = (c.setRoll (c.roll.setBay bay { Bay.reset with selection := (c.roll.bay bay).selection })).returnHeld
      ((c.roll.bay bay).roll.getD 0) false .rollAbsent 0x1C := by
  have none' (x : Bay) : (c.roll.setBay bay x).seq = none := by
    rw [RollMgr.setBay]
    split <;> exact seq
  simp only [Core.bayLost, Core.setRoll_roll, Core.setRoll_rm, none', swap]
  rfl

/-- A Bay Event on a ready part. -/
theorem State.runCore_bayEvent {s : State} (hr : s.ready = true) (opened : s.core.link.opened = true)
    (mode : s.core.modes.mode ≠ .failed) (st : s.core.link.st = .target) (failed : s.core.link.failed = none)
    (drop : s.core.link.dropMessage = false) {b o : Byte} {d : Core}
    (event : (s.core.setLink ((s.core.link.took [0x0B, b, o, 0x0B ^^^ b ^^^ o]).left s.core.now)).bayEvent b.toNat o.toNat = d)
    (sig : d.sig = s.core.sig) (due : d.endDue = s.core.endDue) :
    exec (.bayEvent [0x0B, b, o, 0x0B ^^^ b ^^^ o]) s = .next (s.leaves d) := by
  have effect := (Core.onLink_up opened mode (by rw [st]; decide) fun c => c.takeMessage [0x0B, b, o, 0x0B ^^^ b ^^^ o]).trans
    (Core.takeMessage_taken st failed drop [0x0B, b, o, 0x0B ^^^ b ^^^ o])
  rw [bayMessage_event] at effect
  exact congrArg Host.Outcome.next (State.runCore_ready hr (effect.trans event) (sig.trans (s.ready_sig hr))
    (due.trans (s.ready_endDue hr)))

/-- A Bay Event that is refused or invalid queues its fault. -/
theorem State.leaves_bayFault {s : State} (hr : s.ready = true) (l : Link) (bay o reason : Nat) :
    (s.leaves ((s.core.setLink l).bayFault bay o reason)).front.faults = s.front.queued
      ⟨.changerFault, .rollManager, BitVec.ofNat 24 (bay * 65536 + o * 256 + reason), 0⟩ :=
  s.leaves_fault (Core.fault_out_alone (c := s.core.setLink l) (s.ready_out hr) ..)

/-- Settles O51. -/
theorem bayEventsChangeRecords : Obligations.BayEventsChangeRecords := by
  refine ⟨fun bytes s hr opened mode st failed drop => ?_, fun b o s hr opened mode st failed drop => ?_⟩
  · exact congrArg Host.Outcome.next (State.runCore_leaves hr
      ((Core.onLink_up opened mode (by rw [st]; decide) fun c => c.takeMessage bytes).trans
        (Core.takeMessage_dropped st failed drop bytes)) rfl rfl rfl)
  · refine ⟨(s.core.link.took [0x0B, b, o, 0x0B ^^^ b ^^^ o]).left s.core.now, rfl, rfl, rfl, fun off => ?discarded,
      fun bay checked changer low high hbay => ?known, fun checked changer bad => ?invalid, fun bytes hb => ?other⟩
    case discarded =>
      exact State.runCore_bayEvent hr opened mode st failed drop 
        (Core.bayEvent_discarded (c := s.core.setLink ((s.core.link.took _).left s.core.now)) off _ _) rfl rfl
    case invalid =>
      exact ⟨_, State.runCore_bayEvent hr opened mode st failed drop (Core.bayEvent_invalid checked changer (by
        rcases bad with rfl | h | h
        · exact .inl rfl
        · exact .inr (.inl h)
        · exact .inr (.inr h))) rfl rfl, rfl, State.leaves_bayFault hr _ _ _ _⟩
    case other =>
      have effect := (Core.onLink_up opened mode (by rw [st]; decide) fun c => c.takeMessage bytes).trans
        (Core.takeMessage_taken st failed drop bytes)
      rw [hb] at effect
      exact ⟨_, congrArg Host.Outcome.next (State.runCore_leaves hr effect rfl rfl rfl), rfl, s.leaves_front (s.ready_out hr), rfl⟩
    case known =>
      generalize hl : (s.core.link.took [0x0B, b, o, 0x0B ^^^ b ^^^ o]).left s.core.now = l
      have out := Core.bayEvent_out (c := s.core.setLink l) checked changer low high
      have into := Core.bayEvent_in (c := s.core.setLink l) checked changer low high
      have hbay : ((s.core.setLink l).roll.bay b.toNat).st = bay := hbay
      rw [hbay] at out into
      have step {d : Core} (h : (s.core.setLink l).bayEvent b.toNat o.toNat = d) (sig : d.sig = s.core.sig)
          (due : d.endDue = s.core.endDue) := State.runCore_bayEvent hr opened mode st failed drop (hl ▸ h) sig due
      refine ⟨fun h => ?_, fun ho h => ?_, fun ho h => ?_, fun ho h away seq swap => ?_, fun ho h => ?_⟩
      · refine step ?_ rfl rfl
        rcases h with ⟨rfl, rfl⟩ | ⟨rfl, rfl | rfl | rfl⟩
        · exact out
        all_goals exact into
      · subst ho
        refine step (into.trans ?_) rfl rfl
        rcases h with rfl | rfl <;> rfl
      · subst ho
        refine step (out.trans ?_) rfl rfl
        rcases h with rfl | ⟨rfl, away⟩
        · rfl
        · exact if_neg away
      · subst ho h
        obtain ⟨sig, -, pass, cap, -⟩ := Core.returnHeld_keeps ((s.core.setLink l).setRoll
          (s.core.roll.setBay b.toNat { Bay.reset with selection := (s.core.roll.bay b.toNat).selection }))
          ((s.core.roll.bay b.toNat).roll.getD 0) false .rollAbsent 0x1C
        exact step (out.trans ((if_neg away).trans (Core.bayLost_idle (c := s.core.setLink l) seq swap b.toNat))) sig
          (Core.endDue_of_pass pass cap)
      · subst ho
        refine ⟨_, step (out.trans (?_ : _ = (s.core.setLink l).bayFault b.toNat (0 : Byte).toNat 3)) rfl rfl, rfl, rfl,
          State.leaves_bayFault hr l b.toNat (0 : Byte).toNat 3⟩
        rcases h with rfl | ⟨rfl | rfl, there⟩
        · rfl
        all_goals exact if_pos there

end Sys2Proof.Machine
end

section
/-! SUPPORT. The start-up survey (R169, R196), and the changer's exchanges (R174, R178). -/

namespace Sys2Proof.Machine

/-! ## The survey -/

theorem surveyBays_getD (used occupancy cassette : Nat) {k i : Nat} (h : i < k) (b : Nat) :
    (surveyBays used occupancy cassette k b).getD i Bay.reset =
      if b + i ≤ used ∧ (occupancy.testBit (b + i - 1) = true ∨ b + i = cassette) then { Bay.reset with st := .loaded }
      else Bay.reset := by
  induction k generalizing b i with
  | zero => cases h
  | succ k ih =>
    cases i with
    | zero => simp [surveyBays]
    | succ i =>
      rw [surveyBays, List.getD_cons_succ, ih (Nat.lt_of_succ_lt_succ h), show b + 1 + i = b + (i + 1) by omega]

/-- A bay of the catalogue that a survey sets up. -/
theorem RollMgr.surveyed_bay (r : RollMgr) (straps : Nat) (bytes : List Byte) {b : Nat} (low : 1 ≤ b) (high : b ≤ 8) :
    ((r.surveyed straps bytes).bay b).st =
      if b ≤ (r.surveyed straps bytes).bayCount ∧ ((byteAt bytes 4).testBit (b - 1) = true ∨ b = byteAt bytes 2) then .loaded
      else .empty := by
  rw [RollMgr.bay, if_neg (by omega)]
  simp only [RollMgr.surveyed]
  rw [surveyBays_getD _ _ _ (by omega), show 1 + (b - 1) = b by omega, Nat.testBit_mod_two_pow]
  by_cases known : b ≤ min (byteAt bytes 3) (straps % 8 + 1)
  · have counted : b ≤ byteAt bytes 3 := le_trans known (Nat.min_le_left ..)
    have cassette : b = (if byteAt bytes 2 ≤ byteAt bytes 3 then byteAt bytes 2 else 0) ↔ b = byteAt bytes 2 := by
      split <;> omega
    simp only [known, cassette, show b - 1 < byteAt bytes 3 by omega, decide_true, Bool.true_and, true_and]
    split <;> rfl
  · simp only [known, false_and, if_false, Bay.reset]

/-- A bay of SINGLE mode. -/
theorem RollMgr.single_bay (r : RollMgr) {b : Nat} (low : 1 ≤ b) (high : b ≤ 8) :
    (r.single.bay b).st = if b = 1 then .loaded else .empty := by
  interval_cases b <;> rfl

/-- The survey's answer reaches the start-up logic. -/
theorem State.runCore_survey {s : State} {bytes : List Byte} (hr : s.ready = true)
    (h : s.core.onWire { msg := .survey, by' := .startUp } = true) :
    exec (.survey bytes) s = .next (s.leaves (s.core.linkFreed.startUpResult .survey (bytes.take 5) none)) :=
  congrArg Host.Outcome.next (State.runCore_emit hr (Core.linkRead_ends h (isMsg := LinkMsg.isSurvey) rfl bytes)
    (s.ready_sig hr) rfl (s.ready_sig hr) (s.ready_endDue hr))

theorem surveyBad_iff (bytes : List Byte) : surveyBad bytes = true ↔ 2 < byteAt bytes 0 ∨ byteAt bytes 3 = 0 ∨ 8 < byteAt bytes 3 := by
  rw [surveyBad, decide_eq_true_iff, Nat.lt_one_iff]

/-- What the start-up logic makes of an answer. -/
theorem Core.startUpResult_survey (c : Core) {bytes : List Byte} {b : Bool} (h : surveyBad bytes = b) :
    c.startUpResult .survey bytes none = (c.setModes { c.modes with linkResult := some !b }).setRoll
      { (if b then c.roll.single else c.roll.surveyed c.pins.strapBays bytes) with checked := true } := by
  cases b <;> simp only [Core.startUpResult, h] <;> rfl

/-- Settles O50. -/
theorem surveySetsUpBays : Obligations.SurveySetsUpBays := by
  intro bytes s hr _ len wire
  have run := State.runCore_survey (bytes := bytes) hr wire
  rw [List.take_of_length_le (by omega : bytes.length ≤ 5)] at run
  refine ⟨fun answered low high => ?_, fun bad => ?_⟩
  · have good : surveyBad bytes = false := by
      rw [Bool.eq_false_iff, Ne, surveyBad_iff]
      omega
    rw [Core.startUpResult_survey _ good] at run
    refine ⟨_, run, rfl, rfl, rfl, rfl, ?_, fun b low high => s.core.roll.surveyed_bay s.core.pins.strapBays bytes low high⟩
    change (if (if byteAt bytes 2 ≤ byteAt bytes 3 then byteAt bytes 2 else 0) = 0 then none
      else some (if byteAt bytes 2 ≤ byteAt bytes 3 then byteAt bytes 2 else 0)) = _
    split_ifs <;> simp_all
    omega
  · rw [Core.startUpResult_survey _ ((surveyBad_iff bytes).2 bad)] at run
    have bay {b : Nat} (low : 1 ≤ b) (high : b ≤ 8) := s.core.roll.single_bay low high
    exact ⟨_, run, rfl, rfl, rfl, rfl, bay (le_refl 1) (by decide),
      fun b low high => (bay (by omega) high).trans (if_neg (by omega))⟩

/-! ## A sequence's result reaches its pass (R166, R178) -/

/-- A request's pass once its sequence has ended. -/
def Pass.rollEnded (p : Pass) (o : Res) (d indexed : Nat) : Pass :=
  { p with ending := some (.fixed o d), indexed := indexed, st := .ending, act := .idle }

theorem Core.passRollDone_request {c : Core} {p : Pass} {k : Kind} (h : c.rm.pass = some p) (kind : p.kind = .request k)
    (o : Res) (d n : Nat) : c.passRollDone o d n = (c.setPass (p.rollEnded o d n)).tryEnd := by
  obtain ⟨_⟩ := p
  cases kind
  simp only [Core.passRollDone, h]
  rfl

/-- The end of a pass changes the Result Writer's queue and the Request Manager alone. -/
theorem Core.tryEnd_shape {c : Core} {p : Pass} (h : c.rm.pass = some p) : ∃ (port : Port) (rm : ReqMgr) (b : Bool),
    c.tryEnd = (c.setPort port).setRm rm ∧ rm.pass = some { p with decided := b } := by
  cases due : c.endDue with
  | false => exact ⟨c.port, c.rm, p.decided, Core.tryEnd_of_not_due due, h⟩
  | true => exact ⟨_, _, true, Core.tryEnd_of_due h due, rfl⟩

/-- The core whose sequence has ended. -/
def Core.seqOver (c : Core) : Core := (c.setRoll { c.roll with seq := none }).setIx { c.ix with staged := none }

/-- A report whose effect is known. -/
theorem Core.Settles.reported {n : Nat} {c d e : Core} {x : Signal} {l : List Signal} (h : c.sig = x :: l)
    (result : { c with sig := l }.handle x = e) (k : Core.Settles n e d) : Core.Settles (n + 1) c d :=
  .report h (result ▸ k)

theorem Core.seqDone_eq (c : Core) (o : Res) (d n : Nat) : c.seqDone o d n = c.seqOver.emit (.rollDone o d n) := rfl

/-- A sequence's result makes its request's pass end. -/
theorem Core.handle_rollDone {c : Core} {p : Pass} {k : Kind} (pass : c.rm.pass = some p) (kind : p.kind = .request k)
    (o : Res) (d n : Nat) : ∃ (port : Port) (rm : ReqMgr) (b : Bool), c.handle (.rollDone o d n) = (c.setPort port).setRm rm ∧
      rm.pass = some { p.rollEnded o d n with decided := b } ∧ ((c.setPort port).setRm rm).endDue = false := by
  obtain ⟨port, rm, b, shape, pass'⟩ := Core.tryEnd_shape (c := c.setPass (p.rollEnded o d n)) rfl
  have ended : c.handle (.rollDone o d n) = (c.setPort port).setRm rm :=
    (Core.passRollDone_request pass kind o d n).trans (shape.trans rfl)
  exact ⟨port, rm, b, ended, pass', by
    rw [← ended, Core.handle, Core.passRollDone_request pass kind]; exact Core.tryEnd_endDue _⟩

/-- A request's sequence ends, and with it its pass. -/
theorem Core.Settles.seqDone {c : Core} {p : Pass} {k : Kind} (sig : c.sig = []) (pass : c.rm.pass = some p)
    (kind : p.kind = .request k) (o : Res) (d n : Nat) :
    ∃ (port : Port) (rm : ReqMgr) (b : Bool), Core.Settles 1 (c.seqDone o d n) ((c.seqOver.setPort port).setRm rm) ∧
      rm.pass = some { p.rollEnded o d n with decided := b } ∧ ((c.seqOver.setPort port).setRm rm).endDue = false := by
  obtain ⟨port, rm, b, done, ended, due⟩ := Core.handle_rollDone (c := c.seqOver) pass kind o d n
  rw [Core.seqDone_eq]
  exact ⟨port, rm, b, .emit sig (by rw [done]; exact .quiet sig), ended, due⟩

/-- The core whose bay in hand has failed, with its fault queued. -/
def Core.bayFailed (c : Core) (bay code reason : Nat) (aux : BitVec 28) : Core :=
  (c.fault .changerFault .rollManager (bay * 65536 + code * 256 + reason) aux).setRoll
    { c.roll.setBay bay { c.roll.bay bay with st := .failed, roll := none } with cassette := none }

theorem Core.changerFail_fetch {c : Core} {p : Pass} {k : Kind} {q : Seq} (pass : c.rm.pass = some p)
    (kind : p.kind = .request k) (fetch : q.step = .fetch) (code reason detail : Nat) : c.changerFail q code reason detail =
      (c.roll.bay q.bay).roll.elim
        ((c.bayFailed q.bay code reason (auxSlot p.slot p.stamp)).seqDone .changerFault detail 0)
        fun lost => ((c.bayFailed q.bay code reason (auxSlot p.slot p.stamp)).seqDone .changerFault detail 0).emit
          (.returnHeld lost false .changerFault Det.bayFailed) := by
  have aux : c.changerAux = auxSlot p.slot p.stamp := by simp only [Core.changerAux, Core.auxPass, pass, kind]
  have bay : c.exchangedBay q = q.bay := by simp only [Core.exchangedBay, fetch]
  simp only [Core.changerFail, aux, bay]
  cases (c.roll.bay q.bay).roll <;> rfl

/-- A changer failure in a FETCH of a request. -/
theorem Core.Settles.changerFail {c : Core} {p : Pass} {k : Kind} {q : Seq} (sig : c.sig = []) (pass : c.rm.pass = some p)
    (kind : p.kind = .request k) (fetch : q.step = .fetch) (code reason detail : Nat) :
    ∃ n e, n ≤ 2 ∧ Core.Settles n (c.changerFail q code reason detail) e ∧ e.endDue = false ∧
      e.roll = { c.roll.setBay q.bay { c.roll.bay q.bay with st := .failed, roll := none } with cassette := none, seq := none } ∧
      (∃ w, e.rm.pass = some w ∧ w.ending = some (.fixed .changerFault detail)) ∧
      e.out = (c.fault .changerFault .rollManager (q.bay * 65536 + code * 256 + reason) (auxSlot p.slot p.stamp)).out := by
  rw [Core.changerFail_fetch pass kind fetch]
  generalize hf : c.bayFailed q.bay code reason (auxSlot p.slot p.stamp) = f
  have sig : f.sig = [] := by subst hf; exact sig
  have pass : f.rm.pass = some p := by subst hf; exact pass
  cases (c.roll.bay q.bay).roll with
  | none =>
    obtain ⟨port, rm, b, settles, ended, due⟩ := Core.Settles.seqDone sig pass kind .changerFault detail 0
    exact ⟨1, _, by decide, settles, due, by subst hf; rfl, ⟨_, ended, rfl⟩, by subst hf; rfl⟩
  | some lost =>
    obtain ⟨port, rm, b, done, ended, due⟩ := Core.handle_rollDone
      (c := { f.seqOver with sig := [.returnHeld lost false .changerFault Det.bayFailed] }) pass kind .changerFault detail 0
    obtain ⟨sig', out', pass', cap', -, roll', -⟩ :=
      { (f.seqOver.setPort port).setRm rm with sig := [] }.returnHeld_keeps lost false .changerFault Det.bayFailed
    refine ⟨2, _, le_refl 2, .reported (x := .rollDone .changerFault detail 0)
      (l := [.returnHeld lost false .changerFault Det.bayFailed]) ?_ done
        (.report (x := .returnHeld lost false .changerFault Det.bayFailed) (l := []) rfl (.quiet sig')),
      (Core.endDue_of_pass pass' cap').trans due, roll'.trans (by subst hf; rfl), ⟨_, pass'.trans ended, rfl⟩,
      out'.trans (by subst hf; rfl)⟩
    change f.sig ++ _ ++ _ = _
    rw [sig]; rfl

/-! ## The changer's transactions (R174) -/

section
variable {c : Core} {q : Seq} {x : Exchange} (seq : c.roll.seq = some q) (exchange : q.exchange = some x)
include seq exchange

theorem Core.handle_exchange {b : Nat} : c.handle (.linkResult { msg := .exchange b x.serial, by' := .rollManager } [] none) =
    c.setSeq { q with exchange := some { x with poll := c.tick, timer := c.tick } } := by
  simp only [Core.handle, Core.deliver, Core.rollLink, seq, exchange, if_true]

theorem Core.handle_exchangeFailed {b : Nat} (e : LinkDetail) :
    c.handle (.linkResult { msg := .exchange b x.serial, by' := .rollManager } [] (some e)) = c.seqDone .linkFault e.detail 0 := by
  simp only [Core.handle, Core.deliver, Core.rollLink, seq, exchange, if_true]

theorem Core.handle_status (bytes : List Byte) :
    c.handle (.linkResult { msg := .status x.serial, by' := .rollManager } bytes none) = c.statusAnswer q x bytes := by
  simp only [Core.handle, Core.deliver, Core.rollLink, seq, exchange, if_true]

theorem Core.pollChanger_due {m : Nat} (timer : x.timer = some m) : c.pollChanger =
    (c.setSeq { q with exchange := some { x with timer := none } }).submit { msg := .status x.serial, by' := .rollManager } := by
  simp only [Core.pollChanger, seq, exchange, timer, Option.isSome_some, if_true]

theorem Core.exchangeOver_due {m : Nat} (poll : x.poll = some m) : c.exchangeOver = c.changerFail q 0 1 Det.changerTimeout := by
  simp only [Core.exchangeOver, seq, exchange, poll, Option.isSome_some, if_true]

end

/-- READY in a FETCH goes on to THREAD. -/
theorem Core.exchangeReady_fetch {c : Core} {q : Seq} (step : q.step = .fetch) (cancel : q.cancel = false)
    (emptied : q.emptied = false) : c.exchangeReady q =
      ((c.setSeq { q with exchange := none }).setSeq { q with exchange := none, step := .thread }).orderThread := by
  simp only [Core.exchangeReady, step, Core.seqAfter, cancel, emptied, Core.seqThread]
  rfl

/-- THREAD in UNTHREADED starts a threading, and reports nothing. -/
theorem Core.orderThread_unthreaded {c : Core} (st : c.tr.st = .unthreaded) : ∃ e, c.orderThread = e ∧ e.sig = c.sig ∧
    e.out = c.out ∧ e.endDue = c.endDue ∧ e.roll = c.roll ∧ e.tr.st = .threading ∧ e.tr.threadStep = .feed ∧
      e.tr.feedCount = some c.now ∧ e.tr.p = 0 ∧ e.tr.supply.radius = none := by
  simp only [Core.orderThread, st]
  exact ⟨_, rfl, rfl, rfl, rfl, rfl, rfl, rfl, rfl, rfl, rfl⟩

/-- The answer to a STATUS read reaches the sequence. -/
theorem Core.linkRead_status {s : State} {n : Nat} (h : s.core.onWire { msg := .status n, by' := .rollManager } = true)
    (a b d : Byte) : (s.core.onLink fun c => c.linkRead LinkMsg.isStatus [a, b, d]) =
      s.core.linkFreed.emit (.linkResult { msg := .status n, by' := .rollManager } [a, b, d] none) :=
  Core.linkRead_ends h rfl [a, b, d]

/-- Settles O48. -/
theorem exchangesArePolled : Obligations.ExchangesArePolled := by
  intro b n q x s hr seq exchange serial step
  subst serial
  refine ⟨fun wire => ⟨?_, fun k p l hk pass kind => ?_⟩, fun m timer up room => ?_, fun wire => ⟨fun a d => ?_, fun a d cancel emptied st => ?_⟩⟩
  · exact congrArg Host.Outcome.next (State.runCore_emit hr (Core.linkWrite_ack wire (isMsg := LinkMsg.isExchange) rfl)
      (s.ready_sig hr) (Core.handle_exchange (c := s.core.linkFreed) seq exchange) (s.ready_sig hr) (s.ready_endDue hr))
  · have effect := (Core.linkWrite_nak (k := k) wire (isMsg := LinkMsg.isExchange) rfl (by omega)
      (show k ≤ 2 by omega)).trans (Core.linkFault_linkEnd (n := .linkDataNak) ((s.core.onWire_iff _).1 wire).2.2.2
        (fun h => LinkRequester.noConfusion h) rfl k)
    obtain ⟨port, rm, _, settles, ended, due⟩ := Core.Settles.seqDone (c := s.core.linkFreed.fault .linkDataNak .link
      (0x24 * 65536 + 0x01 * 256 + k) 1) (s.ready_sig hr) pass kind .linkFault 0x49 0
    have failed := Core.handle_exchangeFailed (c := s.core.linkFreed.fault .linkDataNak .link (0x24 * 65536 + 0x01 * 256 + k) 1)
      (b := b) seq exchange .dataNak
    have run := State.runCore_settles (f := fun c => c.onLink fun c => c.linkWrite LinkMsg.isExchange (some k)) hr effect
      (.emit (n := 1) (s.ready_sig hr) (failed ▸ settles)) (by decide) due
    exact ⟨_, congrArg Host.Outcome.next run, rfl, rfl, ⟨_, ended, rfl⟩,
      s.leaves_fault (Core.fault_out_alone (c := s.core.linkFreed) (s.ready_out hr) ..)⟩
  · exact congrArg Host.Outcome.next (State.runCore_leaves hr ((Core.pollChanger_due seq exchange timer).trans
      (Core.submit_queued (c := s.core.setSeq { q with exchange := some { x with timer := none } }) _ up room)) rfl rfl rfl)
  · exact congrArg Host.Outcome.next (State.runCore_emit hr (Core.linkRead_status wire 0 a d) (s.ready_sig hr)
      (Core.handle_status (c := s.core.linkFreed) seq exchange _) (s.ready_sig hr) (s.ready_endDue hr))
  · obtain ⟨e, threads, sig, out, due, roll, threading⟩ := Core.orderThread_unthreaded (c :=
      (s.core.linkFreed.setSeq { q with exchange := none }).setSeq { q with exchange := none, step := .thread }) st
    have result := (Core.handle_status (c := s.core.linkFreed) seq exchange [1, a, d]).trans
      ((Core.exchangeReady_fetch step cancel emptied).trans threads)
    have run := State.runCore_emit hr (Core.linkRead_status wire 1 a d) (s.ready_sig hr) result
      (sig.trans (s.ready_sig hr)) (due.trans (s.ready_endDue hr))
    obtain ⟨threading, feed, count, p, radius⟩ := threading
    exact ⟨_, congrArg Host.Outcome.next run, congrArg RollMgr.seq roll, threading, feed, count, p, radius,
      s.leaves_front (out.trans (s.ready_out hr))⟩

/-- Settles O49. -/
theorem changerFailuresFailTheBay : Obligations.ChangerFailuresFailTheBay := by
  intro n k p q x s hr seq exchange serial fetch low high pass kind
  subst serial
  have bay (y : Bay) := s.core.roll.bay_setBay_self q.bay y low high
  refine ⟨fun a d wire => ?_, fun m poll => ?_⟩
  · obtain ⟨n, e, few, settles, due, roll, ended, out⟩ := Core.Settles.changerFail (c := s.core.linkFreed) (s.ready_sig hr)
      pass kind fetch a.toNat 2 Det.changerReported
    have run := State.runCore_settles (f := fun c => c.onLink fun c => c.linkRead LinkMsg.isStatus [2, a, d]) hr
      (Core.linkRead_status wire 2 a d) (.emit (s.ready_sig hr) (by
        rw [Core.handle_status (c := s.core.linkFreed) seq exchange]; exact settles)) (by omega) due
    exact ⟨_, congrArg Host.Outcome.next run, congrArg RollMgr.seq roll, congrArg RollMgr.cassette roll,
      (congrArg (fun r => (r.bay q.bay).st) roll).trans (congrArg Bay.st (bay _)),
      (congrArg (fun r => (r.bay q.bay).roll) roll).trans (congrArg Bay.roll (bay _)), ended,
      s.leaves_fault (out.trans (Core.fault_out_alone (s.ready_out hr) ..))⟩
  · obtain ⟨n, e, few, settles, due, roll, ended, out⟩ := Core.Settles.changerFail (s.ready_sig hr) pass kind fetch 0 1
      Det.changerTimeout
    have run := State.runCore_settles (f := Core.exchangeOver) hr (Core.exchangeOver_due seq exchange poll) settles
      (by omega) due
    exact ⟨_, congrArg Host.Outcome.next run, congrArg RollMgr.seq roll, congrArg RollMgr.cassette roll,
      (congrArg (fun r => (r.bay q.bay).st) roll).trans (congrArg Bay.st (bay _)),
      (congrArg (fun r => (r.bay q.bay).roll) roll).trans (congrArg Bay.roll (bay _)), ended,
      s.leaves_fault (out.trans (Core.fault_out_alone (s.ready_out hr) ..))⟩

end Sys2Proof.Machine
end

section
/-! SUPPORT. The Index Porter's transfers: their starts (R38, R111, R173) and the reads of an import (R111, R176). -/

namespace Sys2Proof.Machine

/-! ## Starts -/

theorem Core.porterStart_rest {c : Core} (h : c.porter.job ≠ .idle ∨ c.porter.waiting = []) : c.porterStart = c := by
  unfold Core.porterStart
  split
  · next idle waits => exact h.elim (fun g => absurd idle g) fun g => by cases g.symm.trans waits
  · rfl

theorem Core.porterStart_export {c : Core} {slot stamp : Nat} {rest : List Transfer} {e : Export} (job : c.porter.job = .idle)
    (waiting : c.porter.waiting = .exportFor slot stamp :: rest) (found : c.rm.exportOf slot stamp = some e) :
    c.porterStart =
      if e.length < 36 + 24 * c.ix.entries.length then
        ((c.setPorter { c.porter with waiting := rest }).setIx { c.ix with
          exportStamp := nextStamp 4294967295 c.ix.exportStamp }).endExport e .noRoom Det.bufferShort 0
      else (c.setPorter { c.porter with waiting := rest }).beginExport (.exportFor slot stamp) e.address e.roll := by
  simp only [Core.porterStart, job, waiting, Core.setPorter_rm, found]
  rfl

theorem Core.porterStart_save {c : Core} {bay address roll : Nat} {rest : List Transfer} (job : c.porter.job = .idle)
    (waiting : c.porter.waiting = .save bay address roll :: rest) : c.porterStart =
      ((c.setPorter { c.porter with waiting := rest }).setRoll (c.roll.setBay bay { c.roll.bay bay with saved := none })).beginExport
        (.save bay address roll) address roll := by
  simp only [Core.porterStart, job, waiting]
  rfl

theorem Core.porterStart_load {c : Core} {address roll slot stamp : Nat} {rest : List Transfer} (job : c.porter.job = .idle)
    (waiting : c.porter.waiting = .load address roll slot stamp :: rest) : c.porterStart = c.setPorter {
      waiting := rest
      job := .reading { address := address, roll := roll, slot := slot, stamp := stamp, header := none, inFlight := false } } := by
  simp only [Core.porterStart, job, waiting]
  rfl

theorem ReqMgr.exportOf_only {m : ReqMgr} {e : Export} (h : m.exports = [e]) : m.exportOf e.slot e.stamp = some e := by
  simp [ReqMgr.exportOf, h]

/-- The last EXPORT in service ends. -/
theorem Core.endExport_only {c : Core} {e : Export} (h : c.rm.exports = [e]) (o : Res) (d : Nat) :
    c.endExport e o d 0 = (c.setRm { c.rm with exports := [] }).decideReturn
      (Return.plain e.slot e.stamp e.notify e.takenAt o d) := by
  simp only [Core.endExport, h]
  simp
  rfl

/-- Settles O44. -/
theorem indexTransferStarts : Obligations.IndexTransferStarts := by
  refine ⟨?_, fun bay address roll rest s hr job waiting low high => ?_, fun address roll slot stamp rest s hr job waiting => ?_,
    fun s hr rest => ?_⟩
  · rintro _ _ rest e s hr job waiting exports rfl rfl
    have starts := Core.porterStart_export job waiting (ReqMgr.exportOf_only exports)
    refine ⟨fun short => ?_, fun fits => ?_⟩
    · rw [if_pos short] at starts
      exact ⟨_, congrArg Host.Outcome.next (State.runCore_ready hr (starts.trans (Core.endExport_only (by exact exports) _ _))
        (s.ready_sig hr)
        ((Core.decideReturn_endDue _ _).trans (s.ready_endDue hr))), job, rfl, rfl, rfl, rfl⟩
    · rw [if_neg (by omega)] at starts
      exact ⟨_, _, congrArg Host.Outcome.next (State.runCore_leaves hr starts rfl rfl rfl), rfl, rfl, rfl, rfl, rfl, rfl, rfl,
        rfl, rfl, rfl, rfl, rfl, rfl⟩
  · have kept := s.core.roll.bay_setBay_self bay { s.core.roll.bay bay with saved := none } low high
    exact ⟨_, _, congrArg Host.Outcome.next (State.runCore_leaves hr (Core.porterStart_save job waiting) rfl rfl rfl), rfl, rfl,
      rfl, rfl, (congrArg Bay.saved kept).trans rfl, (congrArg Bay.st kept).trans rfl⟩
  · exact congrArg Host.Outcome.next (State.runCore_leaves hr (Core.porterStart_load job waiting) rfl rfl rfl)
  · exact congrArg Host.Outcome.next (State.runCore_leaves hr (Core.porterStart_rest rest) rfl rfl rfl)

/-! ## Installation (R177) -/

/-- The index with what is staged installed. -/
def Core.installedIx (c : Core) : IndexUnit := c.ix.staged.elim c.ix (c.ix.install c.prof)

/-- The catalogue with the bay of the sequence `q` mounted. -/
def Core.installedRoll (c : Core) (q : Seq) : RollMgr :=
  let r := { c.roll.setBay q.bay { c.roll.bay q.bay with st := .mounted } with cassette := some q.bay }
  if q.sourceIsSave && c.ix.staged.isSome then
    r.setBay q.bay { r.bay q.bay with saved := some ((c.ix.staged.map (·.entries.length)).getD 0, c.installedIx.frontier) }
  else r

/-- The core whose import, or none, has been installed for the sequence `q`. -/
def Core.installed (c : Core) (q : Seq) : Core :=
  ((c.setRoll (c.installedRoll q)).setIx c.installedIx).emptyMap.trigger { mountDone := true } true

theorem Core.seqInstall_eq (c : Core) (q : Seq) : c.seqInstall q = (c.installed q).seqDone .done
    (if q.rejected then Det.importRejected else Det.none) ((c.ix.staged.map (·.entries.length)).getD 0) := by
  unfold Core.seqInstall Core.installed Core.installedRoll Core.installedIx
  cases c.ix.staged <;> cases q.sourceIsSave <;> rfl

theorem Core.installedRoll_mounted {c : Core} {q : Seq} (low : 1 ≤ q.bay) (high : q.bay ≤ c.roll.bays.length) :
    ((c.installedRoll q).bay q.bay).st = .mounted := by
  have once := congrArg Bay.st (c.roll.bay_setBay_self q.bay { c.roll.bay q.bay with st := .mounted } low high)
  unfold Core.installedRoll
  dsimp only
  split
  · rw [RollMgr.bay_setBay_self _ _ _ low (by simpa using high)]
    exact once
  · exact once

theorem RollMgr.cassette_setBay (r : RollMgr) (b : Nat) (x : Bay) : (r.setBay b x).cassette = r.cassette := by
  unfold RollMgr.setBay
  split <;> rfl

theorem Core.installedRoll_cassette (c : Core) (q : Seq) : (c.installedRoll q).cassette = some q.bay := by
  unfold Core.installedRoll
  dsimp only
  split
  · exact RollMgr.cassette_setBay ..
  · rfl

section
variable (c : Core) (q : Seq)
@[simp] theorem Core.installed_sig : (c.installed q).sig = c.sig := rfl
@[simp] theorem Core.installed_rm : (c.installed q).rm = c.rm := rfl
@[simp] theorem Core.installed_porter : (c.installed q).porter = c.porter := rfl
@[simp] theorem Core.installed_ix : (c.installed q).ix = c.installedIx := rfl
@[simp] theorem Core.installed_roll : (c.installed q).roll = c.installedRoll q := rfl
@[simp] theorem Core.installed_map : (c.installed q).focus.map = List.replicate 128 none := rfl
@[simp] theorem Core.installed_out : (c.installed q).out =
    c.out ++ [.snapshot { mapEmptied := true } false, .snapshot { mountDone := true } true] := List.append_assoc ..

@[simp] theorem Core.seqOver_sig : c.seqOver.sig = c.sig := rfl
@[simp] theorem Core.seqOver_rm : c.seqOver.rm = c.rm := rfl
@[simp] theorem Core.seqOver_porter : c.seqOver.porter = c.porter := rfl
@[simp] theorem Core.seqOver_ix : c.seqOver.ix = { c.ix with staged := none } := rfl
@[simp] theorem Core.seqOver_roll : c.seqOver.roll = { c.roll with seq := none } := rfl
@[simp] theorem Core.seqOver_focus : c.seqOver.focus = c.focus := rfl
@[simp] theorem Core.seqOver_out : c.seqOver.out = c.out := rfl
end

theorem Core.seqImported_load {c : Core} {q : Seq} (rejected : Bool) (seq : c.roll.seq = some q) (step : q.step = .load)
    (cancel : q.cancel = false) (emptied : q.emptied = false) : c.seqImported rejected =
      ((c.setSeq { q with rejected := rejected }).installed { q with rejected := rejected }).seqDone .done
        (if rejected then Det.importRejected else Det.none) ((c.ix.staged.map (·.entries.length)).getD 0) := by
  simp only [Core.seqImported, seq, step, if_true, Core.seqAfter, cancel, emptied, Core.seqInstall_eq, if_neg Bool.false_ne_true]
  rfl

/-- What an import of a request's sequence leaves: the bay mounted, and the pass ended. -/
structure Core.ImportOver (c : Core) (q : Seq) (rejected : Bool) (e : Core) : Prop where
  sig : e.sig = []
  due : e.endDue = false
  porter : e.porter = c.porter
  ix : e.ix = { c.installedIx with staged := none }
  map : e.focus.map = List.replicate 128 none
  seq : e.roll.seq = none
  mounted : (e.roll.bay q.bay).st = .mounted
  cassette : e.roll.cassette = some q.bay
  out : e.out = c.out ++ [.snapshot { mapEmptied := true } false, .snapshot { mountDone := true } true]
  ended : ∃ w, e.rm.pass = some w ∧ w.ending = some (.fixed .done (if rejected then Det.importRejected else Det.none)) ∧
    w.indexed = (c.ix.staged.map (·.entries.length)).getD 0

/-- The end of an import, in a request's LOAD. -/
theorem Core.Settles.imported {c : Core} {p : Pass} {k : Kind} {q : Seq} (rejected : Bool) (sig : c.sig = [])
    (pass : c.rm.pass = some p) (kind : p.kind = .request k) (seq : c.roll.seq = some q) (step : q.step = .load)
    (cancel : q.cancel = false) (emptied : q.emptied = false) (low : 1 ≤ q.bay) (high : q.bay ≤ c.roll.bays.length) :
    ∃ e, Core.Settles 2 (c.emit (.imported rejected)) e ∧ c.ImportOver q rejected e := by
  have result : c.handle (.imported rejected) = _ := Core.seqImported_load rejected seq step cancel emptied
  have mounted := Core.installedRoll_mounted (c := c.setSeq { q with rejected := rejected })
    (q := { q with rejected := rejected }) low high
  generalize hd : (c.setSeq { q with rejected := rejected }).installed { q with rejected := rejected } = d at result
  have sig' : d.sig = [] := by rw [← hd, Core.installed_sig]; exact sig
  have pass' : d.rm.pass = some p := by rw [← hd, Core.installed_rm]; exact pass
  obtain ⟨port, rm, b, settles, ended, due⟩ := Core.Settles.seqDone sig' pass' kind .done
    (if rejected then Det.importRejected else Det.none) ((c.ix.staged.map (·.entries.length)).getD 0)
  refine ⟨(d.seqOver.setPort port).setRm rm, .emit sig (result ▸ settles), {
    sig := sig', due := due, porter := ?_, ix := ?_, map := ?_, seq := rfl, mounted := ?_, cassette := ?_, out := ?_
    ended := ⟨_, ended, rfl, rfl⟩ }⟩
  all_goals subst hd
  · simp [Core.setSeq]
  · simp [Core.setSeq, Core.installedIx, Core.prof]
  · simp
  · exact mounted
  · simp [Core.installedRoll_cassette]
  · simp [Core.setSeq]

/-! ## The reads of an import (R111) -/

/-- The Porter once an import has been rejected. -/
def Core.importRejected (c : Core) (j : ImportJob) (reason : Nat) : Core :=
  (c.setPorter { c.porter with job := .idle }).setIx { c.ix.emptied with staged := none } |>.fault .importRejected .indexUnit
    reason (auxSlot j.slot j.stamp)

theorem Core.rejectImport_eq (c : Core) (j : ImportJob) (reason : Nat) :
    c.rejectImport j reason = (c.importRejected j reason).emit (.imported true) := rfl

section
variable {c : Core} {j : ImportJob} (job : c.porter.job = .reading j) (inFlight : j.inFlight = true)
include job inFlight

theorem Core.importRead_error : c.importRead .error = c.rejectImport j 1 := by
  simp only [Core.importRead, job, inFlight, if_true]

theorem Core.importRead_head {bs : List Byte} (header : j.header = none) : c.importRead (.data bs) =
    (checkImportHead j.roll bs).elim (c.setPorter { c.porter with
      job := .reading { j with header := some bs, inFlight := false } }) (c.rejectImport j) := by
  simp only [Core.importRead, job, inFlight, if_true, header]
  cases checkImportHead j.roll bs <;> rfl

theorem Core.importRead_body {bs h : List Byte} (header : j.header = some h) (matches' : c.savedMatches h = true) :
    c.importRead (.data bs) = match checkImportBody h (fieldAt h 8 4) bs with
      | .rejected reason => c.rejectImport j reason
      | .passed es => ((c.setPorter { c.porter with job := .idle }).setIx { c.ix with
          staged := some { entries := es, frontier := signedAt h 0x0C 4, pitch := fieldAt h 0x14 4 } }).emit (.imported false) := by
  simp only [Core.importRead, job, inFlight, if_true, header, matches'] <;> rfl
end

theorem Core.savedMatches_request {c : Core} {p : Pass} {k : Kind} (pass : c.rm.pass = some p) (kind : p.kind = .request k)
    (h : List Byte) : c.savedMatches h = true := by
  simp [Core.savedMatches, Core.automatic, pass, kind]

/-- The read that rejects an import, with its reason. -/
theorem Core.importRead_rejects {c : Core} {j : ImportJob} (job : c.porter.job = .reading j) (inFlight : j.inFlight = true)
    (saved : ∀ h, c.savedMatches h = true) {r : ReadEnd} {reason : Nat}
    (h : r = .error ∧ reason = 1 ∨
        (∃ bs, r = .data bs ∧ j.header = none ∧ fieldAt bs 4 4 ≠ j.roll ∧ reason = 3) ∨
        (∃ bs, r = .data bs ∧ j.header = none ∧ fieldAt bs 4 4 = j.roll ∧ 16384 < fieldAt bs 8 4 ∧ reason = 4) ∨
        (∃ bs h, r = .data bs ∧ j.header = some h ∧ checkImportBody h (fieldAt h 8 4) bs = .rejected reason)) :
    c.importRead r = c.rejectImport j reason := by
  rcases h with ⟨rfl, rfl⟩ | ⟨bs, rfl, header, roll, rfl⟩ | ⟨bs, rfl, header, roll, count, rfl⟩ | ⟨bs, h, rfl, header, body⟩
  · exact Core.importRead_error job inFlight
  · rw [Core.importRead_head job inFlight header, checkImportHead, if_pos roll]
    rfl
  · rw [Core.importRead_head job inFlight header, checkImportHead, if_neg (not_not.2 roll), if_pos count]
    rfl
  · rw [Core.importRead_body job inFlight header (saved h), body]

/-- A fault and two snapshots reach the front. -/
theorem State.leaves_fault_snapshots (s : State) {d : Core} {e : FaultEntry} {t u : Triggers} {a b : Bool}
    (out : d.out = [.fault e, .snapshot t a, .snapshot u b]) : (s.leaves d).front.faults = s.front.queued e := by
  have front : (s.leaves d).front = d.out.foldl (Front.take d.idleFollow.escalationFollow) s.front := rfl
  rw [front, out]
  exact (Front.trigger_fields _ _ u b).1.trans ((Front.trigger_fields _ _ t a).1.trans (Front.raiseFault_faults _ _ e))

/-- Settles O45. -/
theorem importReadsEnd : Obligations.ImportReadsEnd := by
  intro j k p q s hr job inFlight pass kind seq step cancel emptied low high
  have saved := Core.savedMatches_request pass kind
  refine ⟨fun bs header roll count => ?_, fun r reason h => ?_, fun bs h header stamps numbered rise range fresh => ?_⟩
  · refine congrArg Host.Outcome.next (State.runCore_leaves hr ((Core.importRead_head job inFlight header).trans ?_) rfl rfl rfl)
    rw [checkImportHead, if_neg (not_not.2 roll), if_neg (not_lt.2 count)]
    rfl
  · have rejects := Core.importRead_rejects (r := r) (reason := reason) job inFlight saved (by
      rcases h with h | h | h | h
      · exact .inl h
      · exact .inr (.inl h)
      · exact .inr (.inr (.inl h))
      · refine .inr (.inr (.inr ?_))
        rcases h with ⟨bs, h, rfl, header, stamps, rfl⟩ | ⟨bs, h, rfl, header, stamps, numbered, rfl⟩ |
          ⟨bs, h, rfl, header, stamps, numbered, rise, rfl⟩ | ⟨bs, h, rfl, header, stamps, numbered, rise, range, rfl⟩
        all_goals
          obtain ⟨unstamped, unnumbered, falls, outOfRange, -⟩ := checkImportBody_spec h bs
          refine ⟨bs, h, rfl, header, ?_⟩
        · exact unstamped stamps
        · exact unnumbered stamps numbered
        · exact falls stamps numbered rise
        · exact outOfRange stamps numbered rise range)
    obtain ⟨e, settles, final⟩ := Core.Settles.imported (c := s.core.importRejected j reason) true (s.ready_sig hr) pass kind seq
      step cancel emptied low high
    obtain ⟨w, ended, ending, indexed⟩ := final.ended
    have queued : (s.core.importRejected j reason).out = _ :=
      Core.fault_out_alone (c := (s.core.setPorter _).setIx _) (s.ready_out hr) .importRejected .indexUnit reason _
    exact ⟨_, congrArg Host.Outcome.next (State.runCore_settles hr rejects settles (by decide) final.due),
      congrArg Porter.job final.porter, congrArg IndexUnit.entries final.ix, congrArg IndexUnit.frontier final.ix,
      congrArg IndexUnit.staged final.ix,
      final.seq, final.mounted, ⟨w, ended, ending, indexed⟩, State.leaves_fault_snapshots _ (final.out.trans
        (congrArg (· ++ [.snapshot { mapEmptied := true } false, .snapshot { mountDone := true } true]) queued))⟩
  · obtain ⟨es, body, entries⟩ := (checkImportBody_spec h bs).2.2.2.2 stamps numbered rise range
    obtain ⟨length, each⟩ := entriesOf_some entries
    have reads := Core.importRead_body (bs := bs) job inFlight header (saved h)
    rw [body] at reads
    obtain ⟨e, settles, final⟩ := Core.Settles.imported (c := (s.core.setPorter { s.core.porter with job := .idle }).setIx
      { s.core.ix with staged := some { entries := es, frontier := signedAt h 0x0C 4, pitch := fieldAt h 0x14 4 } }) false
      (s.ready_sig hr) pass kind seq step cancel emptied low high
    obtain ⟨w, ended, ending, indexed⟩ := final.ended
    have status : (if es.length = 0 then ImportStatus.none else .unconfirmed) = if es = [] then .none else .unconfirmed := by
      simp only [List.length_eq_zero_iff]
    exact ⟨_, es, congrArg Host.Outcome.next (State.runCore_settles hr reads settles (by decide) final.due),
      congrArg Porter.job final.porter, final.seq, length, each, final.mounted, final.cassette, congrArg IndexUnit.entries final.ix,
      congrArg IndexUnit.frontier final.ix, (congrArg IndexUnit.importStatus final.ix).trans status,
      (congrArg IndexUnit.drift final.ix).trans rfl, final.map, w, ended, ending, indexed⟩

end Sys2Proof.Machine
end

section
/-!
SUPPORT. The film's inputs and counts: EXT_STOP and Film Present (R49, R59, R61), the search's limit (R66), the relax ramp's
end (R69), and the tachometer (R60, R63).
-/

namespace Sys2Proof.Machine

/-! ## EXT_STOP and Film Present -/

theorem State.ready_notHeld {s : State} (hr : s.ready = true) : s.core.modes.mode ≠ .held := (s.ready_iff.1 hr).1

theorem Core.extAsserted_idle {c : Core} (h : c.pins.extStop = true ∨ c.tr.stopSensitive = false) :
    c.extAsserted = c.setPins { c.pins with extStop := true } := by
  rw [Core.extAsserted]
  exact if_neg (by rcases h with h | h <;> simp [h])

theorem Core.filmLevel_present (c : Core) : c.filmLevel true = c.setPins { c.pins with filmPresent := true } :=
  if_neg (by simp)

theorem Core.filmLevel_cleared {c : Core} (h : c.pins.filmPresent = true) :
    c.filmLevel false = (c.setPins { c.pins with filmPresent := false }).filmLost := if_pos (by simp [h])

theorem Core.filmLevel_idle {c : Core}
    (h : c.pins.filmPresent = false ∨ c.tr.st = .unthreaded ∨ c.tr.st = .fault ∨ c.tr.st = .unreferenced) :
    c.filmLevel false = c.setPins { c.pins with filmPresent := false } := by
  rcases h with h | h | h | h
  · exact if_neg (by simp [h])
  all_goals
    unfold Core.filmLevel Core.filmLost
    dsimp only [Core.setPins_tr]
    rw [h]
    exact ite_self _

/-- Settles O42. -/
theorem inputsWithoutSafetyEvent : Obligations.InputsWithoutSafetyEvent := by
  refine ⟨fun s => ⟨rfl, rfl, rfl⟩, fun s hr h => ?_, fun s hr => ?_, fun s hr h => ?_, fun s hr present st => ?_⟩
  · exact (if_neg (State.ready_notHeld hr)).trans (congrArg Host.Outcome.next
      (State.runCore_leaves hr (Core.extAsserted_idle h) rfl rfl rfl))
  · exact (if_neg (State.ready_notHeld hr)).trans (congrArg Host.Outcome.next
      (State.runCore_leaves hr (Core.filmLevel_present s.core) rfl rfl rfl))
  · exact (if_neg (State.ready_notHeld hr)).trans (congrArg Host.Outcome.next
      (State.runCore_leaves hr (Core.filmLevel_idle h) rfl rfl rfl))
  · have lost := Core.filmLevel_cleared present
    simp only [Core.filmLost, Core.setPins_tr, st] at lost
    exact ⟨_, (if_neg (State.ready_notHeld hr)).trans (congrArg Host.Outcome.next
      (State.runCore_leaves hr lost rfl rfl rfl)), rfl, rfl, rfl, rfl, rfl, rfl, rfl, s.leaves_front (s.ready_out hr)⟩

/-! ## The search's limit and the relax ramp's end -/

/-- The transport relaxed. -/
def Core.relaxed (c : Core) : Core :=
  c.drivesOff.setTr { c.drivesOff.tr with st := .relaxed, relaxRamp := none, wakePending := false }

theorem Core.relaxEnd_eq (c : Core) : c.relaxEnd =
    (if c.tr.wakePending || c.tr.waiting.isSome || c.tr.waitingUnthread then c.relaxed.startWake else c.relaxed).emit
      (.modeReply .relaxed) := by
  simp only [Core.relaxEnd]
  change (if c.tr.wakePending || c.tr.waiting.isSome || c.tr.waitingUnthread then _ else _) = _
  split <;> rfl

/-- Settles O43. -/
theorem searchLimitAndRelaxEnd : Obligations.SearchLimitAndRelaxEnd := by
  refine ⟨fun s hr st step braking => ⟨fun far => ?_, fun near => ?_⟩, fun x s hr ramp => ?_⟩
  · exact congrArg Host.Outcome.next (State.runCore_leaves hr (if_pos ⟨st, step, braking, far⟩) rfl rfl rfl)
  · exact congrArg Host.Outcome.next (State.runCore_leaves hr (if_neg fun h => by have := h.2.2.2; omega) rfl rfl rfl)
  · have ends := (Core.when_true (show s.core.tr.relaxRamp.isSome = true by rw [ramp]; rfl) Core.relaxEnd).trans s.core.relaxEnd_eq
    refine ⟨fun pending waiting unthread => ?_, fun waits => ?_⟩
    · rw [if_neg (by simp [pending, waiting, unthread])] at ends
      exact ⟨_, congrArg Host.Outcome.next (State.runCore_emit hr ends (s.ready_sig hr) rfl (s.ready_sig hr) (s.ready_endDue hr)),
        rfl, rfl, rfl, rfl, rfl, rfl, rfl, rfl, rfl, s.leaves_front (s.ready_out hr)⟩
    · rw [if_pos (by rcases waits with h | h | h <;> simp [h, Option.isSome_iff_ne_none])] at ends
      exact ⟨_, congrArg Host.Outcome.next (State.runCore_emit hr ends (s.ready_sig hr) rfl (s.ready_sig hr) (s.ready_endDue hr)),
        rfl, rfl, rfl, rfl, rfl, rfl⟩

/-! ## Marks and limits that a count or a pulse can reach -/

theorem Transport.unthreadMark_shape (t : Transport) : ∃ b, t.unthreadMark = { t with unthreadSlow := b } ∧
    ∀ l, t.st = .unthreading → t.lTu = some l → b = (t.unthreadSlow || decide (l < 400000)) := by
  unfold Transport.unthreadMark
  split
  · next l st left =>
    refine ⟨_, rfl, fun m _ h => ?_⟩
    cases left.symm.trans h
    rfl
  · next away => exact ⟨t.unthreadSlow, rfl, fun l st left => absurd left (away l st)⟩

theorem Core.limitCheck_none {c : Core} (h : c.tr.plan = none) : c.limitCheck = c := by
  simp only [Core.limitCheck, Core.withPlan, h]

theorem Core.limitCheck_some {c : Core} {pl : Plan} (h : c.tr.plan = some pl) : c.limitCheck =
    if c.tr.st = .move && c.tr.phase.limited && c.limitReached pl then
      c.setTr { c.tr with phase := .brake .filmEnd, settleCount := none } else c := by
  simp only [Core.limitCheck, Core.withPlan, h]

/-- A limit changes the phase alone, and brakes a cruise exactly when it is reached. -/
theorem Core.limitCheck_shape (c : Core) : ∃ (ph : Phase) (n : Option Nat),
    c.limitCheck = c.setTr { c.tr with phase := ph, settleCount := n } ∧
    ∀ pl, c.tr.st = .move → c.tr.plan = some pl → c.tr.phase = .cruise →
      (c.limitReached pl = true → ph = .brake .filmEnd) ∧ (c.limitReached pl = false → ph = .cruise) := by
  cases hp : c.tr.plan with
  | none => exact ⟨c.tr.phase, c.tr.settleCount, Core.limitCheck_none hp, fun _ _ h => nomatch h⟩
  | some pl =>
    rw [Core.limitCheck_some hp, ← hp]
    split
    · next h =>
      refine ⟨_, _, rfl, fun pl' st same ph => ⟨fun _ => rfl, fun away => ?_⟩⟩
      cases hp.symm.trans same
      simp [away] at h
    · next h =>
      refine ⟨c.tr.phase, c.tr.settleCount, rfl, fun pl' st same ph => ⟨fun reached => ?_, fun _ => ph⟩⟩
      cases hp.symm.trans same
      exact absurd (by simp [st, ph, Phase.limited, reached]) h

theorem Core.limitReached_run {c : Core} {pl : Plan} {d : Dir} {v : Nat} {e : Option Int} {ext : Bool}
    (dir : c.tr.dir = .forward) (order : pl.order = .run d v e ext) :
    c.limitReached pl = decide (c.tr.lRem ≤ c.prof.endMargin) := by
  simp only [Core.limitReached, dir, order]

theorem Core.limitReached_reverse {c : Core} (pl : Plan) (dir : c.tr.dir = .reverse) :
    c.limitReached pl = decide (c.tr.p ≤ -(c.prof.reverseMargin : Int)) := by
  simp only [Core.limitReached, dir]

/-! ## The tachometer (R60, R63) -/

section
variable (g : Option ReelType) (now : Nat) (r : Reel)

theorem Reel.pulse_stall : (r.pulse g now).stall = r.stall.map fun _ => now := by
  unfold Reel.pulse
  dsimp only
  split
  · rfl
  · split <;> rfl
  · rfl

theorem Reel.pulse_opens (h : r.window = none) : (r.pulse g now).window = some Window.opened ∧
    (r.pulse g now).radius = r.radius ∧ (r.pulse g now).length = r.length := by
  unfold Reel.pulse
  simp only [h, and_self]

theorem Reel.pulse_counts {w : Window} (h : r.window = some w) (few : w.pulses < 63) :
    (r.pulse g now).window = some { w with pulses := w.pulses + 1 } ∧
    (r.pulse g now).radius = r.radius ∧ (r.pulse g now).length = r.length := by
  unfold Reel.pulse
  cases g <;> simp only [h, Nat.not_le.2 few, if_false, and_self]

/-- The 64th pulse measures the radius. -/
theorem Reel.pulse_measures {w : Window} {g : ReelType} (h : r.window = some w) (many : 63 ≤ w.pulses) :
    (r.pulse (some g) now).window = some Window.opened ∧
    (r.pulse (some g) now).radius = some (clampNat g.hub g.flange ((2 * (w.counts * 565) + 710) / 1420)) ∧
    (r.pulse (some g) now).length = filmLength g (clampNat g.hub g.flange ((2 * (w.counts * 565) + 710) / 1420)) := by
  unfold Reel.pulse
  simp only [h, many, if_true, true_and]
  exact ⟨rfl, rfl⟩

end

/-- The transport with the reel of a side replaced. -/
def Transport.withReel (t : Transport) (r : Reel) : Side → Transport
  | .supply => { t with supply := r }
  | .takeUp => { t with takeUp := r }

/-- The reel of a side. -/
def Transport.reel (t : Transport) : Side → Reel
  | .supply => t.supply
  | .takeUp => t.takeUp

theorem Core.tach_driven {c : Core} (h : c.tr.timerRuns = true) (side : Side) : c.tach side =
    (c.setTr (c.tr.withReel ((c.tr.reel side).pulse c.tr.geometry c.now) side).unthreadMark).limitCheck := by
  unfold Core.tach
  rw [if_pos h]
  cases side <;> rfl

/-- Settles O36. -/
theorem tachometerWindowMeasuresRadius : Obligations.TachometerWindowMeasuresRadius := by
  refine ⟨fun side old s hr runs hold => ?_, fun side s hr rest => ?_⟩
  · have hold : old = s.core.tr.reel side := by cases side <;> exact hold
    obtain ⟨slow, marked, mark⟩ := Transport.unthreadMark_shape
      (s.core.tr.withReel ((s.core.tr.reel side).pulse s.core.tr.geometry s.core.now) side)
    obtain ⟨ph, n, checked, limit⟩ := Core.limitCheck_shape (s.core.setTr
      (s.core.tr.withReel ((s.core.tr.reel side).pulse s.core.tr.geometry s.core.now) side).unthreadMark)
    have effect := (Core.tach_driven runs side).trans checked
    rw [marked] at effect limit
    rw [← hold] at effect limit mark
    generalize hr' : old.pulse s.core.tr.geometry s.core.now = r at effect limit mark
    refine ⟨_, r, congrArg Host.Outcome.next (State.runCore_leaves hr effect rfl rfl rfl), ?_⟩
    refine ⟨?_, ?_, ?_, ?_, ?_, ?_, rfl, rfl, rfl, s.leaves_front (s.ready_out hr), ?_, ?_, ?_, ?_, ?_, ?_, ?_⟩
    · rintro rfl; exact ⟨rfl, rfl⟩
    · rintro rfl; exact ⟨rfl, rfl⟩
    · cases side <;> rfl
    · cases side <;> rfl
    · cases side <;> rfl
    · cases side <;> rfl
    · intro counting
      rw [← hr', Reel.pulse_stall]
      obtain ⟨n, hn⟩ := Option.ne_none_iff_exists'.1 counting
      rw [hn]; rfl
    · intro rest
      rw [← hr', Reel.pulse_stall, rest]; rfl
    · exact fun opens => hr' ▸ Reel.pulse_opens _ _ _ opens
    · exact fun w counts few => hr' ▸ Reel.pulse_counts _ _ _ counts few
    · intro w g counts many geometry inOrder
      rw [geometry] at hr'
      obtain ⟨window, radius, length⟩ := Reel.pulse_measures s.core.now old (g := g) counts many
      obtain ⟨low, high, same⟩ := clampNat_spec ((2 * (w.counts * 565) + 710) / 1420) inOrder
      exact hr' ▸ ⟨window, _, radius, low, high, same, length⟩
    · intro pl d v e ext st plan order dir cruise
      have forward : (s.core.tr.withReel r side).dir = .forward := by cases side <;> exact dir
      obtain ⟨reaches, away⟩ := limit pl (by cases side <;> exact st) (by cases side <;> exact plan)
        (by cases side <;> exact cruise)
      rw [Core.limitReached_run forward order] at reaches away
      exact ⟨fun h => reaches (decide_eq_true h), fun h => away (decide_eq_false (not_le.2 h))⟩
    · intro l st left
      exact (mark l (by cases side <;> exact st) left).trans (by cases side <;> rfl)
  · exact congrArg Host.Outcome.next (State.runCore_leaves hr (if_neg (by simp [rest])) rfl rfl rfl)

end Sys2Proof.Machine
end

section
/-! SUPPORT. The tension regulator's period (R57 to R59) and the relax ramp's torques (R69). -/

namespace Sys2Proof.Machine

theorem clampInt_eq {a b : Int} (h : a ≤ b) (x : Int) : clampInt a b x = max a (min b x) := by
  unfold clampInt
  split <;> [skip; split] <;> omega

/-! ## The band -/

theorem bandOf_low (p : Profile) (code : Nat) :
    bandOf p code = .low ↔ (code : Int) < (p.tensionSetpoint : Int) - p.tensionBand := by
  unfold bandOf
  split
  · simp [*]
  · split <;> simp [*]

theorem bandOf_high (p : Profile) (code : Nat) : bandOf p code = .high ↔ p.tensionSetpoint + p.tensionBand < code := by
  unfold bandOf
  split
  · simp; omega
  · split <;> simp [*]

theorem bandOf_inside (p : Profile) (code : Nat) : bandOf p code = .inside ↔
    (p.tensionSetpoint : Int) - p.tensionBand ≤ code ∧ code ≤ p.tensionSetpoint + p.tensionBand := by
  unfold bandOf
  split
  · simp; omega
  · split <;> simp <;> omega

/-! ## One dancer's period -/

section
variable (d : Dancer) (p : Profile) (now code : Nat) (watch : Bool)

/-- The running sum that the error would give (R57). -/
def Dancer.grown : Int := max (-1048575) (min 1048575 (d.sum + ((p.tensionSetpoint : Int) - code)))

theorem Dancer.period_sum : (d.period p now code watch).sum =
    if d.clamped = true ∧ |d.sum| < |d.grown p code| then d.sum else d.grown p code := by
  simp only [Dancer.period, Dancer.grown, clampInt_eq (show (-1048575 : Int) ≤ 1048575 by decide), Bool.and_eq_true,
    decide_eq_true_eq]
  congr

theorem Dancer.period_correction {raw : Int} (h : raw = (p.kp : Int) * ((p.tensionSetpoint : Int) - code) * 4 +
    (p.ki : Int) * (d.period p now code watch).sum) : (d.period p now code watch).correction = max (-64000) (min 64000 raw) ∧
      ((d.period p now code watch).clamped = true ↔ 64000 < |raw|) := by
  subst h
  rw [← clampInt_eq (by decide)]
  exact ⟨rfl, decide_eq_true_iff⟩

theorem Dancer.period_unwatched : (d.period p now code false).out = none := rfl

/-- The out-of-band count of a dancer that is watched (R58). -/
theorem Dancer.period_out : (d.period p now code true).out = match bandOf p code, d.out with
    | .inside, _ => none
    | .low, some (false, t) => some (false, t)
    | .high, some (true, t) => some (true, t)
    | .low, _ => some (false, now)
    | .high, _ => some (true, now) := rfl

end

theorem relaxLeft_abs (last : Int) (most : Nat) : |relaxLeft last most| ≤ |last| := by
  unfold relaxLeft
  rw [Int.abs_eq_natAbs, Int.abs_eq_natAbs]
  split <;> omega

/-- What R57 and R58 say of one dancer's period. -/
theorem Dancer.period_spec (d : Dancer) (p : Profile) (now code : Nat) (watch : Bool) {e : Dancer}
    (he : e = d.period p now code watch) (grown raw : Int)
    (hg : grown = max (-1048575) (min 1048575 (d.sum + ((p.tensionSetpoint : Int) - code))))
    (hr : raw = (p.kp : Int) * ((p.tensionSetpoint : Int) - code) * 4 + (p.ki : Int) * e.sum) :
    (d.clamped = false ∨ |grown| ≤ |d.sum| → e.sum = grown) ∧
    (d.clamped = true → |d.sum| < |grown| → e.sum = d.sum) ∧
    e.correction = max (-64000) (min 64000 raw) ∧ (e.clamped = true ↔ 64000 < |raw|) ∧
    (watch = false → e.out = none) ∧
    (watch = true →
      (p.tensionSetpoint + p.tensionBand < code →
        (∀ n, d.out = some (true, n) → e.out = some (true, n)) ∧
        (d.out = none ∨ (∃ n, d.out = some (false, n)) → e.out = some (true, now))) ∧
      ((code : Int) < (p.tensionSetpoint : Int) - p.tensionBand →
        (∀ n, d.out = some (false, n) → e.out = some (false, n)) ∧
        (d.out = none ∨ (∃ n, d.out = some (true, n)) → e.out = some (false, now))) ∧
      ((p.tensionSetpoint : Int) - p.tensionBand ≤ code →
        code ≤ p.tensionSetpoint + p.tensionBand → e.out = none)) := by
  subst he
  have grown_eq : d.grown p code = grown := hg.symm
  have sum := d.period_sum p now code watch
  rw [grown_eq] at sum
  obtain ⟨correction, clamped⟩ := d.period_correction p now code watch hr
  refine ⟨fun h => ?_, fun h g => sum.trans (if_pos ⟨h, g⟩), correction, clamped, ?_, ?_⟩
  · refine sum.trans (if_neg fun g => ?_)
    rcases h with h | h
    · simp [h] at g
    · exact absurd g.2 (not_lt.2 h)
  · rintro rfl; rfl
  · rintro rfl
    rw [d.period_out]
    refine ⟨fun h => ?_, fun h => ?_, fun h g => ?_⟩
    · rw [(bandOf_high p code).2 h]
      refine ⟨fun n hn => by rw [hn], fun hn => ?_⟩
      rcases hn with hn | ⟨n, hn⟩ <;> rw [hn]
    · rw [(bandOf_low p code).2 h]
      refine ⟨fun n hn => by rw [hn], fun hn => ?_⟩
      rcases hn with hn | ⟨n, hn⟩ <;> rw [hn]
    · rw [(bandOf_inside p code).2 ⟨h, g⟩]

/-! ## The period -/

/-- The reference with its direction's sign, in 1/1000 mm/s. -/
def Transport.signedRef (t : Transport) : Int := if t.dir = .forward then (t.vRef : Int) else -(t.vRef : Int)

/-- The pins and the free values after a period's torques. -/
theorem Core.driveReels_shape (c : Core) (v : Int) (s u : Dancer) : ∃ (x y : Int) (n : Nat),
    c.driveReels v s u = { c.setPins { c.pins with torqueSupply := x, torqueTakeUp := y } with free := n } ∧
    (c.tr.relaxRamp = none → x = 64 * Config.followTorque true v + s.correction ∧
      y = 64 * Config.followTorque false v + u.correction) ∧
    (c.tr.relaxRamp ≠ none → |x| ≤ |c.pins.torqueSupply| ∧ |y| ≤ |c.pins.torqueTakeUp|) := by
  unfold Core.driveReels
  split
  · next h => exact ⟨_, _, _, rfl, fun g => by simp [g] at h, fun _ => ⟨relaxLeft_abs .., relaxLeft_abs ..⟩⟩
  · next h => exact ⟨_, _, c.free, rfl, fun _ => ⟨rfl, rfl⟩, fun g => absurd (Option.isSome_iff_ne_none.2 g) h⟩

/-- The transport after a period: the dancers, and the count toward established tension. -/
def Core.regulated (c : Core) (a b : Nat) : Transport :=
  { c.tr with
    supplyDancer := c.tr.supplyDancer.period c.prof c.now a c.tr.watching
    takeUpDancer := c.tr.takeUpDancer.period c.prof c.now b c.tr.watching
    inBand := if bandOf c.prof a = .inside ∧ bandOf c.prof b = .inside then
        (if c.tr.inBand.isSome then c.tr.inBand else c.tick) else none }

/-- A period whose dancers raise no event. -/
theorem Core.regulate_calm {c : Core} {a b : Nat}
    (calm : c.tr.watching = false ∨ (15 < a ∧ a < 4080 ∧ 15 < b ∧ b < 4080)) : c.regulate a b =
      ((c.setPins { c.pins with dancerSupply := a, dancerTakeUp := b }).driveReels c.tr.signedRef
        (c.tr.supplyDancer.period c.prof c.now a c.tr.watching)
        (c.tr.takeUpDancer.period c.prof c.now b c.tr.watching)).setTr (c.regulated a b) := by
  have quiet (x : Nat) (h : x = a ∨ x = b) : ¬ (c.tr.watching && endStop x) = true := by
    rcases calm with off | inside
    · simp [off]
    · simp [endStop]; omega
  unfold Core.regulate
  dsimp only
  rw [if_neg (quiet a (.inl rfl)), if_neg (quiet b (.inr rfl))]
  simp only [Core.regulated, Transport.signedRef, decide_eq_true_eq]
  cases c.tr.dir <;> rfl

/-- Settles O39. -/
theorem regulatorPeriodSamplesDancers : Obligations.RegulatorPeriodSamplesDancers := by
  refine ⟨fun a b s hr runs calm => ?_, bandOf_inside, fun a b s hr rest => ?_⟩
  · obtain ⟨x, y, n, driven, follows, falls⟩ := Core.driveReels_shape
      (s.core.setPins { s.core.pins with dancerSupply := a, dancerTakeUp := b }) s.core.tr.signedRef
      (s.core.tr.supplyDancer.period s.core.prof s.core.now a s.core.tr.watching)
      (s.core.tr.takeUpDancer.period s.core.prof s.core.now b s.core.tr.watching)
    have effect := (Core.when_true runs fun c => c.regulate a b).trans (Core.regulate_calm calm)
    rw [driven] at effect
    refine ⟨_, congrArg Host.Outcome.next (State.runCore_leaves hr effect rfl rfl rfl), rfl, rfl, rfl, rfl,
      s.leaves_front (s.ready_out hr), ?_, fun both => ?_, fun either => ?_, fun off v hv => ?_, fun on => falls on⟩
    · rintro code old new (⟨rfl, rfl, hn⟩ | ⟨rfl, rfl, hn⟩) grown raw hg hraw
      all_goals exact Dancer.period_spec _ _ _ _ _ hn grown raw hg hraw
    · refine (if_pos both).trans ?_
      cases s.core.tr.inBand <;> rfl
    · exact if_neg fun h => by rcases either with g | g <;> [exact g h.1; exact g h.2]
    · subst hv
      exact follows off
  · exact congrArg Host.Outcome.next (State.runCore_leaves hr (Core.when_false rest _) rfl rfl rfl)

end Sys2Proof.Machine
end

section
/-!
SUPPORT. Tension established (R57, R66, R70, R71), the SETTLE's timeout (R56) and the profile timer (R53): starts, stops and
rests of a transport with no compare armed and no forward motion under way.
-/

namespace Sys2Proof.Machine

/-! ## Reports that nothing follows -/

/-- Reports each of which changes nothing. -/
theorem Core.Settles.unanswered {l : List Signal} (h : ∀ x ∈ l, ∀ d : Core, d.handle x = d) {c : Core} (sig : c.sig = l) :
    Core.Settles l.length c { c with sig := [] } := by
  induction l generalizing c with
  | nil =>
    rw [show ({ c with sig := [] } : Core) = c by rw [← sig]]
    exact .quiet sig
  | cons x l ih =>
    refine .reported sig (h x List.mem_cons_self _) ?_
    exact ih (c := { c with sig := l }) (fun y hy => h y (List.mem_cons_of_mem _ hy)) rfl

theorem Core.handle_passAwake (c : Core) : c.handle (.passReply .awake) = c := by
  simp only [Core.handle, Core.passReply]
  split
  · rfl
  · split <;> rfl

theorem Core.handle_rollAwake (c : Core) : c.handle (.rollReply .awake) = c := by
  simp only [Core.handle, Core.seqReply]
  split <;> rfl

/-! ## An unmoved transport -/

theorem Core.unmoved_iff (c : Core) : c.unmoved = true ↔ c.cap.armed = none ∧ c.ix.motion = none := by
  simp [Core.unmoved]

theorem Core.disarm_of_none {c : Core} (h : c.cap.armed = none) : c.disarm = c := by
  simp only [Core.disarm, h]

/-- A transport whose motion has been left. -/
def Transport.stilled (t : Transport) : Transport :=
  { t with
    plan := none, vRef := 0, settleCount := none, stopWaits := false, feedCount := none
    supply := t.supply.undriven, takeUp := t.takeUp.undriven }

theorem Core.leaveMotion_unmoved {c : Core} (h : c.unmoved = true) :
    c.leaveMotion = (c.setIx { c.ix with unit := .off }).setTr c.tr.stilled := by
  obtain ⟨armed, motion⟩ := c.unmoved_iff.1 h
  rw [Core.leaveMotion, Core.disarm_of_none armed, Core.endMotion_of_none motion]
  rfl

theorem Core.enterHold_unmoved {c : Core} (h : c.unmoved = true) :
    c.enterHold = (c.setIx { c.ix with unit := .off }).setTr c.tr.rested := by
  rw [Core.enterHold, Core.leaveMotion_unmoved h]
  rfl

theorem Core.startLeg_disarmed {c : Core} (h : c.cap.armed = none) (pl : Plan) (ph : Phase) :
    c.startLeg pl ph = c.setTr { c.tr with st := .move, plan := some pl, phase := ph, dir := pl.leg.dir, settleCount := none } := by
  rw [Core.startLeg, Core.disarm_of_none h, ite_self]

/-- The core from whose rest an order is planned. -/
def Core.resting (c : Core) : Core :=
  (c.setTr { c.tr with vRef := 0, supply := c.tr.supply.unstalled, takeUp := c.tr.takeUp.unstalled }).setIx c.ix.mayBegin

/-- The plan of an order from rest. -/
def Core.restPlan (c : Core) (retried : Bool) : MoveOrder → Plan
  | .position t => c.resting.positionPlan t (c.resting.firstLeg t) retried
  | .run d v e ext => runPlan d v e ext

/-- The phase in which an order from rest begins. -/
def Core.restPhase (c : Core) : MoveOrder → Phase
  | .position t => if c.resting.firstLeg t = .creep then .creep else .accel
  | .run _ _ _ _ => .accel

theorem Core.planFromRest_eq (c : Core) (o : MoveOrder) (retried : Bool) :
    c.planFromRest o retried = c.resting.startLeg (c.restPlan retried o) (c.restPhase o) := by
  cases o <;> rfl

theorem Core.restPlan_order (c : Core) (o : MoveOrder) (retried : Bool) : (c.restPlan retried o).order = o := by
  cases o <;> rfl

/-- `e` is `c` with an order planned from rest: besides the transport only the index may begin a motion. -/
structure Core.Planned (c : Core) (o : MoveOrder) (retried : Bool) (e : Core) : Prop where
  frame : e = { c with tr := e.tr, ix := c.ix.mayBegin }
  tr : e.tr = { c.resting.tr with
    st := .move, plan := some (c.restPlan retried o), phase := c.restPhase o, dir := (c.restPlan retried o).leg.dir
    settleCount := none }

/-- An order planned from rest with no compare armed. -/
theorem Core.planFromRest_disarmed {c : Core} (h : c.cap.armed = none) (o : MoveOrder) (retried : Bool) :
    c.Planned o retried (c.planFromRest o retried) := by
  rw [c.planFromRest_eq, Core.startLeg_disarmed (c := c.resting) h]
  exact ⟨rfl, rfl⟩

/-- The transport at the start of an unthread. -/
def Transport.unthreads (t : Transport) (ending : Bool) : Transport :=
  { t with
    st := .unthreading, tensioning := false, plan := none, dir := .reverse, vRef := 0, unthreadSlow := false
    unthreadEnding := ending, resetBraking := false, tensionTest := false, testCount := none }

/-- `e` is `c` with an unthread begun: besides the transport only the Index Unit's state follows. -/
structure Core.Unthreads (c e : Core) : Prop where
  frame : e = { c with tr := e.tr, ix := { c.ix with unit := .off } }
  tr : ∃ slow, e.tr = { c.tr.unthreads (!c.pins.filmPresent) with unthreadSlow := slow } ∧
    (∀ l, c.tr.lTu = some l → slow = decide (l < 400000)) ∧ (c.tr.lTu = none → slow = false)

/-- The take-up reel's film makes an unthread slow from its start (R68). -/
theorem Transport.unthreadMark_unthreads (t : Transport) (ending : Bool) : ∃ slow,
    (t.unthreads ending).unthreadMark = { t.unthreads ending with unthreadSlow := slow } ∧
    (∀ l, t.lTu = some l → slow = decide (l < 400000)) ∧ (t.lTu = none → slow = false) := by
  have same : (t.unthreads ending).lTu = t.lTu := rfl
  unfold Transport.unthreadMark
  split
  · next l _ left =>
    refine ⟨_, rfl, fun m h => ?_, fun h => ?_⟩
    · cases left.symm.trans (same.trans h)
      rfl
    · cases left.symm.trans (same.trans h)
  · next away => exact ⟨false, rfl, fun l left => absurd (same.trans left) (away l rfl), fun _ => rfl⟩

theorem Core.startUnthread_unmoved {c : Core} (h : c.unmoved = true) : c.Unthreads c.startUnthread := by
  obtain ⟨armed, motion⟩ := c.unmoved_iff.1 h
  obtain ⟨slow, marked, mark⟩ := c.tr.unthreadMark_unthreads !c.pins.filmPresent
  have starts : c.startUnthread = (c.setIx { c.ix with unit := .off }).setTr { c.tr.unthreads (!c.pins.filmPresent) with
      unthreadSlow := slow } := by
    rw [← marked, Core.startUnthread, Core.disarm_of_none armed, Core.endMotion_of_none motion]
    rfl
  rw [starts]
  exact ⟨rfl, slow, rfl, mark⟩

/-! ## Tension established -/

/-- The transport whose wake has ended. -/
def Transport.awake (t : Transport) : Transport :=
  { t with tensioning := false, wakeCount := none, waiting := none, waitingUnthread := false, wakeWaits := false }

/-- What a WAKE that waits is told. -/
def awakeReply (waits : Bool) : List Signal := if waits then [.modeReply .awake] else []

theorem Core.modeAnswer_awake (c : Core) (waits : Bool) : c.modeAnswer waits .awake = c.report (awakeReply waits) := by
  cases waits
  · exact (Core.report_nil c).symm
  · rfl

/-- A wake that ends: AWAKE to the WAKE that waits, and then to the orders that waited, which change nothing but the reply. -/
theorem Core.Settles.awake {c : Core} {waits : Bool} {l : List Signal} (sig : c.sig = awakeReply waits ++ l)
    (h : ∀ x ∈ l, ∀ d : Core, d.handle x = d) : ∃ n, n ≤ 1 + l.length ∧ Core.Settles n c { c with
      sig := [], modes := { c.modes with reply := if waits then some .awake else c.modes.reply } } := by
  cases waits with
  | false => exact ⟨l.length, by omega, .unanswered h sig⟩
  | true =>
    refine ⟨l.length + 1, by omega, .reported sig rfl ?_⟩
    exact .unanswered (c := { c with sig := l, modes := { c.modes with reply := some .awake } }) h rfl

/-- The core whose wake has ended, with the reports that tell of it; `l` is what an order that waited is told. -/
def Core.awoken (c : Core) (l : List Signal) : Core :=
  { c with tr := c.tr.awake, ix := c.ix.noticeWake, sig := c.sig ++ (awakeReply c.tr.wakeWaits ++ l) }

theorem Core.awoken_eq (c : Core) (l : List Signal) : c.awoken l =
    (((c.setTr c.tr.awake).setIx c.ix.noticeWake).modeAnswer c.tr.wakeWaits .awake).report l := by
  rw [Core.modeAnswer_awake, Core.report_report]
  rfl

section
variable {c : Core}

theorem Core.wakeDone_idle (unthread : c.tr.waitingUnthread = false) (waiting : c.tr.waiting = none) :
    c.wakeDone = c.awoken [] := by
  rw [Core.awoken_eq, Core.report_nil]
  simp only [Core.wakeDone, Transport.awake, waiting, unthread]
  rfl

theorem Core.wakeDone_order {m : MoveOrder} (unthread : c.tr.waitingUnthread = false) (waiting : c.tr.waiting = some m) :
    c.wakeDone = (c.awoken [.passReply .awake]).startOrder m := by
  rw [Core.awoken_eq]
  simp only [Core.wakeDone, Transport.awake, waiting, unthread]
  rfl

theorem Core.wakeDone_unthread (unthread : c.tr.waitingUnthread = true) :
    c.wakeDone = (c.awoken [.rollReply .awake]).startUnthread := by
  rw [Core.awoken_eq]
  simp only [Core.wakeDone, Transport.awake, unthread]
  rfl

end

/-- The core in which tension has been established. -/
def Core.tensioned (c : Core) : Core := c.setTr { c.tr with established := true }

theorem Core.tensionSet_threading {c : Core} (st : c.tr.st = .threading) (feed : c.tr.threadStep = .feed)
    (braking : c.tr.resetBraking = false) : c.tensionSet = (c.setTr { c.tr with
      established := true, threadStep := .seek, markP := c.tr.p, feedCount := none }).setIx c.ix.beginSearch := by
  simp only [Core.tensionSet, st, feed, braking, and_self, if_true]
  rfl

theorem Core.tensionSet_hold {c : Core} (st : c.tr.st = .hold) (tensioning : c.tr.tensioning = true) :
    c.tensionSet = c.tensioned.wakeDone := by
  simp only [Core.tensionSet, Core.tensioned, st, tensioning, if_true]

theorem Core.tensionSet_test {c : Core} (st : c.tr.st = .unreferenced) (test : c.tr.tensionTest = true) :
    c.tensionSet = c.tensioned.startUnthread := by
  simp only [Core.tensionSet, Core.tensioned, st, test, if_true]

/-- Tension is established where the regulator runs with both dancers in band. -/
theorem State.runCore_tension {s : State} {c d : Core} {n x : Nat} (hr : s.ready = true)
    (regulating : s.core.tr.regulating = true) (established : s.core.tr.established = false)
    (inBand : s.core.tr.inBand = some x) (effect : s.core.tensionSet = c) (settles : Core.Settles n c d) (few : n ≤ 2)
    (due : d.endDue = false) : exec .tensionEstablished s = .next (s.leaves d) :=
  congrArg Host.Outcome.next (State.runCore_settles hr
    ((Core.when_true (by simp [regulating, established, inBand]) Core.tensionSet).trans effect) settles (by omega) due)

/-- Settles O40. -/
theorem tensionEstablishedGoesOn : Obligations.TensionEstablishedGoesOn := by
  intro x s hr established inBand
  refine ⟨fun st feed braking => ?_, fun st tensioning => ?_, fun st test unmoved => ?_⟩
  · exact State.runCore_tension hr (by simp [Transport.regulating, st]) established inBand
      (Core.tensionSet_threading st feed braking) (.quiet (s.ready_sig hr)) (by decide) (s.ready_endDue hr)
  · have goes {c d : Core} {n : Nat} := State.runCore_tension (c := c) (d := d) (n := n) hr
      (by simp [Transport.regulating, st]) established inBand
    have hold := Core.tensionSet_hold st tensioning
    have sig (l : List Signal) : (s.core.tensioned.awoken l).sig = awakeReply s.core.tr.wakeWaits ++ l :=
      congrArg (· ++ (awakeReply s.core.tr.wakeWaits ++ l)) (s.ready_sig hr)
    refine ⟨fun waiting unthread => ?_, fun d v e ext waiting unthread unmoved => ?_, fun unthread unmoved => ?_⟩
    · have ends := hold.trans (Core.wakeDone_idle (c := s.core.tensioned) unthread waiting)
      obtain ⟨n, few, settles⟩ := Core.Settles.awake (sig []) (by simp)
      refine (goes ends settles (by simp at few; omega) (s.ready_endDue hr)).trans (congrArg (fun c => Host.Outcome.next (s.leaves c)) ?_)
      have tr : s.core.tensioned.tr.awake = { s.core.tr with
          established := true, tensioning := false, wakeCount := none, wakeWaits := false } := by
        simp only [Transport.awake, Core.tensioned, Core.setTr_tr]
        rw [← waiting, ← unthread]
      rw [← s.ready_sig hr, Core.setTr, ← tr]
      rfl
    · have starts := hold.trans (Core.wakeDone_order (c := s.core.tensioned) unthread waiting)
      obtain ⟨frame, tr⟩ := Core.planFromRest_disarmed (c := s.core.tensioned.awoken [.passReply .awake])
        (s.core.unmoved_iff.1 unmoved).1 (.run d v e ext) false
      have starts : s.core.tensionSet = (s.core.tensioned.awoken [.passReply .awake]).planFromRest (.run d v e ext) false := starts
      generalize hb : s.core.tensioned.awoken [.passReply .awake] = b at starts frame tr
      generalize b.planFromRest (.run d v e ext) false = f at starts frame tr
      have told : f.sig = awakeReply s.core.tr.wakeWaits ++ [.passReply .awake] := by
        rw [frame, ← sig, ← hb]
      have due : f.endDue = false := by
        rw [frame, ← hb]; exact s.ready_endDue hr
      have ix : f.ix.wake = true := by rw [frame, ← hb]; rfl
      obtain ⟨n, few, settles⟩ := Core.Settles.awake told (by simp [Core.handle_passAwake])
      refine ⟨_, b.restPlan false (.run d v e ext), goes starts settles (by simp at few; omega) due, ?_⟩
      change f.tr.st = .move ∧ f.tr.plan = some _ ∧ _ ∧ f.tr.phase = .accel ∧ f.tr.vRef = 0 ∧ f.tr.waiting = none ∧
        f.tr.wakeCount = none ∧ f.ix.wake = true
      rw [tr]
      subst hb
      exact ⟨rfl, rfl, Core.restPlan_order .., rfl, rfl, rfl, rfl, ix⟩
    · have starts := hold.trans (Core.wakeDone_unthread (c := s.core.tensioned) unthread)
      obtain ⟨frame, slow, tr, -⟩ := Core.startUnthread_unmoved (c := s.core.tensioned.awoken [.rollReply .awake]) unmoved
      generalize hb : s.core.tensioned.awoken [.rollReply .awake] = b at starts frame tr
      generalize b.startUnthread = f at starts frame tr
      have told : f.sig = awakeReply s.core.tr.wakeWaits ++ [.rollReply .awake] := by
        rw [frame, ← sig, ← hb]
      have due : f.endDue = false := by
        rw [frame, ← hb]; exact s.ready_endDue hr
      have ix : f.ix.wake = true := by rw [frame, ← hb]; rfl
      obtain ⟨n, few, settles⟩ := Core.Settles.awake told (by simp [Core.handle_rollAwake])
      refine ⟨_, goes starts settles (by simp at few; omega) due, ?_⟩
      change f.tr.st = .unthreading ∧ f.tr.dir = .reverse ∧ f.tr.vRef = 0 ∧ f.tr.travel = s.core.tr.travel ∧
        f.tr.waitingUnthread = false ∧ f.tr.wakeCount = none ∧ f.ix.wake = true
      rw [tr]
      subst hb
      exact ⟨rfl, rfl, rfl, rfl, rfl, rfl, ix⟩
  · have starts := Core.startUnthread_unmoved (c := s.core.tensioned) unmoved
    have begins := Core.tensionSet_test st test
    generalize s.core.tensioned.startUnthread = e at starts begins
    obtain ⟨frame, slow, tr, mark⟩ := starts
    have sig : e.sig = [] := by rw [frame]; exact s.ready_sig hr
    have due : e.endDue = false := by rw [frame]; exact s.ready_endDue hr
    refine ⟨_, State.runCore_tension hr (by simp [Transport.regulating, st, test]) established inBand begins (.quiet sig)
      (by decide) due, ?_⟩
    rw [State.leaves_tr, tr]
    exact ⟨rfl, rfl, rfl, rfl, rfl, rfl, mark⟩

/-! ## A pass that ends with the film at rest (R166) -/

/-- The Capture Unit with no capture wanted. -/
def Capture.over (k : Capture) : Capture :=
  { k with
    stop := none, flyby := none, imageWait := none, reread := none
    reservation := match k.reservation with
      | .queued => .none
      | r => r }

theorem Core.capEnd_disarmed {c : Core} (h : c.cap.armed = none) : c.capEnd = c.setCap c.cap.over := by
  rw [Core.capEnd, Core.disarm_of_none h]
  rfl

/-- The pass in ENDING with a cause. -/
def Pass.ends (q : Pass) (cause : EndCause) : Pass := { q with ending := some cause, act := .idle, st := .ending }

/-- The core whose pass has entered ENDING, before it looks at the transport. -/
def Core.ended (c : Core) (q : Pass) (cause : EndCause) : Core :=
  let c := (c.setPass (q.ends cause)).setCap c.cap.over
  if q.act = .mapRead then c.dropMapRead else c

theorem Core.ended_shape (c : Core) (q : Pass) (cause : EndCause) : ∃ port : Port,
    c.ended q cause = ((c.setPass (q.ends cause)).setCap c.cap.over).setPort port ∧ port.results = c.port.results := by
  unfold Core.ended
  dsimp only
  split
  · exact ⟨_, rfl, rfl⟩
  · exact ⟨c.port, rfl, rfl⟩

theorem Core.passEnding_disarmed {c : Core} (h : c.cap.armed = none) (q : Pass) (cause : EndCause) :
    c.passEnding q cause = if c.underOrder then ((c.ended q cause).setPass { q.ends cause with waitStop := true }).orderStop
      else c.ended q cause := by
  obtain ⟨port, shape, -⟩ := c.ended_shape q cause
  have under : (c.ended q cause).underOrder = c.underOrder := by rw [shape]; rfl
  rw [← under]
  unfold Core.passEnding
  rw [Core.capEnd_disarmed (c := c.setPass _) h]
  rfl

/-- What the end of a pass leaves with the film at rest in HOLD: an order that waited is dropped, and its STOP answered. -/
structure Core.EndedAtRest (c : Core) (q : Pass) (cause : EndCause) (e : Core) : Prop where
  sig : e.sig = []
  out : e.out = c.out
  tr : e.tr = { c.tr with waiting := none }
  cap : e.cap = c.cap.over
  results : e.port.results = c.port.results
  pass : ∃ b, e.rm.pass = some { q.ends cause with waitStop := b } ∧ (c.tr.waiting = none → b = q.waitStop)

theorem Core.orderStop_hold {c : Core} (st : c.tr.st = .hold) :
    c.orderStop = (c.setTr { c.tr with waiting := none }).emit (.passReply .stopped) := by
  simp only [Core.orderStop, st]

theorem Core.passReply_stopped {c : Core} {q : Pass} (pass : c.rm.pass = some q) (films : q.films = true)
    (ending : q.ending.isSome = true) : c.passReply .stopped = c.setPass { q with waitStop := false } := by
  simp only [Core.passReply, pass, films, Core.passStopped, ending, if_true, Bool.not_true, if_neg Bool.false_ne_true]

theorem Core.Settles.passEnding {c : Core} {q : Pass} (sig : c.sig = []) (armed : c.cap.armed = none)
    (st : c.tr.st = .hold) (films : q.films = true) (cause : EndCause) :
    ∃ n e, n ≤ 1 ∧ Core.Settles n (c.passEnding q cause) e ∧ c.EndedAtRest q cause e := by
  rw [Core.passEnding_disarmed armed]
  obtain ⟨port, shape, results⟩ := c.ended_shape q cause
  rw [shape]
  cases waiting : c.tr.waiting with
  | none =>
    rw [if_neg (by simp [Core.underOrder, st, waiting])]
    exact ⟨0, _, by decide, .quiet sig, sig, rfl, by rw [← waiting]; rfl, rfl, results, q.waitStop, rfl, fun _ => rfl⟩
  | some o =>
    rw [if_pos (by simp [Core.underOrder, waiting]), Core.orderStop_hold (by exact st)]
    generalize hd : ((((c.setPass (q.ends cause)).setCap c.cap.over).setPort port).setPass
      { q.ends cause with waitStop := true }).setTr _ = d
    have pass : d.rm.pass = some { q.ends cause with waitStop := true } := by rw [← hd]; rfl
    have quiet : d.sig = [] := by rw [← hd]; exact sig
    have stopped : d.handle (.passReply .stopped) = d.setPass { q.ends cause with waitStop := false } :=
      Core.passReply_stopped (q := { q.ends cause with waitStop := true }) pass films rfl
    refine ⟨1, _, le_refl 1, .emit quiet (by rw [stopped]; exact .quiet quiet), ?_⟩
    subst hd
    exact ⟨sig, rfl, rfl, rfl, results, false, rfl, fun h => nomatch waiting.symm.trans h⟩

/-! ## The SETTLE's timeout (R56) -/

theorem Core.settleOver_idle {c : Core} (h : c.tr.settleCount = none) : c.settleOver = c := by
  unfold Core.settleOver
  split
  · exact if_neg (by simp [h])
  · rfl

theorem Core.settleOver_due {c : Core} {pl : Plan} {t : Int} {x : Nat} (plan : c.tr.plan = some pl) (order : pl.order = .position t)
    (phase : c.tr.phase = .settle) (count : c.tr.settleCount = some x) : c.settleOver = c.overshoot pl t := by
  have target : pl.target = t := by simp only [Plan.target, order]
  simp only [Core.settleOver, plan, phase, count, target, Option.isSome_some, and_self, if_true]

theorem Core.passReply_stopMiss {c : Core} {q : Pass} (pass : c.rm.pass = some q) (films : q.films = true)
    (ending : q.ending = none) : c.passReply .stopMiss = c.passEnding q (.fixed .transportFault 0x3F) := by
  simp only [Core.passReply, pass, films, ending, Bool.not_true, Option.isSome_none, if_neg Bool.false_ne_true]
  rfl

/-- A stop miss is told to no pass that films and is not ending. -/
theorem Core.passReply_stopMiss_none {c : Core} (h : ¬ ∃ q, c.rm.pass = some q ∧ q.films = true ∧ q.ending = none) :
    c.passReply .stopMiss = c := by
  simp only [Core.passReply]
  split
  · rfl
  · next q pass =>
    cases films : q.films with
    | false => rfl
    | true => exact if_pos (Option.isSome_iff_ne_none.2 fun ending => h ⟨q, pass, films, ending⟩)

theorem missInfo_spec (o : Int) : (0 ≤ o → missInfo o = min o.toNat 8388607) ∧
    (o < 0 → missInfo o = 16777216 - min o.natAbs 8388607) := by
  rw [missInfo, clampInt_eq (by decide)]
  omega

/-- An end that is due has its Return decided. -/
theorem Core.tryEnd_results {c : Core} {q : Pass} {o : Res} {d : Nat} (pass : c.rm.pass = some q) (due : c.endDue = true)
    (outcome : c.passOutcome q = (o, d)) (served : o ≠ .badRequest) : ∃ r, c.tryEnd.port.results = c.port.results ++ [.result r] ∧
      r.slot = q.slot ∧ r.stamp = q.stamp ∧ r.outcome = o ∧ r.detail = d ∧ r.endsPass = true := by
  rw [Core.tryEnd_of_due pass due, Core.passReturn_of_served outcome served]
  exact ⟨_, rfl, rfl, rfl, rfl, rfl, rfl⟩

theorem Pass.request_of_films {q : Pass} (h : q.films = true) : q.request.isSome = true := by
  cases hr : q.request with
  | none => simp [Pass.films, hr] at h
  | some k => rfl

/-- The transport in HOLD after a stop miss, with its fault queued. -/
def Core.stopMissed (c : Core) (t : Int) : Core :=
  ((c.setIx { c.ix with unit := .off }).setTr c.tr.rested).fault .stopMiss .transport (missInfo (c.tr.p - t)) (auxPosition c.tr.p)

theorem Core.overshoot_again {c : Core} {pl : Plan} (unmoved : c.unmoved = true) (again : pl.retried = true) (t : Int) :
    c.overshoot pl t = (c.stopMissed t).emit (.passReply .stopMiss) := by
  rw [Core.overshoot, if_pos again, Core.enterHold_unmoved unmoved]
  rfl

/-- Settles O38. -/
theorem settleTimeoutRetriesOnce : Obligations.SettleTimeoutRetriesOnce := by
  refine ⟨fun pl x target s hr st plan order phase count unmoved => ⟨fun fresh => ?_, fun again => ?_⟩, missInfo_spec,
    fun s hr count => congrArg Host.Outcome.next (State.runCore_leaves hr (Core.settleOver_idle count) rfl rfl rfl)⟩
  · have missed := Core.settleOver_due plan order phase count
    rw [Core.overshoot, if_neg (by simp [fresh])] at missed
    obtain ⟨frame, tr⟩ := Core.planFromRest_disarmed (s.core.unmoved_iff.1 unmoved).1 (.position target) true
    generalize s.core.planFromRest (.position target) true = e at missed frame tr
    have run := State.runCore_leaves (c := e) hr missed (by rw [frame]) (by rw [frame]) (by rw [frame])
    refine ⟨_, s.core.restPlan true (.position target), congrArg Host.Outcome.next run, ?_⟩
    rw [State.leaves_tr, State.leaves_rm, tr, s.leaves_front (by rw [frame]; exact s.ready_out hr), frame]
    exact ⟨rfl, rfl, rfl, rfl, rfl, rfl, rfl, rfl, rfl, rfl, rfl⟩
  · have missed := (Core.settleOver_due plan order phase count).trans (Core.overshoot_again unmoved again target)
    have out : (s.core.stopMissed target).out = [.fault ⟨.stopMiss, .transport,
        BitVec.ofNat 24 (missInfo (s.core.tr.p - target)), auxPosition s.core.tr.p⟩] :=
      Core.fault_out_alone (c := (s.core.setIx _).setTr _) (s.ready_out hr) ..
    have still : (s.core.stopMissed target).sig = [] ∧ (s.core.stopMissed target).tr = s.core.tr.rested ∧
        (s.core.stopMissed target).rm = s.core.rm ∧ (s.core.stopMissed target).cap = s.core.cap ∧
        (s.core.stopMissed target).port = s.core.port := ⟨s.ready_sig hr, rfl, rfl, rfl, rfl⟩
    generalize s.core.stopMissed target = d at missed out still
    obtain ⟨sig, tr, rm, cap, port⟩ := still
    by_cases told : ∃ q, d.rm.pass = some q ∧ q.films = true ∧ q.ending = none
    · obtain ⟨q, pass, films, ending⟩ := told
      obtain ⟨n, e, few, settles, ended⟩ := Core.Settles.passEnding (c := d) (q := q) sig
        (by rw [cap]; exact (s.core.unmoved_iff.1 unmoved).1) (by rw [tr]; rfl) films (.fixed .transportFault 0x3F)
      have run := State.runCore_settles_end (f := Core.settleOver) hr missed
        (.emit sig (by rw [Core.handle, Core.passReply_stopMiss pass films ending]; exact settles)) (by omega)
      obtain ⟨-, outE, trE, capE, results, b, passE, waits⟩ := ended
      obtain ⟨port', rm', b', shape, passF⟩ := Core.tryEnd_shape passE
      have outT : e.tryEnd.out = _ := (Core.tryEnd_out e).trans (outE.trans out)
      refine ⟨_, congrArg Host.Outcome.next run, ?_⟩
      rw [State.leaves_tr, State.leaves_rm, State.leaves_cap, State.leaves_results, s.leaves_fault outT]
      have trT : e.tryEnd.tr = { s.core.tr.rested with waiting := none } := by rw [shape, ← tr, ← trE]; rfl
      rw [trT]
      refine ⟨rfl, rfl, rfl, rfl, rfl, fun q' same _ _ idle => ?_⟩
      cases (rm ▸ pass).symm.trans same
      refine ⟨_, (congrArg (fun c : Core => c.rm.pass) shape).trans passF, rfl, rfl, rfl,
        (congrArg (fun c : Core => c.cap.stop) shape).trans (congrArg Capture.stop capE), fun undecided stop probe empty => ?_⟩
      rw [← port, ← results]
      have due : e.endDue = true := by
        have request : q.request.isSome = true := Pass.request_of_films films
        have armed := (s.core.unmoved_iff.1 unmoved).1
        simp only [Core.endDue, passE, capE, cap, waits (by rw [tr]; exact idle), stop, Capture.idle, Capture.over, Pass.ends]
        simp [undecided, probe, empty, armed]
        exact request
      obtain ⟨r, wrote, slot, stamp, outcome, detail, ends⟩ := Core.tryEnd_results (o := .transportFault) (d := 0x3F) passE
        due rfl (by decide)
      exact ⟨r, wrote, slot, stamp, outcome, detail, ends⟩
    · have run := State.runCore_settles (f := Core.settleOver) hr missed (.emit sig (by
        rw [Core.handle, Core.passReply_stopMiss_none told]; exact .quiet sig)) (by decide)
        ((Core.endDue_of_pass (by rw [rm]) cap).trans (s.ready_endDue hr))
      refine ⟨_, congrArg Host.Outcome.next run, ?_⟩
      rw [State.leaves_tr, tr]
      exact ⟨rfl, rfl, rfl, rfl, s.leaves_fault out, fun q pass films ending => absurd ⟨q, rm ▸ pass, films, ending⟩ told⟩

end Sys2Proof.Machine
end

section
/-! SUPPORT. The profile timer: the ramps of threading, of a leg and of a STOP (R53), and the compare it renews (R83). -/

namespace Sys2Proof.Machine

/-! ## The reference -/

theorem rampTo_below {a v goal : Nat} (h : v < goal) : rampTo a v goal = min (v + a) goal := if_pos h

theorem rampTo_above {a v goal : Nat} (h : goal ≤ v) : rampTo a v goal = max (v - a) goal := if_neg (not_lt.2 h)

theorem rampTo_rises {a v goal : Nat} (h : v ≤ goal) : rampTo a v goal = min (v + a) goal := by
  rcases h.lt_or_eq with h | rfl
  · exact rampTo_below h
  · rw [rampTo_above (le_refl v)]; omega

theorem Reel.stallFollow_slow {now v : Nat} (h : v < 50000) (r : Reel) : (r.stallFollow now v).stall = none := by
  simp [Reel.stallFollow, h]

/-- The transport after a ramp to the reference `v` in the phase `ph`, with its stall counts. -/
def Transport.ramped (t : Transport) (now v : Nat) (ph : Phase) : Transport :=
  { t with vRef := v, phase := ph, supply := t.supply.stallFollow now v, takeUp := t.takeUp.stallFollow now v }

theorem Core.stallFollow_eq (c : Core) (v : Nat) (ph : Phase) :
    (c.setTr { c.tr with vRef := v, phase := ph }).stallFollow = c.setTr (c.tr.ramped c.now v ph) := rfl

theorem Core.profileTimer_of_threading {c : Core} (st : c.tr.st = .threading) : c.profileTimer =
    if c.expiryThreading.tr.st = .threading then c.expiryThreading.stallFollow else c.expiryThreading := by
  simp only [Core.profileTimer, st]

theorem Core.profileTimer_of_move {c : Core} (st : c.tr.st = .move) : c.profileTimer =
    if c.expiryMove.tr.st = .move then c.expiryMove.stallFollow.strobeRecompute else c.expiryMove := by
  simp only [Core.profileTimer, st]

/-! ## Threading -/

theorem Core.profileTimer_threading {c : Core} (st : c.tr.st = .threading) (braking : c.tr.resetBraking = false)
    (step : c.tr.threadStep = .feed ∨ c.tr.threadStep = .seek) :
    c.profileTimer = c.setTr (c.tr.ramped c.now (rampTo c.prof.accel c.tr.vRef 50000) c.tr.phase) := by
  have ramp : c.expiryThreading = c.setTr { c.tr with vRef := rampTo c.prof.accel c.tr.vRef 50000 } := by
    rcases step with step | step <;> simp only [Core.expiryThreading, braking, step, Bool.or_false, Bool.false_and,
      if_neg Bool.false_ne_true]
  rw [Core.profileTimer_of_threading st, ramp]
  exact if_pos st

/-! ## A leg that accelerates -/

theorem Core.expiryMove_accel {c : Core} {pl : Plan} (plan : c.tr.plan = some pl) (phase : c.tr.phase = .accel)
    (limit : c.limitReached pl = false) (test : c.brakeTest pl = none) : c.expiryMove = c.setTr { c.tr with
      vRef := rampTo c.prof.accel c.tr.vRef (c.bound * 1000)
      phase := if rampTo c.prof.accel c.tr.vRef (c.bound * 1000) = c.bound * 1000 then .cruise else .accel } := by
  have free : c.limitCheck = c := by
    rw [Core.limitCheck_some plan, if_neg (by simp [limit])]
  simp only [Core.expiryMove, free, plan, test, Core.rampMove, phase]

theorem Core.profileTimer_move {c : Core} (st : c.tr.st = .move) {v : Nat} {ph : Phase}
    (ramp : c.expiryMove = c.setTr { c.tr with vRef := v, phase := ph }) :
    c.profileTimer = (c.setTr (c.tr.ramped c.now v ph)).strobeRecompute := by
  rw [Core.profileTimer_of_move st, ramp]
  exact if_pos st

theorem Core.strobeRecompute_disarmed {c : Core} (h : c.cap.armed = none) : c.strobeRecompute = c := by
  simp only [Core.strobeRecompute, h]

/-- The compare's value, with the clamp's upper end never reached (R83). -/
theorem Core.compareValue_eq (c : Core) (t : Int) : c.compareValue t = max (t - c.prof.gateOffset)
    (t - ((2 * (c.tr.speed * c.prof.strobeLatency) + 5000) / 10000 : Nat)) := by
  rw [Core.compareValue, clampInt_eq (by omega), roundDiv]
  omega

/-- A compare ahead of the film is renewed. -/
theorem Core.strobeRecompute_ahead {c : Core} {a : Armed} {e : Entry} (armed : c.cap.armed = some a)
    (entry : c.ix.entry a.frame = some e) (ahead : c.tr.p < c.compareValue (c.targetOf e)) : c.strobeRecompute =
      c.setCap { c.cap with armed := some { a with target := c.targetOf e, compare := c.compareValue (c.targetOf e) } } := by
  have below : c.compareValue (c.targetOf e) ≤ c.targetOf e := by rw [Core.compareValue_eq]; omega
  have before : ¬ c.targetOf e < c.tr.p := by omega
  have unfired : ¬ c.compareValue (c.targetOf e) ≤ c.tr.p := by omega
  unfold Core.strobeRecompute
  rw [armed]
  dsimp only
  rw [entry]
  refine (if_neg before).trans (if_neg ?_)
  simp [unfired]

/-! ## A STOP's braking -/

theorem Core.expiryMove_stop {c : Core} (phase : c.tr.phase = .brake .stop) : c.expiryMove = c.rampBrake .stop := by
  have free : c.limitCheck = c := by
    cases plan : c.tr.plan with
    | none => exact Core.limitCheck_none plan
    | some pl => rw [Core.limitCheck_some plan, if_neg (by simp [phase, Phase.limited])]
  unfold Core.expiryMove
  dsimp only
  rw [free]
  split
  · next pl _ =>
    have test : c.brakeTest pl = none := by
      unfold Core.brakeTest
      dsimp only
      split
      · rfl
      · rw [phase]
    rw [test]
    simp only [Core.rampMove, phase]
  · simp only [phase]

theorem Core.profileTimer_stop_slow {c : Core} (st : c.tr.st = .move) (phase : c.tr.phase = .brake .stop) (unmoved : c.unmoved = true)
    (slow : c.tr.vRef ≤ c.prof.accel) :
    c.profileTimer = ((c.setIx { c.ix with unit := .off }).setTr c.tr.rested).emit (.passReply .stopped) := by
  have stopped : c.expiryMove = (c.setTr { c.tr with vRef := 0 }).holdReply .stopped := by
    rw [Core.expiryMove_stop phase, Core.rampBrake]
    have zero : (if c.tr.vRef ≤ c.brakeFloor .stop then c.tr.vRef else max (c.tr.vRef - c.prof.accel) (c.brakeFloor .stop)) = 0 := by
      rw [show c.brakeFloor .stop = 0 from rfl]; split <;> omega
    rw [zero]
    exact if_pos (Nat.zero_le _)
  have rest : ((c.setTr { c.tr with vRef := 0 }).emit (.passReply .stopped)).unmoved = true := unmoved
  rw [Core.profileTimer_of_move st, stopped, Core.holdReply, Core.enterHold_unmoved rest]
  exact if_neg (fun h => nomatch h)

theorem Core.profileTimer_stop_fast {c : Core} (st : c.tr.st = .move) (phase : c.tr.phase = .brake .stop) (unmoved : c.unmoved = true)
    (fast : c.prof.accel < c.tr.vRef) :
    c.profileTimer = c.setTr (c.tr.ramped c.now (c.tr.vRef - c.prof.accel) c.tr.phase) := by
  have slower : c.expiryMove = c.setTr { c.tr with vRef := c.tr.vRef - c.prof.accel, phase := c.tr.phase } := by
    rw [Core.expiryMove_stop phase, Core.rampBrake]
    have less : (if c.tr.vRef ≤ c.brakeFloor .stop then c.tr.vRef else max (c.tr.vRef - c.prof.accel) (c.brakeFloor .stop)) =
        c.tr.vRef - c.prof.accel := by
      rw [show c.brakeFloor .stop = 0 from rfl]; split <;> omega
    rw [less]
    exact if_neg (by rw [show c.brakeFloor .stop = 0 from rfl]; omega)
  rw [Core.profileTimer_move st slower]
  exact Core.strobeRecompute_disarmed (c.unmoved_iff.1 unmoved).1

theorem Core.endDue_of_armed {c : Core} {a : Armed} (h : c.cap.armed = some a) : c.endDue = false := by
  simp only [Core.endDue, Capture.idle, h, Option.isNone_some, Bool.and_false, Bool.false_and]
  split <;> rfl

theorem Core.tryEnd_tr (c : Core) : c.tryEnd.tr = c.tr := by
  cases pass : c.rm.pass with
  | none => rw [Core.tryEnd_of_not_due (Core.endDue_of_no_pass pass)]
  | some q =>
    obtain ⟨port, rm, b, shape, -⟩ := Core.tryEnd_shape pass
    rw [shape]
    rfl

theorem Core.passReply_unfilmed {c : Core} (h : ∀ q, c.rm.pass = some q → q.films = false) (r : Reply) : c.passReply r = c := by
  unfold Core.passReply
  split
  · rfl
  · next q pass => rw [h q pass]; rfl

/-- A stop's answer leaves the pass that ends with its wait over, and nothing else changed. -/
theorem Core.passReply_stopped_ending {c : Core} (ending : ∀ q, c.rm.pass = some q → q.films = true → q.ending ≠ none) :
    ∃ rm, c.passReply .stopped = c.setRm rm ∧
      ∀ q, c.rm.pass = some q → q.films = true → rm.pass = some { q with waitStop := false } := by
  by_cases films : ∃ q, c.rm.pass = some q ∧ q.films = true
  · obtain ⟨q, pass, films⟩ := films
    refine ⟨_, Core.passReply_stopped pass films (Option.isSome_iff_ne_none.2 (ending q pass films)), fun q' same _ => ?_⟩
    cases pass.symm.trans same
    rfl
  · have unfilmed : ∀ q, c.rm.pass = some q → q.films = false := fun q pass =>
      Bool.eq_false_iff.2 fun h => films ⟨q, pass, h⟩
    exact ⟨c.rm, Core.passReply_unfilmed unfilmed .stopped, fun q pass h => absurd ⟨q, pass, h⟩ films⟩

/-- Settles O37. -/
theorem profileTimerRampsReference : Obligations.ProfileTimerRampsReference := by
  refine ⟨fun s hr st braking step => ?_, fun pl s hr st plan phase limit test => ⟨fun armed => ?_,
    fun a e v target value armed entry slow hv ht hc ahead => ?_⟩, fun s hr st phase unmoved ending => ⟨fun slow => ?_, fun fast => ?_⟩,
    fun s hr rest => ?_⟩
  · refine ⟨_, congrArg Host.Outcome.next (State.runCore_leaves hr (Core.profileTimer_threading st braking step) rfl rfl rfl),
      st, rfl, fun h => rampTo_below h, fun h => rampTo_above h, fun h => ⟨Reel.stallFollow_slow h _, Reel.stallFollow_slow h _⟩⟩
  · have ramps := (Core.profileTimer_move st (Core.expiryMove_accel plan phase limit test)).trans
      (Core.strobeRecompute_disarmed (by exact armed))
    refine ⟨_, congrArg Host.Outcome.next (State.runCore_leaves hr ramps rfl rfl rfl), st, plan, rfl, fun h => ?_, fun h g => ?_, rfl, rfl⟩
    · have below : rampTo s.core.prof.accel s.core.tr.vRef (s.core.bound * 1000) = s.core.tr.vRef + s.core.prof.accel := by
        rw [rampTo_rises (by omega)]; omega
      exact ⟨below, (if_neg (by rw [below]; omega))⟩
    · have reached : rampTo s.core.prof.accel s.core.tr.vRef (s.core.bound * 1000) = s.core.bound * 1000 := by
        rw [rampTo_rises h]; omega
      exact ⟨reached, if_pos reached⟩
  · have rise := rampTo_rises (a := s.core.prof.accel) slow
    have ramps := Core.profileTimer_move st (Core.expiryMove_accel plan phase limit test)
    rw [rise] at ramps
    generalize reached : s.core.setTr (s.core.tr.ramped s.core.now _ _) = d at ramps
    have still : d = s.core.setTr d.tr ∧ d.tr.vRef = min (s.core.tr.vRef + s.core.prof.accel) (s.core.bound * 1000) ∧
        d.tr.p = s.core.tr.p := by subst reached; exact ⟨rfl, rfl, rfl⟩
    obtain ⟨frame, vRef, p⟩ := still
    have aim : d.targetOf e = target := by rw [frame, ht]; rfl
    have comp : d.compareValue target = value := by
      rw [Core.compareValue_eq, hc, hv, Transport.speed, vRef, frame]; rfl
    have renewed := ramps.trans (Core.strobeRecompute_ahead (c := d) (a := a) (e := e) (by rw [frame]; exact armed)
      (by rw [frame]; exact entry) (by rw [aim, comp, p]; exact ahead))
    rw [aim, comp] at renewed
    refine ⟨_, congrArg Host.Outcome.next (State.runCore_ready hr renewed (by rw [frame]; exact s.ready_sig hr)
      (Core.endDue_of_armed rfl)), ?_⟩
    rw [frame]
    exact ⟨rfl, vRef, rfl, rfl, rfl⟩
  · have stops := Core.profileTimer_stop_slow st phase unmoved slow
    generalize rested : (s.core.setIx { s.core.ix with unit := .off }).setTr s.core.tr.rested = d at stops
    have still : d.sig = [] ∧ d.tr = s.core.tr.rested ∧ d.rm = s.core.rm := by
      subst rested; exact ⟨s.ready_sig hr, rfl, rfl⟩
    obtain ⟨sig, tr, rm⟩ := still
    obtain ⟨rm', told, waitEnds⟩ := Core.passReply_stopped_ending (c := d) (by rw [rm]; exact ending)
    have run := State.runCore_settles_end (f := Core.profileTimer) hr stops
      (.emit sig (by rw [Core.handle, told]; exact .quiet sig)) (by decide)
    have trT : (d.setRm rm').tryEnd.tr = s.core.tr.rested :=
      (Core.tryEnd_tr _).trans tr
    refine ⟨_, congrArg Host.Outcome.next run, ?_⟩
    rw [State.leaves_tr, State.leaves_rm, trT]
    refine ⟨rfl, rfl, rfl, rfl, rfl, fun q pass films => ?_⟩
    obtain ⟨port, rm'', b, shape, passT⟩ := Core.tryEnd_shape (c := d.setRm rm') (waitEnds q (by rw [rm]; exact pass) films)
    rw [shape]
    exact ⟨_, passT, rfl, rfl⟩
  · refine ⟨_, congrArg Host.Outcome.next (State.runCore_leaves hr (Core.profileTimer_stop_fast st phase unmoved fast) rfl rfl rfl), ?_⟩
    exact ⟨st, phase, rfl, rfl, rfl⟩
  · have idle : s.core.profileTimer = s.core := by
      unfold Core.profileTimer
      cases st : s.core.tr.st <;> simp_all [Transport.timerRuns]
    exact congrArg Host.Outcome.next (State.runCore_leaves hr idle rfl rfl rfl)

end Sys2Proof.Machine
end

section
/-! SUPPORT. The safety events: FAULT with the film held, and the answers that what waited gives to the event (R58 to R62). -/

namespace Sys2Proof.Machine

/-! ## The answers to an event -/

/-- The replies that name a safety event, or end an order for one. -/
def Reply.failed : Reply → Bool
  | .awake | .unthreaded | .threaded => false
  | _ => true

/-- The reports a safety event brings about, and those that the units answer with. -/
def Signal.ofEvent : Signal → Bool
  | .safety _ | .modeReply _ => true
  | .rollReply r => r.failed
  | .rollDone o _ _ => o != .done
  | _ => false

/-- How many reports a report of a safety event can still bring, itself counted. -/
def Signal.weight : Signal → Nat
  | .safety _ | .rollReply _ => 2
  | _ => 1

/-- How many reports the reports of a safety event can bring in all. -/
def Signal.weights (l : List Signal) : Nat := (l.map Signal.weight).sum

/-- What the answers to a safety event leave as it is; they send snapshot triggers alone to the front. -/
structure Core.Informed (c d : Core) : Prop where
  tr : d.tr = c.tr
  entries : d.ix.entries = c.ix.entries
  frontier : d.ix.frontier = c.ix.frontier
  armed : c.cap.armed = none → d.cap.armed = none
  out : ∃ l : List (Triggers × Bool), d.out = c.out ++ l.map fun x => .snapshot x.1 x.2

theorem Core.Informed.quiet {c d : Core} (tr : d.tr = c.tr) (ix : d.ix.entries = c.ix.entries ∧ d.ix.frontier = c.ix.frontier)
    (armed : c.cap.armed = none → d.cap.armed = none) (out : d.out = c.out) : c.Informed d :=
  ⟨tr, ix.1, ix.2, armed, [], by rw [out]; exact (List.append_nil _).symm⟩

theorem Core.Informed.refl (c : Core) : c.Informed c := .quiet rfl ⟨rfl, rfl⟩ id rfl

theorem Core.Informed.trans {c d e : Core} (h : c.Informed d) (g : d.Informed e) : c.Informed e := by
  obtain ⟨l, hl⟩ := h.out
  obtain ⟨m, hm⟩ := g.out
  exact ⟨g.tr.trans h.tr, g.entries.trans h.entries, g.frontier.trans h.frontier, g.armed ∘ h.armed, l ++ m, by
    rw [hm, hl, List.append_assoc, List.map_append]⟩

/-- An answer to a report of weight `n`: it brings reports of less weight, and informs. -/
def Core.Answers (c : Core) (n : Nat) (d : Core) : Prop :=
  c.Informed d ∧ ∃ l, d.sig = c.sig ++ l ∧ (∀ y ∈ l, y.ofEvent = true) ∧ Signal.weights l < n

theorem Core.Answers.silent {c d : Core} {n : Nat} (h : c.Informed d) (sig : d.sig = c.sig) (pos : 0 < n) : c.Answers n d :=
  ⟨h, [], by rw [sig, List.append_nil], by simp, pos⟩

theorem Core.answers_tryEnd (c : Core) : c.Informed c.tryEnd := by
  cases pass : c.rm.pass with
  | none => rw [Core.tryEnd_of_not_due (Core.endDue_of_no_pass pass)]; exact .refl c
  | some q =>
    have out := c.tryEnd_out
    obtain ⟨port, rm, b, shape, -⟩ := Core.tryEnd_shape pass
    rw [shape] at out ⊢
    exact .quiet rfl ⟨rfl, rfl⟩ id out

theorem Core.informed_returnHeld (c : Core) (roll : Nat) (pos : Bool) (o : Res) (d : Nat) :
    c.Informed (c.returnHeld roll pos o d) := by
  unfold Core.returnHeld
  generalize c.rm.pendingSet = l
  induction l generalizing c with
  | nil => exact .refl c
  | cons q l ih =>
    rw [List.foldl_cons]
    split
    · refine Core.Informed.trans ?_ (ih _)
      exact .quiet rfl ⟨rfl, rfl⟩ id rfl
    · exact ih c

/-- The pass's end at a safety event, with no order under way. -/
theorem Core.answers_passFixed {c : Core} (armed : c.cap.armed = none) (free : c.underOrder = false) (q : Pass) (o : Res) (d : Nat) :
    c.Answers 2 (c.passFixed q o d) := by
  obtain ⟨port, shape, -⟩ := c.ended_shape q (.fixed o d)
  rw [Core.passFixed, Core.passEnding_disarmed armed, if_neg (by simp [free]), shape]
  exact .silent (.quiet rfl ⟨rfl, rfl⟩ (fun _ => armed) rfl) rfl (by decide)

theorem Core.answers_seqDone (c : Core) {o : Res} (h : o ≠ .done) (d n : Nat) : c.Answers 2 (c.seqDone o d n) :=
  ⟨.quiet rfl ⟨rfl, rfl⟩ id rfl, [.rollDone o d n], rfl, by simp [Signal.ofEvent, h], Nat.lt_succ_self 1⟩

theorem Core.answers_seqSafety (c : Core) (r : Reply) : c.Answers 2 (c.seqSafety r) := by
  unfold Core.seqSafety
  split
  · split
    · obtain ⟨⟨tr, entries, frontier, armed, out⟩, sig⟩ := c.porterAbandon.answers_seqDone (o := .transportFault) (by decide) r.detail 0
      exact ⟨⟨tr, entries, frontier, armed, out⟩, sig⟩
    · exact .silent (.refl c) rfl (by decide)
  · exact .silent (.refl c) rfl (by decide)

theorem Core.answers_passSafety {c : Core} (armed : c.cap.armed = none) (free : c.underOrder = false) (r : Reply) :
    c.Answers 2 (c.passSafety r) := by
  unfold Core.passSafety
  split
  · exact .silent (.refl c) rfl (by decide)
  · next q pass =>
    split
    · exact c.answers_seqSafety r
    · split
      · exact Core.answers_passFixed armed free q ..
      · split
        · exact .silent (.quiet rfl ⟨rfl, rfl⟩ id rfl) rfl (by decide)
        · exact .silent (.refl c) rfl (by decide)
      · exact .silent (.quiet rfl ⟨rfl, rfl⟩ id rfl) rfl (by decide)

theorem Core.answers_seqReply {c : Core} {r : Reply} (h : r.failed = true) : c.Answers 2 (c.seqReply r) := by
  have stays : c.Answers 2 c := .silent (.refl c) rfl (by decide)
  unfold Core.seqReply
  split
  · exact stays
  · next q _ =>
    split
    · exact stays
    · cases h
    · cases h
    · exact c.answers_seqDone (by decide) ..
    · exact c.answers_seqDone (by decide) ..
    · exact stays

/-- A sequence that failed ends its pass: the request's own, or an automatic one, whose held requests are returned. -/
theorem Core.answers_rollDone {c : Core} {o : Res} (h : o ≠ .done) (d n : Nat) : c.Answers 1 (c.passRollDone o d n) := by
  have freed (rm : ReqMgr) : c.Informed ((c.setRm rm).trigger { passEnd := true } false) :=
    ⟨rfl, rfl, rfl, id, [({ passEnd := true }, false)], rfl⟩
  have dropped (rm : ReqMgr) (roll : Nat) :
      c.Answers 1 (((c.setRm rm).trigger { passEnd := true } false).returnHeld roll true o d) :=
    .silent ((freed rm).trans (Core.informed_returnHeld ..)) (Core.returnHeld_keeps ..).1 (by decide)
  unfold Core.passRollDone
  dsimp only
  split
  · exact .silent (.refl c) rfl (by decide)
  · next q pass =>
    split
    · refine .silent (Core.Informed.trans ?_ (Core.answers_tryEnd _)) (Core.tryEnd_sig _) (by decide)
      exact .quiet rfl ⟨rfl, rfl⟩ id rfl
    · rw [if_neg h]
      exact dropped ..
    · split
      · exact .silent (freed _) rfl (by decide)
      · next w _ =>
        rw [if_neg h]
        obtain ⟨⟨tr, entries, frontier, armed, out⟩, sig⟩ := dropped { c.rm with pass := none } w.roll
        exact ⟨⟨tr, entries, frontier, armed, out⟩, sig⟩
    · rw [if_neg h]
      exact dropped ..

theorem Core.answers_handle {c : Core} (armed : c.cap.armed = none) (free : c.underOrder = false) {x : Signal}
    (event : x.ofEvent = true) : c.Answers x.weight (c.handle x) := by
  cases x <;> simp only [Signal.ofEvent, Bool.false_eq_true] at event
  case safety r => exact Core.answers_passSafety armed free r
  case rollReply r => exact Core.answers_seqReply event
  case modeReply r => exact .silent (.quiet rfl ⟨rfl, rfl⟩ id rfl) rfl Nat.zero_lt_one
  case rollDone o d n => exact Core.answers_rollDone (by simpa using event) d n

/-- The reports of a safety event settle, and change neither the transport nor the index. -/
theorem Core.Settles.events (n : Nat) : ∀ c : Core, c.cap.armed = none → c.underOrder = false → (∀ x ∈ c.sig, x.ofEvent = true) →
    Signal.weights c.sig ≤ n → ∃ m d, m ≤ n ∧ Core.Settles m c d ∧ c.Informed d := by
  induction n with
  | zero =>
    intro c _ _ _ none
    cases sig : c.sig with
    | nil => exact ⟨0, c, le_refl 0, .quiet sig, .refl c⟩
    | cons x l => rw [sig, Signal.weights] at none; cases x <;> simp [Signal.weight] at none
  | succ n ih =>
    intro c armed free events some
    cases sig : c.sig with
    | nil => exact ⟨0, c, Nat.zero_le _, .quiet sig, .refl c⟩
    | cons x l =>
      rw [sig] at events some
      obtain ⟨informed, more, brought, ofEvent, less⟩ := Core.answers_handle (c := { c with sig := l }) armed free
        (events x List.mem_cons_self)
      have fewer : Signal.weights (({ c with sig := l }.handle x).sig) ≤ n := by
        simp only [Signal.weights, brought, List.map_append, List.map_cons, List.sum_append, List.sum_cons] at some less ⊢
        omega
      obtain ⟨m, d, few, settles, after⟩ := ih ({ c with sig := l }.handle x) (informed.armed armed)
        (by rw [Core.underOrder, informed.tr]; exact free) (by
          rw [brought]
          intro y hy
          rcases List.mem_append.1 hy with hy | hy
          · exact events y (List.mem_cons_of_mem _ hy)
          · exact ofEvent y hy) fewer
      have whole := informed.trans after
      exact ⟨m + 1, d, Nat.succ_le_succ few, .report sig settles, ⟨whole.tr, whole.entries, whole.frontier, whole.armed, whole.out⟩⟩

/-! ## FAULT -/

/-- What a safety event of the core `c` leaves before its reports are answered. -/
structure Core.Faulted (c d : Core) (e : FaultEntry) : Prop where
  st : d.tr.st = .fault
  vRef : d.tr.vRef = 0
  plan : d.tr.plan = none
  waiting : d.tr.waiting = none
  wakeCount : d.tr.wakeCount = none
  testCount : d.tr.testCount = none
  p : d.tr.p = c.tr.p
  entries : d.ix.entries = c.ix.entries
  frontier : d.ix.frontier = c.ix.frontier
  armed : d.cap.armed = none
  out : d.out = c.out ++ [.fault e]

/-- A core that reports a safety event, with at most `n` reports to come. -/
def Core.Alarms (c : Core) (n : Nat) : Prop := (∀ x ∈ c.sig, x.ofEvent = true) ∧ Signal.weights c.sig ≤ n

theorem Core.Alarms.emit {c : Core} {n : Nat} (h : c.Alarms n) {x : Signal} (event : x.ofEvent = true) :
    (c.emit x).Alarms (n + x.weight) := by
  refine ⟨fun y hy => ?_, ?_⟩
  · rcases List.mem_append.1 hy with hy | hy
    · exact h.1 y hy
    · rw [List.mem_singleton.1 hy]; exact event
  · have more := h.2
    simp only [Signal.weights, Core.emit, List.map_append, List.sum_append, List.map_cons, List.sum_cons, List.map_nil,
      List.sum_nil] at more ⊢
    omega

theorem Core.Alarms.mono {c : Core} {m n : Nat} (h : c.Alarms m) (le : m ≤ n) : c.Alarms n := ⟨h.1, h.2.trans le⟩

theorem Core.modeAnswer_alarms {c d : Core} {e : FaultEntry} {n : Nat} (h : c.Faulted d e) (g : d.Alarms n) (b : Bool) (r : Reply) :
    c.Faulted (d.modeAnswer b r) e ∧ (d.modeAnswer b r).Alarms (n + 1) := by
  cases b with
  | false => exact ⟨h, g.mono (Nat.le_succ n)⟩
  | true =>
    obtain ⟨st, vRef, plan, waiting, wakeCount, testCount, p, entries, frontier, armed, out⟩ := h
    exact ⟨⟨st, vRef, plan, waiting, wakeCount, testCount, p, entries, frontier, armed, out⟩, g.emit (x := .modeReply r) rfl⟩

theorem Core.rollAnswer_alarms {c d : Core} {e : FaultEntry} {n : Nat} (h : c.Faulted d e) (g : d.Alarms n) {r : Reply}
    (failed : r.failed = true) : c.Faulted (d.rollAnswer r) e ∧ (d.rollAnswer r).Alarms (n + 2) := by
  unfold Core.rollAnswer
  split
  · obtain ⟨st, vRef, plan, waiting, wakeCount, testCount, p, entries, frontier, armed, out⟩ := h
    exact ⟨⟨st, vRef, plan, waiting, wakeCount, testCount, p, entries, frontier, armed, out⟩,
      Core.Alarms.emit (c := d.setTr _) g (x := .rollReply r) failed⟩
  · exact ⟨h, g.mono (Nat.le_add_right n 2)⟩

theorem Core.probeAbandon_none {c : Core} (h : c.focus.probe = none) : c.probeAbandon = c := by
  simp only [Core.probeAbandon, h]

theorem Core.enterFault_faulted {c : Core} (unmoved : c.unmoved = true) (name : FaultName) (info : Nat) (aux : BitVec 28) :
    c.Faulted (c.enterFault.fault name .transport info aux) ⟨name, .transport, BitVec.ofNat 24 info, aux⟩ ∧
      (c.enterFault.fault name .transport info aux).sig = c.sig ∧
      (c.enterFault.fault name .transport info aux).focus = c.focus := by
  unfold Core.enterFault
  dsimp only
  rw [Core.leaveMotion_unmoved unmoved]
  exact ⟨⟨rfl, rfl, rfl, rfl, rfl, rfl, rfl, rfl, rfl, (c.unmoved_iff.1 unmoved).1, rfl⟩, rfl, rfl⟩

/-- A safety event: FAULT with its fault sent, and at most six reports. -/
theorem Core.safetyAs_faulted {c : Core} (unmoved : c.unmoved = true) (probe : c.focus.probe = none) (sig : c.sig = [])
    {r : Reply} (failed : r.failed = true) (name : FaultName) (info : Nat) (aux : BitVec 28) :
    c.Faulted (c.safetyAs name r info aux) ⟨name, .transport, BitVec.ofNat 24 info, aux⟩ ∧
      (c.safetyAs name r info aux).Alarms 6 := by
  obtain ⟨faulted, told, lens⟩ := Core.enterFault_faulted (c := c.emit (.safety r)) unmoved name info aux
  unfold Core.safetyAs
  dsimp only
  generalize (c.emit (.safety r)).enterFault.fault name .transport info aux = d at faulted told lens
  rw [Core.probeAbandon_none (by rw [lens]; exact probe)]
  have alarms : d.Alarms 2 := by
    rw [Core.Alarms, told, Core.emit, sig]
    exact ⟨by simp [Signal.ofEvent], le_refl 2⟩
  obtain ⟨h, g⟩ := Core.rollAnswer_alarms faulted alarms failed
  obtain ⟨h, g⟩ := Core.modeAnswer_alarms h g c.tr.relaxRamp.isSome r
  obtain ⟨h, g⟩ := Core.modeAnswer_alarms h g c.tr.wakeWaits r
  obtain ⟨st, vRef, plan, waiting, wakeCount, testCount, p, entries, frontier, armed, out⟩ := h
  exact ⟨⟨st, vRef, plan, waiting, wakeCount, testCount, p, entries, frontier, armed, out⟩, g⟩

/-- What every safety event leaves: FAULT, the film held where it is, the index as it was, and the fault queued. -/
structure State.FilmHeld (s t : State) (e : FaultEntry) : Prop where
  st : t.core.tr.st = .fault
  vRef : t.core.tr.vRef = 0
  plan : t.core.tr.plan = none
  wakeCount : t.core.tr.wakeCount = none
  testCount : t.core.tr.testCount = none
  p : t.core.tr.p = s.core.tr.p
  entries : t.core.ix.entries = s.core.ix.entries
  frontier : t.core.ix.frontier = s.core.ix.frontier
  faults : t.front.faults = s.front.queued e
  cause : s.front.faults.length < 16 → s.front.overflow = false → t.front.causeFault = true

theorem Core.filmHeld_of_fault {c : Core} (h : c.tr.st = .fault) : c.filmHeld = true := by
  simp [Core.filmHeld, Core.brake, Transport.brakeDemand, Transport.drives, Transport.regulating, h]

theorem Front.triggers_keep (c : Core) (l : List (Triggers × Bool)) : ∀ f : Front,
    ((l.map fun x => Out.snapshot x.1 x.2).foldl (Front.take c) f).faults = f.faults ∧
    ((l.map fun x => Out.snapshot x.1 x.2).foldl (Front.take c) f).causeFault = f.causeFault := by
  induction l with
  | nil => exact fun f => ⟨rfl, rfl⟩
  | cons x l ih =>
    intro f
    obtain ⟨faults, cause⟩ := ih (f.trigger c x.1 x.2)
    obtain ⟨same, -, -, -, kept, -⟩ := f.trigger_fields c x.1 x.2
    exact ⟨faults.trans same, cause.trans kept⟩

/-- A fault and snapshot triggers reach the front. -/
theorem State.leaves_fault_triggers (s : State) {d : Core} {e : FaultEntry} {l : List (Triggers × Bool)}
    (out : d.out = .fault e :: l.map fun x => .snapshot x.1 x.2) : (s.leaves d).front.faults = s.front.queued e ∧
      (s.front.faults.length < 16 → s.front.overflow = false → (s.leaves d).front.causeFault = true) := by
  have front : (s.leaves d).front = d.out.foldl (Front.take d.idleFollow.escalationFollow) s.front := rfl
  rw [front, out]
  obtain ⟨faults, cause⟩ := Front.triggers_keep d.idleFollow.escalationFollow l (s.front.raiseFault _ e)
  exact ⟨faults.trans (Front.raiseFault_faults _ _ e), fun room clear =>
    cause.trans (Front.raiseFault_joins _ _ e room clear).2.1⟩

/-- A ready part's safety event. -/
theorem State.runCore_safetyAs {s : State} {f : Core → Core} {c d : Core} {name : FaultName} {r : Reply} {info : Nat} {aux : BitVec 28}
    (hr : s.ready = true) (hf : f s.core = d) (event : d = c.safetyAs name r info aux ∨ d = (c.safetyAs name r info aux).nextFree)
    (failed : r.failed = true) (unmoved : c.unmoved = true) (probe : c.focus.probe = none) (sig : c.sig = s.core.sig)
    (out : c.out = s.core.out) (p : c.tr.p = s.core.tr.p) (ix : c.ix = s.core.ix) :
    s.FilmHeld (s.runCore f) ⟨name, .transport, BitVec.ofNat 24 info, aux⟩ := by
  obtain ⟨h, events, few⟩ : c.Faulted d ⟨name, .transport, BitVec.ofNat 24 info, aux⟩ ∧ d.Alarms 6 := by
    obtain ⟨h, g⟩ := Core.safetyAs_faulted unmoved probe (sig.trans (s.ready_sig hr)) failed name info aux
    rcases event with rfl | rfl
    · exact ⟨h, g⟩
    · obtain ⟨st, vRef, plan, waiting, wakeCount, testCount, p, entries, frontier, armed, out⟩ := h
      exact ⟨⟨st, vRef, plan, waiting, wakeCount, testCount, p, entries, frontier, armed, out⟩, g⟩
  have free : d.underOrder = false := by simp [Core.underOrder, h.st, h.waiting]
  obtain ⟨m, e, less, settles, informed⟩ := Core.Settles.events 6 d h.armed free events few
  rw [State.runCore_settles_end hr hf settles (by omega)]
  obtain ⟨tr, entries, frontier, -, l, sent⟩ := informed.trans (Core.answers_tryEnd e)
  obtain ⟨faults, cause⟩ := s.leaves_fault_triggers (d := e.tryEnd) (l := l) (by
    rw [sent, h.out, out, s.ready_out hr]; rfl)
  constructor
  · rw [State.leaves_tr, tr]; exact h.st
  · rw [State.leaves_tr, tr]; exact h.vRef
  · rw [State.leaves_tr, tr]; exact h.plan
  · rw [State.leaves_tr, tr]; exact h.wakeCount
  · rw [State.leaves_tr, tr]; exact h.testCount
  · rw [State.leaves_tr, tr, h.p, p]
  · rw [State.leaves_ix, entries, h.entries, ix]
  · rw [State.leaves_ix, frontier, h.frontier, ix]
  · exact faults
  · exact cause

theorem State.runCore_safety {s : State} {f : Core → Core} {c : Core} {name : FaultName} {r : Reply} {info : Nat} (hr : s.ready = true)
    (hf : f s.core = c.safetyEvent name r info) (failed : r.failed = true) (unmoved : c.unmoved = true) (probe : c.focus.probe = none)
    (sig : c.sig = s.core.sig) (out : c.out = s.core.out) (p : c.tr.p = s.core.tr.p) (ix : c.ix = s.core.ix) :
    s.FilmHeld (s.runCore f) ⟨name, .transport, BitVec.ofNat 24 info, BitVec.ofInt 28 s.core.tr.p⟩ := by
  have held := State.runCore_safetyAs hr hf (.inl (by rw [Core.safetyEvent])) failed unmoved probe sig out p ix
  rw [auxPosition, p] at held
  exact held

/-! ## Where the events arise -/

/-- The out-of-band count of a dancer. -/
def Transport.outCount (t : Transport) : Side → Option (Bool × Nat)
  | .supply => t.supplyDancer.out
  | .takeUp => t.takeUpDancer.out

theorem Core.outOfBand_high {c : Core} {d : Side} {n : Nat} (h : c.tr.outCount d = some (true, n)) :
    c.outOfBand d = c.safetyEvent .tensionHigh .tensionHigh (c.dancerInfo d) := by
  cases d <;> simp_all [Core.outOfBand, Transport.outCount]

theorem Core.outOfBand_low {c : Core} {d : Side} {n : Nat} (h : c.tr.outCount d = some (false, n)) :
    c.outOfBand d = c.safetyEvent .tensionLow .tensionLow (c.dancerInfo d) := by
  cases d <;> simp_all [Core.outOfBand, Transport.outCount]

/-- The stall count of a reel. -/
def Transport.stallCount (t : Transport) : Side → Count
  | .supply => t.supply.stall
  | .takeUp => t.takeUp.stall

theorem Core.stalled_due {c : Core} {d : Side} (h : c.tr.stallCount d ≠ none) (runs : c.tr.timerRuns = true)
    (going : c.tr.unthreadEnding = false) : c.stalled d = c.safetyEvent .reelStall .reelStall (sideCode d) := by
  have counts := Option.isSome_iff_ne_none.2 h
  cases d <;> simp_all [Core.stalled, Transport.stallCount]

theorem Core.filmLevel_lost {c : Core} (present : c.pins.filmPresent = true)
    (st : c.tr.st = .hold ∨ c.tr.st = .move ∨ c.tr.st = .relaxed ∨ c.tr.st = .threading) :
    c.filmLevel false = (c.setPins { c.pins with filmPresent := false }).safetyEvent .filmBreak .filmBreak 0 := by
  rcases st with st | st | st | st <;> simp [Core.filmLevel, present, Core.filmLost, st]

theorem Core.extAsserted_event {c : Core} (fresh : c.pins.extStop = false) (sensitive : c.tr.stopSensitive = true) :
    c.extAsserted = (c.setPins { c.pins with extStop := true }).safetyEvent .extStop .extStop 0 := by
  simp [Core.extAsserted, fresh, sensitive]

theorem Core.unthreadLimit_due {c : Core} (st : c.tr.st = .unthreading) (going : c.tr.unthreadEnding = false)
    (unbraked : c.tr.resetBraking = false) (limit : c.tr.nominal + 400000 < c.tr.travel) :
    c.unthreadLimit = c.threadFail (c.tr.travel / 1000).toNat := by
  rw [Core.unthreadLimit]
  exact if_pos ⟨st, going, unbraked, limit⟩

theorem Transport.watching_regulates {t : Transport} (h : t.watching = true) : t.regulating = true := by
  simp only [Transport.watching, Bool.and_eq_true] at h
  exact h.1.1

/-- A dancer's code at an end stop, the supply dancer's first, while the dancers are watched. -/
theorem Core.regulate_endStop {c : Core} {a b : Nat} (watching : c.tr.watching = true) (unmoved : c.unmoved = true) :
    ∃ d : Core, d.unmoved = true ∧ d.focus = c.focus ∧ d.sig = c.sig ∧ d.out = c.out ∧ d.tr.p = c.tr.p ∧ d.ix = c.ix ∧
      ((a ≤ 15 ∨ 4080 ≤ a) → c.regulate a b = d.safetyEvent .filmBreak .filmBreak (65536 + a)) ∧
      (15 < a ∧ a < 4080 ∧ (b ≤ 15 ∨ 4080 ≤ b) → c.regulate a b = d.safetyEvent .filmBreak .filmBreak (131072 + b)) := by
  unfold Core.regulate
  dsimp only
  generalize c.tr.supplyDancer.period .. = s
  generalize c.tr.takeUpDancer.period .. = u
  generalize driven : Core.driveReels _ _ s u = e
  have frame : e.unmoved = c.unmoved ∧ e.focus = c.focus ∧ e.sig = c.sig ∧ e.out = c.out ∧ e.ix = c.ix := by
    obtain ⟨x, y, n, shape, -⟩ := Core.driveReels_shape (c.setPins { c.pins with dancerSupply := a, dancerTakeUp := b }) _ s u
    rw [← driven, shape]
    exact ⟨rfl, rfl, rfl, rfl, rfl⟩
  obtain ⟨still, lens, sig, out, ix⟩ := frame
  refine ⟨_, ?_, ?_, ?_, ?_, ?_, ?_, fun supply => if_pos ?_, fun ⟨over', under, takeUp⟩ => (if_neg ?_).trans (if_pos ?_)⟩
  · exact still.trans unmoved
  · exact lens
  · exact sig
  · exact out
  · rfl
  · exact ix
  · simp [watching, endStop, supply]
  · simp [endStop, over', under]
  · simp [watching, endStop, takeUp]

/-- TENSION_LOW of a wake or a recovery's test names a dancer that is out of band, if any is. -/
theorem Core.tensionMissing_info (c : Core) : ∃ x, c.tensionMissing = (c.safetyEvent .tensionLow .tensionLow x).nextFree ∧
    (match bandOf c.prof c.pins.dancerSupply, bandOf c.prof c.pins.dancerTakeUp with
      | .inside, .inside => (· = 0)
      | .inside, _ => (· = c.dancerInfo .takeUp)
      | _, .inside => (· = c.dancerInfo .supply)
      | _, _ => fun x => x = c.dancerInfo .supply ∨ x = c.dancerInfo .takeUp) x := by
  refine ⟨_, rfl, ?_⟩
  cases Config.lowNamesSupply c.free <;> cases bandOf c.prof c.pins.dancerSupply <;>
    cases bandOf c.prof c.pins.dancerTakeUp <;> simp

theorem exec_filmPresentChange {s : State} (hr : s.ready = true) (present : Bool) :
    exec (.filmPresentChange present) s = .next (s.runCore fun c => c.filmLevel present) := if_neg (s.ready_notHeld hr)

theorem exec_extStopAssert {s : State} (hr : s.ready = true) : exec .extStopAssert s = .next (s.runCore Core.extAsserted) :=
  if_neg (s.ready_notHeld hr)

/-- Settles O41. -/
theorem safetyEventsHoldTheFilm : Obligations.SafetyEventsHoldTheFilm := by
  intro i name info aux s hr unmoved probe event
  suffices h : ∃ x a, info x ∧ aux a ∧ ∃ t, exec i s = .next t ∧ s.FilmHeld t ⟨name, .transport, BitVec.ofNat 24 x, a⟩ by
    obtain ⟨x, a, hx, ha, t, run, st, vRef, plan, wakeCount, testCount, p, entries, frontier, faults, cause⟩ := h
    exact ⟨t, x, a, run, hx, ha, st, Core.filmHeld_of_fault st, vRef, plan, wakeCount, testCount, p, entries, frontier, faults, cause⟩
  rcases event with ⟨d, n, rfl, rfl, rfl, out, rfl⟩ | ⟨d, n, rfl, rfl, rfl, out, rfl⟩ | ⟨d, rfl, rfl, rfl, stall, runs, going, rfl⟩ |
    ⟨rfl, rfl, rfl, present, st, rfl⟩ | ⟨a, b, rfl, rfl, watching, code, rfl⟩ | ⟨rfl, rfl, rfl, fresh, sensitive, rfl⟩ |
    ⟨count, rfl, rfl, rfl⟩ | ⟨rfl, rfl, rfl, st, step, count, rfl⟩ | ⟨rfl, rfl, rfl, st, going, unbraked, limit, rfl⟩
  · exact ⟨_, _, rfl, rfl, _, rfl,
      State.runCore_safety (c := s.core) hr (Core.outOfBand_high (n := n) (by cases d <;> exact out)) rfl unmoved probe rfl rfl rfl rfl⟩
  · exact ⟨_, _, rfl, rfl, _, rfl,
      State.runCore_safety (c := s.core) hr (Core.outOfBand_low (n := n) (by cases d <;> exact out)) rfl unmoved probe rfl rfl rfl rfl⟩
  · exact ⟨sideCode d, _, by cases d <;> rfl, rfl, _, rfl, State.runCore_safety (c := s.core) (r := .reelStall) hr
      (Core.stalled_due (d := d) (by cases d <;> exact stall) runs going) rfl unmoved probe rfl rfl rfl rfl⟩
  · exact ⟨_, _, rfl, rfl, _, exec_filmPresentChange hr false, State.runCore_safety
      (c := s.core.setPins { s.core.pins with filmPresent := false }) (r := .filmBreak) hr (Core.filmLevel_lost present st) rfl unmoved probe rfl rfl rfl rfl⟩
  · obtain ⟨d, still, lens, sig, sent, p, ix, supply, takeUp⟩ := Core.regulate_endStop (a := a) (b := b) watching unmoved
    have regulates := Core.when_true (Transport.watching_regulates watching) (fun c => c.regulate a b) (c := s.core)
    rcases code with ⟨stop, rfl⟩ | ⟨low, high, stop, rfl⟩
    · exact ⟨_, _, rfl, rfl, _, rfl,
        State.runCore_safety (c := d) hr (regulates.trans (supply stop)) rfl still (lens ▸ probe) sig sent p ix⟩
    · exact ⟨_, _, rfl, rfl, _, rfl,
        State.runCore_safety (c := d) hr (regulates.trans (takeUp ⟨low, high, stop⟩)) rfl still (lens ▸ probe) sig sent p ix⟩
  · exact ⟨_, _, rfl, rfl, _, exec_extStopAssert hr, State.runCore_safety
      (c := s.core.setPins { s.core.pins with extStop := true }) hr (Core.extAsserted_event fresh sensitive) rfl unmoved probe rfl rfl rfl rfl⟩
  · obtain ⟨x, missing, names⟩ := s.core.tensionMissing_info
    rcases count with ⟨rfl, count⟩ | ⟨rfl, count⟩
    · exact ⟨x, _, names, rfl, _, rfl, State.runCore_safetyAs (c := s.core) hr
        ((Core.when_true (Option.isSome_iff_ne_none.2 count) Core.tensionMissing).trans missing) (.inr (by rw [Core.safetyEvent, auxPosition])) rfl unmoved probe rfl rfl rfl rfl⟩
    · exact ⟨x, _, names, rfl, _, rfl, State.runCore_safetyAs (c := s.core) hr
        ((Core.when_true (Option.isSome_iff_ne_none.2 count) Core.tensionMissing).trans missing) (.inr (by rw [Core.safetyEvent, auxPosition])) rfl unmoved probe rfl rfl rfl rfl⟩
  · have due : (s.core.tr.st = .threading && s.core.tr.threadStep = .feed && s.core.tr.feedCount.isSome) = true := by
      simp [st, step, Option.isSome_iff_ne_none.2 count]
    exact ⟨_, _, rfl, trivial, _, rfl, State.runCore_safetyAs (c := s.core) hr
      (Core.when_true due fun c => c.threadFail 10000) (.inr (by rw [Core.threadFail])) rfl unmoved probe rfl rfl rfl rfl⟩
  · exact ⟨_, _, rfl, trivial, _, rfl, State.runCore_safetyAs (c := s.core) hr
      (Core.unthreadLimit_due st going unbraked limit) (.inr (by rw [Core.threadFail])) rfl unmoved probe rfl rfl rfl rfl⟩

end Sys2Proof.Machine
end

section
/-! SUPPORT. The choice of the next pass: targets in the index, costs, the cheapest candidate, and what a chosen request
starts (R150 to R156). -/

namespace Sys2Proof.Machine

/-! ## Targets in the index (R152) -/

theorem findNamed_eq_some {y : Target} {n : Nat} : ∀ (l : List Entry) (k : Nat), findNamed y k l = some n ↔
    ∃ j e, n = k + j ∧ l[j]? = some e ∧ y.names n e = true ∧ ∀ i d, i < j → l[i]? = some d → y.names (k + i) d = false
  | [], k => by simp [findNamed]
  | e :: l, k => by
    rw [findNamed]
    split
    · next named =>
      constructor
      · rintro ⟨⟩
        exact ⟨0, e, rfl, rfl, named, fun i d h => absurd h (Nat.not_lt_zero i)⟩
      · rintro ⟨j, d, rfl, -, -, first⟩
        cases j with
        | zero => rfl
        | succ j => exact absurd named (by rw [show y.names k e = false from first 0 e (Nat.succ_pos j) rfl]; decide)
    · next unnamed =>
      rw [findNamed_eq_some l (k + 1)]
      constructor
      · rintro ⟨j, d, rfl, at', named, first⟩
        refine ⟨j + 1, d, by omega, at', named, fun i c less there => ?_⟩
        cases i with
        | zero =>
          cases there
          exact Bool.eq_false_iff.2 unnamed
        | succ i => rw [show k + (i + 1) = k + 1 + i by omega]; exact first i c (by omega) there
      · rintro ⟨j, d, rfl, at', named, first⟩
        cases j with
        | zero =>
          cases at'
          exact absurd named unnamed
        | succ j =>
          refine ⟨j, d, by omega, at', named, fun i c less there => ?_⟩
          rw [show k + 1 + i = k + (i + 1) by omega]
          exact first (i + 1) c (by omega) there

theorem IndexUnit.entry_succ (x : IndexUnit) (j : Nat) : x.entry (1 + j) = x.entries[j]? := by
  rw [IndexUnit.entry, if_neg (by omega), show 1 + j - 1 = j by omega]

/-- The entry a target names is the first one that it names. -/
theorem IndexUnit.find_eq_some {x : IndexUnit} {y : Target} {n : Nat} : x.find y = some n ↔
    ∃ e, x.entry n = some e ∧ y.names n e = true ∧ ∀ m d, m < n → x.entry m = some d → y.names m d = false := by
  rw [IndexUnit.find, findNamed_eq_some]
  constructor
  · rintro ⟨j, e, rfl, there, named, first⟩
    refine ⟨e, (x.entry_succ j).trans there, named, fun m d less at' => ?_⟩
    cases m with
    | zero => cases at'
    | succ m =>
      rw [Nat.add_comm m 1] at at' ⊢
      exact first m d (by omega) ((x.entry_succ m).symm.trans at')
  · rintro ⟨e, there, named, first⟩
    cases n with
    | zero => cases there
    | succ n =>
      rw [Nat.add_comm n 1] at there named first ⊢
      exact ⟨n, e, rfl, (x.entry_succ n).symm.trans there, named, fun i d less at' =>
        first (1 + i) d (by omega) ((x.entry_succ i).trans at')⟩

/-! ## Costs (R152, R153) -/

theorem Core.cost_eq {c : Core} {r : Request} {v : Int} (frontier : c.ix.find r.target = none → v = c.ix.frontier)
    (here : ∀ n, c.ix.find r.target = some n → r.kind = .index → v = c.tr.p)
    (target : ∀ n e, c.ix.find r.target = some n → r.kind ≠ .index → c.ix.entry n = some e → v = c.targetOf e) :
    c.cost r = if c.tr.p + (c.prof.approach : Int) ≤ v then v - c.tr.p
      else v - c.tr.p + max c.ix.frontier c.tr.p + 2 * (c.prof.gateOffset : Int) := by
  have resolved : c.resolved r = v := by
    unfold Core.resolved
    cases found : c.ix.find r.target with
    | none => exact (frontier found).symm
    | some n =>
      obtain ⟨e, there, -⟩ := IndexUnit.find_eq_some.1 found
      by_cases index : r.kind = .index
      · exact (if_pos index).trans (here n found index).symm
      · refine (if_neg index).trans ?_
        rw [there]
        exact (target n e found index there).symm
  rw [← resolved]
  rfl

/-- The cheapest candidate: of equal costs, the earliest. -/
theorem Core.cheapest_spec (c : Core) : ∀ l : List PendReq, (c.cheapest l = none ↔ l = []) ∧
    ∀ q, c.cheapest l = some q → ∃ before after, l = before ++ q :: after ∧
      (∀ r ∈ before, c.cost q.req < c.cost r.req) ∧ (∀ r ∈ after, c.cost q.req ≤ c.cost r.req)
  | [] => by simp [Core.cheapest]
  | p :: l => by
    obtain ⟨empty, least⟩ := c.cheapest_spec l
    rw [Core.cheapest]
    cases rest : c.cheapest l with
    | none =>
      rw [empty.1 rest]
      refine ⟨by simp, fun q h => ?_⟩
      cases h
      exact ⟨[], [], rfl, by simp, by simp⟩
    | some r =>
      obtain ⟨before, after, split', below, above⟩ := least r rest
      dsimp only
      split
      · next cheaper =>
        refine ⟨by simp, fun q h => ?_⟩
        cases h
        exact ⟨p :: before, after, by rw [split']; rfl, by simpa using ⟨cheaper, below⟩, above⟩
      · next dear =>
        refine ⟨by simp, fun q h => ?_⟩
        cases h
        refine ⟨[], l, rfl, by simp, fun x hx => ?_⟩
        have least' : c.cost r.req ≤ c.cost x.req := by
          rw [split'] at hx
          rcases List.mem_append.1 hx with hx | hx
          · exact (below x hx).le
          · rcases List.mem_cons.1 hx with rfl | hx
            · exact le_refl _
            · exact above x hx
        omega

theorem Core.cheapest_of_split {c : Core} {q : PendReq} {after : List PendReq} (above : ∀ r ∈ after, c.cost q.req ≤ c.cost r.req) :
    ∀ before : List PendReq, (∀ r ∈ before, c.cost q.req < c.cost r.req) → c.cheapest (before ++ q :: after) = some q
  | [], _ => by
    rw [List.nil_append, Core.cheapest]
    cases rest : c.cheapest after with
    | none => rfl
    | some r =>
      obtain ⟨b, a, split', -⟩ := (c.cheapest_spec after).2 r rest
      exact if_neg (not_lt.2 (above r (by rw [split']; simp)))
  | p :: before, below => by
    rw [List.cons_append, Core.cheapest,
      Core.cheapest_of_split above before fun r hr => below r (List.mem_cons_of_mem _ hr)]
    exact if_pos (below p List.mem_cons_self)

/-! ## The mounted bay -/

theorem mountedFrom_eq_some {b : Nat} : ∀ (l : List Bay) (k : Nat), mountedFrom k l = some b →
    ∃ j x, b = k + j ∧ l[j]? = some x ∧ x.st = .mounted
  | [], k, h => nomatch h
  | x :: l, k, h => by
    rw [mountedFrom] at h
    split at h
    · next mounted =>
      cases h
      exact ⟨0, x, rfl, rfl, mounted⟩
    · obtain ⟨j, y, rfl, there, mounted⟩ := mountedFrom_eq_some l (k + 1) h
      exact ⟨j + 1, y, by omega, there, mounted⟩

theorem mountedFrom_eq_none : ∀ (l : List Bay) (k : Nat), mountedFrom k l = none ↔ ∀ (j : Nat) (x : Bay), l[j]? = some x → x.st ≠ .mounted
  | [], k => by simp [mountedFrom]
  | x :: l, k => by
    rw [mountedFrom]
    split
    · next mounted => exact ⟨fun h => (nomatch h), fun h => absurd mounted (h 0 x rfl)⟩
    · next unmounted =>
      rw [mountedFrom_eq_none l (k + 1)]
      constructor
      · intro h j y there
        cases j with
        | zero => cases there; exact unmounted
        | succ j => exact h j y there
      · exact fun h j y there => h (j + 1) y there

theorem RollMgr.mounted_some {r : RollMgr} {b : Nat} (h : r.mounted = some b) : (r.bay b).st = .mounted := by
  obtain ⟨j, x, rfl, there, mounted⟩ := mountedFrom_eq_some _ _ h
  rw [RollMgr.bay, if_neg (by omega), show 1 + j - 1 = j by omega, List.getD_eq_getElem?_getD, there]
  exact mounted

theorem RollMgr.mounted_none {r : RollMgr} (h : r.mounted = none) (b : Nat) : (r.bay b).st ≠ .mounted := by
  rw [RollMgr.bay]
  split
  · decide
  · rw [List.getD_eq_getElem?_getD]
    cases there : r.bays[b - 1]? with
    | none => decide
    | some x => exact (mountedFrom_eq_none _ _).1 h _ x there

/-- A record that is not MOUNTED leaves no bay MOUNTED. -/
theorem RollMgr.mounted_setBay_none {r : RollMgr} (h : r.mounted = none) {b : Nat} {x : Bay} (hx : x.st ≠ .mounted) :
    (r.setBay b x).mounted = none := by
  rw [RollMgr.setBay]
  split
  · exact h
  · refine (mountedFrom_eq_none _ _).2 fun j y there => ?_
    rw [show _ = (setAt r.bays (b - 1) x)[j]? from rfl, getElem?_setAt] at there
    split at there
    · cases there; exact hx
    · exact (mountedFrom_eq_none _ _).1 h j y there

/-! ## The choice (R150, R151) -/

theorem Kind.not_moving {k : Kind} (h : k.positional = true) : k.moving = false := by
  cases k <;> first | rfl | cases h

theorem firstEligible_positional (mounted : Option Nat) : ∀ (l : List PendReq) (seen : Bool), (∀ r ∈ l, r.req.kind.positional = true) →
    firstEligible mounted seen l = none
  | [], _, _ => rfl
  | q :: l, seen, h => by
    rw [firstEligible, if_neg (by simp [Kind.not_moving (h q List.mem_cons_self)])]
    exact firstEligible_positional mounted l _ fun r hr => h r (List.mem_cons_of_mem _ hr)

theorem freePositional_positional {l : List PendReq} (h : ∀ r ∈ l, r.req.kind.positional = true) : freePositional l = l := by
  have all : l.takeWhile (fun q => !q.req.kind.moving) = l := List.takeWhile_eq_self_iff.2 fun r hr => by
    simp [Kind.not_moving (h r hr)]
  rw [freePositional, all]
  exact List.filter_eq_self.2 h

/-- No pass and no swap is under way, and the part is in RUN: a choice can be made. -/
def Core.choosing (c : Core) : Prop := c.modes.mode = .run ∧ c.rm.pass = none ∧ c.rm.swap = none

theorem Core.choose_none {c : Core} (h : ¬ c.choosing ∨ c.rm.held = []) : c.choose = c := by
  unfold Core.choose
  split
  · rfl
  · next free =>
    rcases h with h | h
    · refine absurd ?_ h
      push Not at free
      obtain ⟨mode, pass, swap⟩ := free
      exact ⟨mode, by simpa using pass, by simpa using swap⟩
    · rw [h]
      cases c.roll.mounted <;> rfl

theorem Core.not_busy {c : Core} (h : c.choosing) : ¬ (c.modes.mode ≠ .run ∨ c.rm.pass.isSome ∨ c.rm.swap.isSome) := by
  obtain ⟨mode, pass, swap⟩ := h
  simp [mode, pass, swap]

/-- A lone MOUNT or UNMOUNT is chosen. -/
theorem Core.choose_moving {c : Core} {q : PendReq} (free : c.choosing) (held : c.rm.held = [q]) (moving : q.req.kind.moving = true) :
    c.choose = c.startRequest q := by
  unfold Core.choose
  rw [if_neg (Core.not_busy free), held]
  simp only [firstEligible, moving, Bool.not_false, Bool.and_self, if_true]

/-- A lone request for a roll that is bound but not mounted starts a swap. -/
theorem Core.choose_swap {c : Core} {q : PendReq} {b d : Nat} (free : c.choosing) (held : c.rm.held = [q])
    (positional : q.req.kind.positional = true) (mounted : c.roll.mounted = some b) (bound : c.roll.boundBay q.req.roll = some d)
    (st : (c.roll.bay d).st = .bound) (away : q.req.roll ≠ c.mountedRoll) : c.choose = c.startSwap q.req.roll := by
  have alone : ∀ r ∈ [q], r.req.kind.positional = true := by simpa using positional
  unfold Core.choose
  rw [if_neg (Core.not_busy free), held]
  simp only [firstEligible_positional _ _ false alone, freePositional_positional alone, mounted, Option.map_some, Option.some.injEq,
    List.filter_cons, away.symm, decide_false, Bool.false_eq_true, if_false, List.filter_nil, bound, st, decide_true, if_true]
  split
  · next due => split at due <;> cases due; rfl
  · rfl

/-- A lone request for the mounted roll, with the transport in FAULT, starts a recovery. -/
theorem Core.choose_recovery {c : Core} {q : PendReq} {b : Nat} (free : c.choosing) (held : c.rm.held = [q])
    (positional : q.req.kind.positional = true) (mounted : c.roll.mounted = some b) (same : q.req.roll = c.mountedRoll)
    (st : c.tr.st = .fault) : c.choose = c.startAutoMount .autoRecovery b c.mountedRoll := by
  have alone : ∀ r ∈ [q], r.req.kind.positional = true := by simpa using positional
  unfold Core.choose
  rw [if_neg (Core.not_busy free), held]
  simp only [firstEligible_positional _ _ false alone, freePositional_positional alone, mounted, Option.map_some,
    List.filter_cons, same, decide_true, if_true, List.filter_nil, st]

/-- `q` is the candidate R153 chooses of `l`. -/
def Core.Chosen (c : Core) (l : List PendReq) (q : PendReq) : Prop :=
  ∃ before after, l = before ++ q :: after ∧
    (c.port.setup.ageLimit ≤ q.passOver ∧ (∀ r ∈ before, r.passOver < c.port.setup.ageLimit) ∨
      (∀ r ∈ l, r.passOver < c.port.setup.ageLimit) ∧ (∀ r ∈ before, c.cost q.req < c.cost r.req) ∧
        (∀ r ∈ after, c.cost q.req ≤ c.cost r.req))

theorem Core.choose_among {c : Core} {l : List PendReq} {q : PendReq} {b : Nat} (free : c.choosing) (held : c.rm.held = l)
    (rolls : ∀ r ∈ l, r.req.kind.positional = true ∧ r.req.roll = c.mountedRoll) (mounted : c.roll.mounted = some b)
    (bound : c.roll.boundBay c.mountedRoll = some b) (st : c.tr.st = .hold) (chosen : c.Chosen l q) :
    c.choose = (c.passOver l q).startRequest q := by
  have candidates : l.filter (fun r => decide (some c.mountedRoll = some r.req.roll)) = l :=
    List.filter_eq_self.2 fun r hr => by simp [(rolls r hr).2]
  have nothing (p : PendReq → Bool) (h : ∀ r ∈ l, ¬ p r = true) : l.filter p = [] := List.filter_eq_nil_iff.2 h
  unfold Core.choose
  rw [if_neg (Core.not_busy free), held]
  simp only [firstEligible_positional _ _ false fun r hr => (rolls r hr).1, freePositional_positional fun r hr => (rolls r hr).1,
    mounted, Option.map_some, candidates, st]
  rw [nothing, List.filter_nil]
  swap
  · intro r hr
    rw [(rolls r hr).2, bound]
    simp [RollMgr.mounted_some mounted]
  obtain ⟨before, after, rfl, oldest | ⟨young, below, above⟩⟩ := chosen
  · have found : (before ++ q :: after).find? (fun r => decide (c.port.setup.ageLimit ≤ r.passOver)) = some q :=
      List.find?_eq_some_iff_append.2 ⟨by simpa using oldest.1, before, after, rfl, fun r hr => by simpa using oldest.2 r hr⟩
    rw [found]
  · have found : (before ++ q :: after).find? (fun r => decide (c.port.setup.ageLimit ≤ r.passOver)) = none :=
      List.find?_eq_none.2 fun r hr => by simpa using young r hr
    rw [found, Core.cheapest_of_split above before below]

/-! ## What a chosen request starts (R44, R156) -/

/-- With nothing pending, and no selection, a pass start changes no profile. -/
theorem Core.profileSwitch_none {c : Core} (h : c.store.pending = none) : c.profileSwitch 0 = c := by
  simp only [Core.profileSwitch, Store.takePending, h, Store.select, selectionSet, Bool.or_false, Bool.false_eq_true, if_false]
  rfl

/-- The record of a positional request's pass at its start. -/
def PendReq.pass (q : PendReq) : Pass := Pass.begin (.request q.req.kind) q.slot q.stamp q.takenAt q.clamps q.req .seeking .mapRead

theorem Core.startRequest_positional {c : Core} {q : PendReq} (positional : q.req.kind.positional = true)
    (pending : c.store.pending = none) : c.startRequest q = ((c.activate q).setPass q.pass).startFilm q.pass := by
  have stays : (c.activate q).profileSwitch 0 = c.activate q := Core.profileSwitch_none pending
  unfold Core.startRequest
  dsimp only
  split
  · next mount => rw [mount] at positional; cases positional
  · next unmount => rw [unmount] at positional; cases positional
  · next other _ =>
    rw [if_neg other, stays]
    rfl

theorem Request.mapped_scan {r : Request} (h : r.mapped = true) : r.kind = .scan := by
  simp only [Request.mapped, Bool.and_eq_true, decide_eq_true_eq] at h
  exact h.1

/-- A pass whose Selection Map is to be read. -/
def Core.mapAsked (c : Core) (p : Pass) : Core :=
  (c.setPass p).setPort { c.port with boardQueue := c.port.boardQueue ++
    [.selectionMap p.req.argA (mapLength p.req.endTarget.isSome p.req.count)] }

theorem Core.startFilm_mapped {c : Core} {p : Pass} (mapped : p.req.mapped = true)
    (startable : c.ix.find p.req.target ≠ none ∨ c.ix.full = false) : c.startFilm p = c.mapAsked p := by
  rw [Core.startFilm]
  refine if_pos ?_
  rcases startable with h | h
  · simp [mapped, Option.isSome_iff_ne_none.2 h]
  · simp [mapped, h]

theorem Core.endDue_of_unended {c : Core} {p : Pass} (pass : c.rm.pass = some p) (going : p.ending = none) : c.endDue = false := by
  simp [Core.endDue, pass, going]

/-- A candidate is held. -/
theorem ReqMgr.mem_held {m : ReqMgr} {q : PendReq} (h : q ∈ m.held) : q ∈ m.pendingSet := List.mem_of_mem_filter h

/-- The chosen request is active, and the other candidates have gained 1. -/
theorem Core.passOver_activate {c : Core} {l : List PendReq} {q : PendReq} (held : c.rm.held = l) (mem : q ∈ l) :
    { q with active := true } ∈ ((c.passOver l q).activate q).rm.pendingSet ∧
    ∀ r ∈ l, r.slot ≠ q.slot → { r with passOver := min (r.passOver + 1) 15 } ∈ ((c.passOver l q).activate q).rm.pendingSet := by
  refine ⟨?_, fun r hr other => ?_⟩
  · refine List.mem_map.2 ⟨q, List.mem_map.2 ⟨q, ReqMgr.mem_held (held ▸ mem), ?_⟩, ?_⟩ <;> simp
  · have there : l.any (fun k => decide (k.slot = r.slot)) = true := List.any_eq_true.2 ⟨r, hr, by simp⟩
    refine List.mem_map.2 ⟨{ r with passOver := min (r.passOver + 1) 15 }, List.mem_map.2 ⟨r, ReqMgr.mem_held (held ▸ hr), ?_⟩, ?_⟩
    · simp [there, other]
    · simp [other]

theorem getElem?_setAt_self {α : Type} {l : List α} {n : Nat} (h : n < l.length) (x : α) : (setAt l n x)[n]? = some x := by
  rw [getElem?_setAt]
  exact if_pos ⟨rfl, h⟩

/-- The choice among several candidates, of a SCAN with a Selection Map. -/
theorem State.passChoice_mapped {l : List PendReq} {q : PendReq} {s : State} (hr : s.ready = true) (free : s.core.choosing)
    (held : s.core.rm.held = l) {b : Nat} (rolls : ∀ r ∈ l, r.req.kind.positional = true ∧ r.req.roll = s.core.mountedRoll)
    (pending : s.core.store.pending = none) (mounted : s.core.roll.mounted = some b)
    (bound : s.core.roll.boundBay s.core.mountedRoll = some b) (st : s.core.tr.st = .hold) (slot : q.slot < s.core.rm.slots.length)
    (mapped : q.req.mapped = true) (startable : s.core.ix.find q.req.target ≠ none ∨ s.core.ix.full = false)
    (chosen : s.core.Chosen l q) :
    ∃ t p, exec .passChoice s = .next t ∧ t.core.rm.pass = some p ∧ p.slot = q.slot ∧ p.stamp = q.stamp ∧
      p.act = .mapRead ∧ t.core.rm.slots[q.slot]? = some (.held q.stamp .activePass) ∧
      { q with active := true } ∈ t.core.rm.pendingSet ∧
      (∀ r ∈ l, r.slot ≠ q.slot → { r with passOver := min (r.passOver + 1) 15 } ∈ t.core.rm.pendingSet) ∧
      t.core.tr = s.core.tr := by
  have scan := Request.mapped_scan mapped
  have mem : q ∈ l := by obtain ⟨before, after, rfl, -⟩ := chosen; simp
  have starts : s.core.choose = (((s.core.passOver l q).activate q).setPass q.pass).mapAsked q.pass :=
    (Core.choose_among free held rolls mounted bound st chosen).trans
      ((Core.startRequest_positional (by rw [scan]; rfl) (by exact pending)).trans (Core.startFilm_mapped mapped startable))
  obtain ⟨active, gained⟩ := Core.passOver_activate (q := q) held mem
  exact ⟨_, q.pass, congrArg Host.Outcome.next (State.runCore_ready hr starts (s.ready_sig hr) (Core.endDue_of_unended rfl rfl)),
    rfl, rfl, rfl, rfl, getElem?_setAt_self (by exact slot) _, active, gained, rfl⟩

/-! ## The sequences a choice starts (R151, R154, R155) -/

/-- The record of a pass of the rolls, at its start. -/
def PendReq.rollPass (q : PendReq) (st : PassState) : Pass :=
  Pass.begin (.request q.req.kind) q.slot q.stamp q.takenAt q.clamps q.req st .rolls

theorem Core.startRequest_mount {c : Core} {q : PendReq} (kind : q.req.kind = .mount) (pending : c.store.pending = none)
    (unselected : q.req.argA / 256 % 4 = 0) :
    c.startRequest q = ((c.activate q).setPass (q.rollPass .mounting)).startMount (q.req.argA % 256) (some q.req) := by
  have stays : (c.activate q).profileSwitch 0 = c.activate q := Core.profileSwitch_none pending
  simp only [Core.startRequest, kind, if_true, unselected, stays, PendReq.rollPass]

theorem Core.startRequest_unmount {c : Core} {q : PendReq} {b : Nat} (kind : q.req.kind = .unmount) (pending : c.store.pending = none)
    (bound : c.roll.boundBay q.req.roll = some b) :
    c.startRequest q = ((c.activate q).setPass (q.rollPass .unmounting)).startUnmount b := by
  have stays : (c.activate q).profileSwitch 0 = c.activate q := Core.profileSwitch_none pending
  have bound' : ((c.activate q).setPass (q.rollPass .unmounting)).roll.boundBay q.req.roll = some b := bound
  unfold PendReq.rollPass at bound' ⊢
  rw [kind] at bound' ⊢
  simp only [Core.startRequest, kind, reduceCtorEq, if_false, stays, bound']

theorem Core.seqSave_unmounted {c : Core} (h : c.roll.mounted = none) (q : Seq) : c.seqSave q = c.seqClear q := by
  simp only [Core.seqSave, h]

theorem Core.seqSave_unsaved {c : Core} {b : Nat} (h : c.roll.mounted = some b) (none' : (c.roll.bay b).saveAddress = none) (q : Seq) :
    c.seqSave q = c.seqClear q := by
  simp only [Core.seqSave, h, none']

theorem Core.seqSave_saved {c : Core} {b a : Nat} (h : c.roll.mounted = some b) (save : (c.roll.bay b).saveAddress = some a) (q : Seq) :
    c.seqSave q = (c.setSeq { q with step := .save }).askPorter (.save b a ((c.roll.bay b).roll.getD 0)) := by
  simp only [Core.seqSave, h, save]

theorem Core.seqClear_threaded {c : Core} (st : c.tr.st ≠ .unthreaded) (q : Seq) :
    c.seqClear q = (c.setSeq { q with step := .clear }).orderRecover := by
  rw [Core.seqClear]
  exact if_pos st

/-- A mount with the gate empty, no bay MOUNTED and no cassette at the transport goes on to its FETCH. -/
theorem Core.seqClear_fetch {c : Core} {q : Seq} (st : c.tr.st = .unthreaded) (mounted : c.roll.mounted = none)
    (changer : c.roll.changer = true) (cassette : c.roll.cassette = none) (mount : q.mount = true) (going : q.cancel = false)
    (there : q.emptied = false) : c.seqClear q =
      (c.setRoll { c.roll with cassette := some q.bay }).exchangeBay { q with releaseWaits := false } .fetch q.bay := by
  have released : c.releaseBay = c := by simp only [Core.releaseBay, mounted]
  have back : c.seqBack { q with releaseWaits := false } = c.seqFetch { q with releaseWaits := false } := by
    unfold Core.seqBack
    dsimp only
    rw [cassette, if_neg (by simp), if_pos mount]
  unfold Core.seqClear Core.seqRelease
  dsimp only
  rw [if_neg (not_not.2 st), if_neg (by simp [mounted]), released, Core.seqAfter,
    if_neg (by rw [going]; decide), if_neg (by rw [there]; decide), back, Core.seqFetch]
  exact if_pos (by simp [changer, cassette])

/-- The choices of a MOUNT of a bay, with no bay MOUNTED. -/
theorem Core.writeChoices_spec {c : Core} {n : Nat} (r : Request) (low : 1 ≤ n) (high : n ≤ c.roll.bays.length)
    (mounted : c.roll.mounted = none) : ∃ roll : RollMgr, c.writeChoices n r = c.setRoll roll ∧ roll.mounted = none ∧
      roll.changer = c.roll.changer ∧ roll.cassette = c.roll.cassette ∧ roll.serial = c.roll.serial ∧
      (roll.bay n).saveAddress = (if r.argA.testBit 17 then some r.argB else none) ∧ (roll.bay n).st ≠ .mounted := by
  unfold Core.writeChoices
  generalize rec : { c.roll.bay n with
    selection := r.argA / 256 % 4, saveAddress := if r.argA.testBit 17 then some r.argB else none, saved := none } = x
  have hx : x.st ≠ .mounted := by rw [← rec]; exact RollMgr.mounted_none mounted n
  have self : (c.roll.setBay n x).bay n = x := RollMgr.bay_setBay_self _ _ _ low high
  have kept : (c.roll.setBay n x).changer = c.roll.changer ∧ (c.roll.setBay n x).cassette = c.roll.cassette ∧
      (c.roll.setBay n x).serial = c.roll.serial := by rw [RollMgr.setBay, if_neg (by omega)]; exact ⟨rfl, rfl, rfl⟩
  refine ⟨_, rfl, RollMgr.mounted_setBay_none mounted hx, kept.1, kept.2.1, kept.2.2, ?_, ?_⟩
  · rw [self, ← rec]
  · rw [self]; exact hx

/-- A mount's sequence that starts with its FETCH (R171, R174). -/
theorem Core.startMount_fetch {c : Core} {n : Nat} {r : Request} (low : 1 ≤ n) (high : n ≤ c.roll.bays.length)
    (mounted : c.roll.mounted = none) (changer : c.roll.changer = true) (cassette : c.roll.cassette = none)
    (st : c.tr.st = .unthreaded) (up : c.link.st ≠ .down) (room : c.link.queue.length < 8) :
    ∃ (roll : RollMgr) (link : Link) (w : Seq), c.startMount n (some r) = (c.setRoll roll).setLink link ∧
      roll.seq = some w ∧ w.mount = true ∧ w.bay = n ∧ w.step = .fetch ∧ roll.cassette = some n ∧
      (roll.bay n).saveAddress = (if r.argA.testBit 17 then some r.argB else none) ∧
      link.queue = c.link.queue ++ [{ msg := .exchange n (c.roll.serial + 1), by' := .rollManager }] := by
  obtain ⟨roll, written, mounted', changer', cassette', serial, save, fresh⟩ := c.writeChoices_spec r low high mounted
  have unmounted : ((c.writeChoices n r).roll.bay n).st ≠ .mounted := by rw [written]; exact fresh
  unfold Core.startMount
  dsimp only
  rw [if_neg fun h => unmounted h.1, written, Core.seqSave_unmounted (by exact mounted'),
    Core.seqClear_fetch (by exact st) (by exact mounted') (by exact changer'.trans changer) (by exact cassette'.trans cassette)
      rfl rfl rfl]
  unfold Core.exchangeBay
  dsimp only
  rw [Core.submit_queued _ (by exact up) (by exact room)]
  refine ⟨_, _, _, rfl, rfl, rfl, rfl, rfl, rfl, save, ?_⟩
  rw [← serial]
  rfl

theorem Transport.hold_of_steady {t : Transport} (h : t.steady = true) : t.st = .hold := by
  simp only [Transport.steady, Bool.and_eq_true, decide_eq_true_eq] at h
  exact h.1.1

theorem Core.orderRecover_steady {c : Core} (steady : c.tr.steady = true) :
    c.orderRecover = (c.setTr { c.tr with rollWaits := true, travel := 0 }).startUnthread := by
  have st := Transport.hold_of_steady steady
  simp only [Core.orderRecover, Core.orderUnthread, st, steady, if_true]

/-- A sequence's CLEAR that unthreads a steady film (R68, R172). -/
structure Core.Clears (c d : Core) (w : Seq) : Prop where
  frame : d = { c with roll := { c.roll with seq := some w }, tr := d.tr, ix := { c.ix with unit := .off } }
  step : w.step = .clear
  st : d.tr.st = .unthreading
  dir : d.tr.dir = .reverse
  travel : d.tr.travel = 0
  rollWaits : d.tr.rollWaits = true
  p : d.tr.p = c.tr.p

theorem Core.seqClear_unthreads {c : Core} {q : Seq} (steady : c.tr.steady = true) (unmoved : c.unmoved = true) :
    c.Clears (c.seqClear q) { q with step := .clear } := by
  have st := Transport.hold_of_steady steady
  rw [Core.seqClear_threaded (by rw [st]; decide), Core.orderRecover_steady (by exact steady)]
  generalize cleared : Core.setTr _ _ = e
  obtain ⟨frame, slow, tr, -⟩ := Core.startUnthread_unmoved (c := e) (by rw [← cleared]; exact unmoved)
  generalize e.startUnthread = d at frame tr
  subst cleared
  refine ⟨?_, rfl, ?_, ?_, ?_, ?_, ?_⟩
  · rw [frame]; rfl
  all_goals rw [tr]; rfl

/-- A recovery from FAULT with film at the gate begins with its tension test (R71). -/
theorem Core.seqClear_recovers {c : Core} {q : Seq} (st : c.tr.st = .fault) (calm : c.pins.extStop = false)
    (film : c.pins.filmPresent = true) : ∃ tr : Transport,
    c.seqClear q = (c.setSeq { q with step := .clear }).setTr tr ∧ tr.st = .unreferenced ∧ tr.tensionTest = true ∧
      tr.testCount = some c.now := by
  rw [Core.seqClear_threaded (by rw [st]; decide)]
  have stands : (c.setSeq { q with step := .clear }).tr.st = .fault := st
  have off : (c.setSeq { q with step := .clear }).pins.extStop = false := calm
  have present : (c.setSeq { q with step := .clear }).pins.filmPresent = true := film
  unfold Core.orderRecover
  dsimp only
  rw [stands]
  dsimp only
  rw [off, present]
  exact ⟨_, rfl, rfl, rfl, rfl⟩

theorem Core.startUnmount_mounted {c : Core} {b : Nat} (mounted : c.roll.mounted = some b) : c.startUnmount b =
    (c.setSeq (Seq.begin false b none false)).seqSave (Seq.begin false b none false) := by
  rw [Core.startUnmount]
  exact if_pos (RollMgr.mounted_some mounted)

/-! ## The sequences of the obligation -/

theorem State.passChoice_mount {s : State} {q : PendReq} {n : Nat} (hr : s.ready = true) (free : s.core.choosing)
    (held : s.core.rm.held = [q]) (pending : s.core.store.pending = none) (slot : q.slot < s.core.rm.slots.length)
    (kind : q.req.kind = .mount) (hn : n = q.req.argA % 256) (low : 1 ≤ n) (high : n ≤ s.core.roll.bays.length)
    (unselected : q.req.argA / 256 % 4 = 0) (mounted : s.core.roll.mounted = none) (changer : s.core.roll.changer = true)
    (cassette : s.core.roll.cassette = none) (st : s.core.tr.st = .unthreaded) (up : s.core.link.st ≠ .down)
    (room : s.core.link.queue.length < 8) :
    ∃ t p w, exec .passChoice s = .next t ∧ t.core.rm.pass = some p ∧ p.kind = .request .mount ∧ p.st = .mounting ∧
      p.slot = q.slot ∧ p.stamp = q.stamp ∧ t.core.roll.seq = some w ∧ w.mount = true ∧ w.bay = n ∧ w.step = .fetch ∧
      t.core.roll.cassette = some n ∧
      (t.core.roll.bay n).saveAddress = (if q.req.argA.testBit 17 then some q.req.argB else none) ∧
      t.core.link.queue = s.core.link.queue ++ [{ msg := .exchange n (s.core.roll.serial + 1), by' := .rollManager }] ∧
      t.core.rm.slots[q.slot]? = some (.held q.stamp .activePass) ∧ t.core.tr = s.core.tr := by
  obtain ⟨roll, link, w, shape, seq, mount, bay, step, transport, save, queue⟩ := Core.startMount_fetch
    (c := (s.core.activate q).setPass (q.rollPass .mounting)) (r := q.req) low (by exact high) (by exact mounted)
    (by exact changer) (by exact cassette) (by exact st) (by exact up) (by exact room)
  have starts := (Core.choose_moving free held (by rw [kind]; rfl)).trans
    ((Core.startRequest_mount kind pending unselected).trans (hn ▸ shape))
  exact ⟨_, q.rollPass .mounting, w, congrArg Host.Outcome.next (State.runCore_ready hr starts (s.ready_sig hr)
    (Core.endDue_of_unended rfl rfl)), rfl, congrArg PassKind.request kind, rfl, rfl, rfl, seq, mount, bay, step, transport, save, queue,
    getElem?_setAt_self (by exact slot) _, rfl⟩

/-- The sequence of an unmount, a mount or a swap that begins with its CLEAR. -/
theorem State.passChoice_clears {s : State} {c d : Core} {w : Seq} {p : Pass} (hr : s.ready = true) (starts : s.core.choose = d)
    (clears : c.Clears d w) (sig : c.sig = s.core.sig) (pass : c.rm.pass = some p) (going : p.ending = none) :
    exec .passChoice s = .next (s.leaves d) ∧ d.rm = c.rm ∧ d.roll.seq = some w := by
  have rm : d.rm = c.rm := by rw [clears.frame]
  refine ⟨congrArg Host.Outcome.next (State.runCore_ready hr starts ?_ (Core.endDue_of_unended (rm ▸ pass) going)), rm, ?_⟩
  · rw [clears.frame]; exact sig.trans (s.ready_sig hr)
  · rw [clears.frame]

/-- The record of an automatic pass at its start. -/
def autoPass (kind : PassKind) (now : Nat) (move : Kind) (roll : Nat) (st : PassState) : Pass :=
  Pass.begin kind 0 0 now 0 (Request.ofRoll move roll) st .rolls

theorem Core.startSwap_mounted {c : Core} {b : Nat} (mounted : c.roll.mounted = some b) (pending : c.store.pending = none)
    (roll : Nat) : c.startSwap roll = ((c.setRm { c.rm with swap := some { roll := roll, noMount := false } }).setPass
      (autoPass .swapUnmount c.now .unmount c.mountedRoll .unmounting)).startUnmount b := by
  have stays : (c.setRm { c.rm with swap := some { roll := roll, noMount := false } }).profileSwitch 0 = c.setRm { c.rm with
      swap := some { roll := roll, noMount := false } } := Core.profileSwitch_none pending
  have mounted' : (c.setRm { c.rm with swap := some { roll := roll, noMount := false } }).roll.mounted = some b := mounted
  unfold Core.startSwap
  dsimp only
  rw [mounted', stays]
  rfl

theorem Core.startAutoMount_unsaved {c : Core} {b : Nat} (mounted : c.roll.mounted = some b) (pending : c.store.pending = none)
    (unselected : (c.roll.bay b).selection = 0) (unsaved : (c.roll.bay b).saveAddress = none) (kind : PassKind) (roll : Nat) :
    c.startAutoMount kind b roll = ((c.setPass (autoPass kind c.now .mount roll .mounting)).setSeq
      (Seq.begin true b none false)).seqClear (Seq.begin true b none false) := by
  rw [Core.startAutoMount, unselected, Core.profileSwitch_none pending, Core.startMount]
  refine (if_neg fun h => (nomatch h.2.2)).trans ?_
  exact Core.seqSave_unsaved (c := (c.setPass _).setSeq _) mounted unsaved _

/-- Settles O29. -/
theorem cheapestCandidateIsChosen : Obligations.CheapestCandidateIsChosen := by
  refine ⟨fun c l => c.cheapest_spec l, fun c r v => Core.cost_eq, fun x y n => IndexUnit.find_eq_some, fun n e => ⟨?_, ?_, ?_, rfl⟩,
    fun l q b s hr mode pass swap held _ rolls pending mounted bound st slot mapped startable chosen =>
      State.passChoice_mapped hr ⟨mode, pass, swap⟩ held rolls pending mounted bound st slot mapped startable chosen,
    fun q s hr mode pass swap held pending slot => ⟨?_, fun b mounted steady unmoved => ⟨fun kind bound => ⟨fun none' => ?_, fun a save => ?_⟩, ?_⟩, ?_⟩⟩
  · intro m; simp [Target.names, eq_comm]
  · intro b d p; simp [Target.names, and_assoc]
  · intro x; simp [Target.names]
  · exact fun n kind hn low high unselected mounted changer cassette st up room => State.passChoice_mount hr ⟨mode, pass, swap⟩ held
      pending slot kind hn low high unselected mounted changer cassette st up room
  · have starts := (Core.choose_moving ⟨mode, pass, swap⟩ held (by rw [kind]; rfl)).trans
      ((Core.startRequest_unmount kind pending bound).trans ((Core.startUnmount_mounted (by exact mounted)).trans
        (Core.seqSave_unsaved (by exact mounted) (by exact none') _)))
    have clears := Core.seqClear_unthreads (c := ((s.core.activate q).setPass (q.rollPass .unmounting)).setSeq
      (Seq.begin false b none false)) (q := Seq.begin false b none false) (by exact steady) (by exact unmoved)
    generalize Core.seqClear _ _ = d at starts clears
    obtain ⟨run, rm, seq⟩ := State.passChoice_clears hr starts clears rfl rfl rfl
    exact ⟨_, q.rollPass .unmounting, _, run, congrArg ReqMgr.pass rm, congrArg PassKind.request kind, rfl, rfl, seq, rfl, rfl, rfl,
      clears.st, clears.dir, clears.travel, clears.rollWaits, clears.p⟩
  · have starts := (Core.choose_moving ⟨mode, pass, swap⟩ held (by rw [kind]; rfl)).trans
      ((Core.startRequest_unmount kind pending bound).trans ((Core.startUnmount_mounted (by exact mounted)).trans
        (Core.seqSave_saved (by exact mounted) (by exact save) _)))
    exact ⟨_, _, congrArg Host.Outcome.next (State.runCore_ready hr starts (s.ready_sig hr)
      (Core.endDue_of_unended (p := q.rollPass .unmounting) rfl rfl)), rfl, rfl, rfl, rfl⟩
  · intro d positional bound st away unsaved
    have starts := (Core.choose_swap ⟨mode, pass, swap⟩ held positional mounted bound st away).trans
      ((Core.startSwap_mounted mounted pending q.req.roll).trans ((Core.startUnmount_mounted (by exact mounted)).trans
        (Core.seqSave_unsaved (by exact mounted) (by exact unsaved) _)))
    generalize hc : (Core.setPass _ _).setSeq _ = c at starts
    have clears := Core.seqClear_unthreads (c := c) (q := Seq.begin false b none false) (by subst hc; exact steady)
      (by subst hc; exact unmoved)
    generalize Core.seqClear _ _ = d at starts clears
    subst hc
    obtain ⟨run, rm, seq⟩ := State.passChoice_clears hr starts clears rfl rfl rfl
    refine ⟨_, autoPass .swapUnmount s.core.now .unmount s.core.mountedRoll .unmounting, _, run, congrArg ReqMgr.swap rm,
      congrArg ReqMgr.pass rm, rfl, seq, rfl, rfl, clears.st, (congrArg ReqMgr.pendingSet rm).trans rfl, (congrArg ReqMgr.slots rm).trans rfl⟩
  · intro b positional mounted same st calm film unsaved unselected
    obtain ⟨tr, recovers, unreferenced, test, count⟩ := Core.seqClear_recovers (q := Seq.begin true b none false)
      (c := (s.core.setPass (autoPass .autoRecovery s.core.now .mount s.core.mountedRoll .mounting)).setSeq
        (Seq.begin true b none false)) (by exact st) (by exact calm) (by exact film)
    have starts := (Core.choose_recovery ⟨mode, pass, swap⟩ held positional mounted same st).trans
      ((Core.startAutoMount_unsaved mounted pending unselected unsaved ..).trans recovers)
    exact ⟨_, autoPass .autoRecovery s.core.now .mount s.core.mountedRoll .mounting, _, congrArg Host.Outcome.next
      (State.runCore_ready hr starts (s.ready_sig hr) (Core.endDue_of_unended rfl rfl)), rfl, rfl, rfl, rfl, rfl, rfl,
      unreferenced, test, count, rfl, rfl⟩

end Sys2Proof.Machine
end

section
/-! SUPPORT. What a lone positional request starts: its end at once, an extending run, a map read, a POSITION order, or the
run-up of a flyby walk (R80, R156 to R163). -/

namespace Sys2Proof.Machine

/-! ## The lone candidate -/

/-- A lone request for the mounted roll is chosen, and starts from a core that differs in the Request Manager alone. -/
theorem Core.choose_lone {c : Core} {q : PendReq} {b : Nat} (free : c.choosing) (held : c.rm.held = [q])
    (positional : q.req.kind.positional = true) (pending : c.store.pending = none) (mounted : c.roll.mounted = some b)
    (bound : c.roll.boundBay q.req.roll = some b) (same : q.req.roll = c.mountedRoll) (st : c.tr.st = .hold)
    (slot : q.slot < c.rm.slots.length) : ∃ rm : ReqMgr, c.choose = (c.setRm rm).startFilm q.pass ∧
      rm.pass = some q.pass ∧ rm.slots[q.slot]? = some (.held q.stamp .activePass) := by
  have chosen : c.Chosen [q] q := ⟨[], [], rfl, by
    by_cases old : c.port.setup.ageLimit ≤ q.passOver
    · exact .inl ⟨old, by simp⟩
    · exact .inr ⟨by simpa using old, by simp, by simp⟩⟩
  have starts := (Core.choose_among free held (by simpa using ⟨positional, same⟩) mounted (same ▸ bound) st chosen).trans
    (Core.startRequest_positional positional (by exact pending))
  exact ⟨(((c.passOver [q] q).activate q).setPass q.pass).rm, starts, rfl, getElem?_setAt_self (by exact slot) _⟩

theorem Core.startFilm_unmapped {c : Core} {p : Pass} (h : p.req.mapped = false ∨ (c.ix.find p.req.target = none ∧ c.ix.full = true)) :
    c.startFilm p = c.resolveStart p := by
  rw [Core.startFilm]
  refine if_neg ?_
  rcases h with h | ⟨absent, full⟩
  · simp [h]
  · simp [absent, full]

/-! ## A pass that ends at once -/

/-- The end of a pass that is under no order, with no compare armed: its Return is decided. -/
theorem Core.passEnding_decided {c : Core} {q : Pass} (armed : c.cap.armed = none) (free : c.underOrder = false)
    (idle : c.cap.idle = true) (request : q.request.isSome = true) (undecided : q.decided = false) (stopped : q.waitStop = false)
    (probed : q.waitProbe = false) (cause : EndCause) : ∃ e : Core, e.ix = c.ix ∧
      ((c.passEnding q cause).tryEnd.port.results = c.port.results ++ [.result (e.passReturn (q.ends cause))]) ∧
      (c.passEnding q cause).sig = c.sig ∧ (c.passEnding q cause).tryEnd.tr = c.tr ∧ (c.passEnding q cause).tryEnd.ix = c.ix ∧
      (c.passEnding q cause).tryEnd.store = c.store ∧ (c.passEnding q cause).tryEnd.roll = c.roll ∧
      (c.passEnding q cause).tryEnd.rm.slots = c.rm.slots := by
  obtain ⟨port, shape, results⟩ := c.ended_shape q cause
  rw [Core.passEnding_disarmed armed, if_neg (by simp [free]), shape]
  generalize hd : ((c.setPass (q.ends cause)).setCap c.cap.over).setPort port = d
  have pass : d.rm.pass = some (q.ends cause) := by rw [← hd]; rfl
  have due : d.endDue = true := by
    have over' : d.cap.idle = true := by rw [← hd]; exact idle
    simp [Core.endDue, pass, over', Pass.ends, undecided, stopped, probed]
    exact request
  rw [Core.tryEnd_of_due pass due]
  subst hd
  exact ⟨_, rfl, by rw [Core.decideReturn_results, ← results]; rfl, rfl, rfl, rfl, rfl, rfl, rfl⟩

/-! ## An order from rest -/

theorem Core.acceptOrder_steady {c : Core} (steady : c.tr.steady = true) (o : MoveOrder) : c.acceptOrder o = c.startOrder o := by
  have st := Transport.hold_of_steady steady
  simp only [Core.acceptOrder, st, steady, if_true]

theorem Core.orderRun_steady {c : Core} (steady : c.tr.steady = true) (dir : Dir) (speed : Nat) (stopAt : Option Int) (ext : Bool) :
    c.orderRun dir speed stopAt ext = c.planFromRest (.run dir speed stopAt ext) false := by
  rw [Core.orderRun, Transport.hold_of_steady steady, Core.acceptOrder_steady steady]
  rfl

theorem Core.orderPosition_steady {c : Core} {t : Int} (steady : c.tr.steady = true) (reach : t ≤ c.highestTarget)
    (away : (c.prof.stopTolerance : Int) < |c.tr.p - t|) : c.orderPosition t = c.planFromRest (.position t) false := by
  rw [Core.orderPosition, Transport.hold_of_steady steady, if_pos (by rfl), if_neg (not_lt.2 reach), Core.acceptOrder_steady steady]
  exact if_neg (not_le.2 away)

/-- A ready part whose effect is an order from rest, of a pass that goes on. -/
theorem State.runCore_planned {s : State} {f : Core → Core} {c : Core} {o : MoveOrder} {p : Pass} (hr : s.ready = true)
    (hf : f s.core = c.planFromRest o false) (armed : c.cap.armed = none) (sig : c.sig = [] ∨ c.sig = [.tryStrobe] ∧ c.strobeless = true)
    (pass : c.rm.pass = some p) (going : p.ending = none) : ∃ e : Core, s.runCore f = s.leaves e ∧
      e = { c with sig := [], tr := e.tr, ix := c.ix.mayBegin } ∧ e.tr = { c.resting.tr with
        st := .move, plan := some (c.restPlan false o), phase := c.restPhase o, dir := (c.restPlan false o).leg.dir
        settleCount := none } := by
  obtain ⟨frame, tr⟩ := Core.planFromRest_disarmed armed o false
  generalize c.planFromRest o false = d at hf frame tr
  have unended : ∀ e : Core, e.rm = d.rm → e.endDue = false := fun e rm =>
    Core.endDue_of_unended (p := p) (by rw [rm, frame]; exact pass) going
  rcases sig with sig | ⟨sig, idle⟩
  · refine ⟨d, State.runCore_ready hr hf (by rw [frame]; exact sig) (unended d rfl), ?_, tr⟩
    rw [← sig]
    exact frame
  · refine ⟨{ d with sig := [] }, State.runCore_settles hr hf (n := 1) ?_ (by decide) (unended _ rfl), ?_, tr⟩
    · have split' : d = { d with sig := [] }.emit .tryStrobe := by
        have reported : d.sig = [.tryStrobe] := by rw [frame]; exact sig
        rw [Core.emit, List.nil_append, ← reported]
      rw [split']
      exact .tryStrobe rfl (by rw [frame]; exact idle)
    · rw [frame]

/-! ## Extending (R157) -/

theorem Core.passExtend_forward {c : Core} (steady : c.tr.steady = true) (short : c.tr.p ≤ c.ix.frontier) (q : Pass) (k : Nat) :
    c.passExtend q k = (c.setPass { q with act := .extending k, st := .extending }).planFromRest
      (.run .forward c.prof.shuttleSpeed none true) false := by
  rw [Core.passExtend]
  exact (if_neg (not_lt.2 short)).trans (Core.orderRun_steady (by exact steady) ..)

theorem Core.passExtend_back {c : Core} (steady : c.tr.steady = true) (beyond : c.ix.frontier < c.tr.p) (q : Pass) (k : Nat) :
    c.passExtend q k = (c.setPass { q with act := .backToFrontier k, st := .extending }).planFromRest
      (.run .reverse c.prof.shuttleSpeed (some (c.ix.frontier - (c.prof.approach : Int))) false) false := by
  rw [Core.passExtend]
  exact (if_pos beyond).trans (Core.orderRun_steady (by exact steady) ..)

theorem Core.resolveStart_absent {c : Core} {q : Pass} (absent : c.ix.find q.req.target = none) (full : c.ix.full = false) :
    c.resolveStart q = c.passExtend q 0 := by
  simp only [Core.resolveStart, absent, full, Bool.false_eq_true, if_false]

/-! ## A stop-mode frame, and a walk's run-up (R158, R159) -/

/-- What the wish for a stop-mode capture leaves: its PLACE, the slot asked for, and perhaps a look at the strobe. -/
structure Core.StopWanted (c : Core) (number : Nat) (target : Int) (d : Core) (l : List Signal) : Prop where
  frame : d = ((c.setFocus d.focus).setCap d.cap).report l
  looks : l = [] ∨ l = [.tryStrobe]
  stop : d.cap.stop = some { frame := number, target := target, fullDepth := false, recapture := false, arrived := false }
  inHand : d.cap.inHand = c.cap.inHand
  filling : d.cap.filling = c.cap.filling
  armed : d.cap.armed = c.cap.armed
  flyby : d.cap.flyby = c.cap.flyby
  slot : c.cap.inHand = none → c.cap.reservation = .none → c.cap.reread = none → d.cap.reservation = .queued
  placed : ∃ pc, d.focus.placement = some pc ∧ pc.frame = number ∧ pc.band = focusBand c.prof (target - (c.prof.gateOffset : Int))
  probe : d.focus.probe = c.focus.probe

theorem Core.focusPlaceStep_shape (c : Core) (s : Nat) : ∃ (f : Focus) (l : List Signal),
    c.focusPlaceStep s = (c.setFocus f).report l ∧ (l = [] ∨ l = [.tryStrobe]) ∧ f.placement = c.focus.placement ∧
      f.probe = c.focus.probe := by
  have goes (st : FocusState) : ∃ (f : Focus) (l : List Signal), c.focusTo s st = (c.setFocus f).report l ∧
      (l = [] ∨ l = [.tryStrobe]) ∧ f.placement = c.focus.placement ∧ f.probe = c.focus.probe :=
    ⟨_, [], (Core.report_nil _).symm, .inl rfl, rfl, rfl⟩
  have arrives : ∃ (f : Focus) (l : List Signal), (if s = c.focus.counter then
        (c.setFocus { c.focus with commanded := s, st := .settled }).emit .tryStrobe else c.focusTo s (.moving .place)) =
      (c.setFocus f).report l ∧ (l = [] ∨ l = [.tryStrobe]) ∧ f.placement = c.focus.placement ∧ f.probe = c.focus.probe := by
    split
    · exact ⟨_, [.tryStrobe], rfl, .inr rfl, rfl, rfl⟩
    · exact goes _
  unfold Core.focusPlaceStep
  split
  · exact arrives
  · exact arrives
  · exact goes _

/-- A PLACE taken: the placement record, and perhaps a look at the strobe conditions. -/
theorem Core.focusPlace_shape {c : Core} (calm : c.focus.st ≠ .probing) (number : Nat) (target : Int) :
    ∃ (f : Focus) (l : List Signal) (pc : Placement), c.focusPlace number target = (c.setFocus f).report l ∧
      (l = [] ∨ l = [.tryStrobe]) ∧ f.placement = some pc ∧ pc.frame = number ∧
      pc.band = focusBand c.prof (target - (c.prof.gateOffset : Int)) ∧ f.probe = c.focus.probe := by
  have now : c.focusPlace number target = c.focusPlaceNow number target := by
    unfold Core.focusPlace
    split
    · next probing => exact absurd probing calm
    · rfl
  rw [now, Core.focusPlaceNow]
  generalize c.focus.choose _ _ = chosen
  obtain ⟨s, src⟩ := chosen
  obtain ⟨f, l, shape, looks, placement, probe⟩ := Core.focusPlaceStep_shape (c.setFocus { c.focus with
    placement := some { frame := number, band := focusBand c.prof (target - c.prof.gateOffset), step := s, source := src } }) s
  exact ⟨f, l, _, shape, looks, placement, rfl, rfl, probe⟩

theorem Core.capStop_wanted {c : Core} (calm : c.focus.st ≠ .probing) (frame : Nat) (target : Int) :
    ∃ l, c.StopWanted frame target (c.capStop frame target false false) l := by
  unfold Core.capStop
  dsimp only
  obtain ⟨f, l, pc, shape, looks, placed, number, band, probe⟩ := Core.focusPlace_shape (c := c.setCap { c.cap with
    stop := some { frame := frame, target := target, fullDepth := false, recapture := false, arrived := false } }) calm frame target
  rw [shape]
  refine ⟨l, ?_⟩
  unfold Core.wantSlot
  dsimp only
  split
  · exact ⟨rfl, looks, rfl, rfl, rfl, rfl, rfl, fun _ _ _ => rfl, ⟨pc, placed, number, band⟩, probe⟩
  · next busy =>
    refine ⟨rfl, looks, rfl, rfl, rfl, rfl, rfl, fun hand none' again => absurd ?_ busy, ⟨pc, placed, number, band⟩, probe⟩
    have all : (c.cap.inHand.isNone && decide (c.cap.reservation = .none) && c.cap.reread.isNone) = true := by
      simp [hand, none', again]
    exact all

theorem Pass.seekFrame_self {q : Pass} {k : Nat} (within : q.within k = true) (wanted : q.codeAt k ≠ 0) (fuel : Nat) :
    q.seekFrame (fuel + 1) k = some k := by
  rw [Pass.seekFrame, if_pos within, if_neg wanted]

/-- A range whose size has been looked for: nothing else of the pass changes, and its first frame stays in it. -/
theorem Core.sized_shape (c : Core) (q : Pass) : ∃ size clamps, c.sized q = { q with size := size, clamps := clamps } ∧
    (q.within 0 = true → (c.sized q).within 0 = true) := by
  unfold Core.sized
  split
  · dsimp only
    split
    · split
      · exact ⟨_, _, rfl, fun _ => rfl⟩
      · refine ⟨_, _, rfl, fun _ => ?_⟩
        simp [Pass.within]
    · split
      · exact ⟨_, _, rfl, fun _ => rfl⟩
      · exact ⟨_, _, rfl, id⟩
  · exact ⟨_, _, rfl, id⟩

theorem IndexUnit.le_count_of_entry {x : IndexUnit} {n : Nat} {e : Entry} (h : x.entry n = some e) : n ≤ x.count := by
  unfold IndexUnit.entry at h
  split at h
  · cases h
  · have := (List.getElem?_eq_some_iff.1 h).1
    rw [IndexUnit.count]
    omega

/-- The POSITION order for a frame of the index, before it is planned. -/
def Core.framePlaced (c : Core) (q : Pass) (k : Nat) (e : Entry) : Core :=
  let c' := c.setPass { q with act := .positioning k, st := q.seeking, strobed := false, recapture := false, target := c.targetOf e }
  if q.req.kind = .probe then c' else c'.capStop (q.frame k) (c.targetOf e) (q.codeAt k = 2) false

theorem Core.positionFrame_entry {c : Core} {q : Pass} {k : Nat} {e : Entry} (entry : c.ix.entry (q.frame k) = some e) :
    c.positionFrame q k = (c.framePlaced q k e).orderPosition (c.targetOf e) := by
  simp only [Core.positionFrame, entry, Core.framePlaced]

theorem Core.passNext_stop {c : Core} {q : Pass} (within : q.within 0 = true) (code : q.codeAt 0 = 3) (there : q.frame 0 ≤ c.ix.count) :
    c.passNext q 0 false = c.positionFrame q 0 := by
  rw [Core.passNext, Pass.seekFrame_self within (by rw [code]; decide)]
  exact (if_pos there).trans (if_pos code)

theorem Core.passNext_walk {c : Core} {q : Pass} (within : q.within 0 = true) (code : q.codeAt 0 = 1) (there : q.frame 0 ≤ c.ix.count) :
    c.passNext q 0 false = c.walkFrom q 0 := by
  rw [Core.passNext, Pass.seekFrame_self within (by rw [code]; decide)]
  exact (if_pos there).trans (if_neg (by rw [code]; decide))

theorem Core.walkFrom_runUp {c : Core} {q : Pass} {k : Nat} {e : Entry} (entry : c.ix.entry (q.frame k) = some e)
    (steady : c.tr.steady = true) (away : c.tr.p ≠ c.runUpPoint (c.targetOf e)) : c.walkFrom q k =
      (c.setPass { q with act := .runUp k, st := .seeking }).planFromRest
        (.run (if c.runUpPoint (c.targetOf e) < c.tr.p then .reverse else .forward) c.prof.shuttleSpeed
          (some (c.runUpPoint (c.targetOf e))) false) false := by
  unfold Core.walkFrom
  rw [entry]
  exact (if_neg away).trans (Core.orderRun_steady (by exact steady) ..)

/-! ## The choice of a lone request -/

/-- A ready part whose effect ends a pass that is under no order, with an outcome of its own. -/
theorem State.runCore_fixed {s : State} {f : Core → Core} {c : Core} {q : Pass} {cause : EndCause} (hr : s.ready = true)
    (hf : f s.core = c.passEnding q cause) (idle : c.cap.idle = true) (free : c.underOrder = false) (sig : c.sig = [])
    (request : q.request.isSome = true) (undecided : q.decided = false) (stopped : q.waitStop = false) (probed : q.waitProbe = false) :
    ∃ (t : State) (e : Core), s.runCore f = t ∧ e.ix = c.ix ∧
      t.core.port.results = c.port.results ++ [.result (e.passReturn (q.ends cause))] ∧ t.core.tr = c.tr ∧ t.core.ix = c.ix ∧
      t.core.store = c.store ∧ t.core.roll = c.roll ∧ t.core.rm.slots = c.rm.slots := by
  have armed : c.cap.armed = none := by
    simp only [Capture.idle, Bool.and_eq_true, Option.isNone_iff_eq_none] at idle
    exact idle.2
  obtain ⟨e, ix, results, quiet, tr, ix', store, roll, slots⟩ :=
    Core.passEnding_decided armed free idle request undecided stopped probed cause
  exact ⟨_, e, State.runCore_settles_end hr hf (.quiet (quiet.trans sig)) (Nat.zero_le _), ix, results, tr, ix', store, roll, slots⟩

/-- The Return of a pass whose kind ends it, served. -/
theorem Core.passReturn_fixed (e : Core) (q : Pass) {o : Res} (d : Nat) (served : o ≠ .badRequest) :
    ∃ r, e.passReturn (q.ends (.fixed o d)) = r ∧ r.slot = q.slot ∧ r.stamp = q.stamp ∧ r.outcome = o ∧ r.detail = d ∧
      r.endsPass = true := by
  rw [Core.passReturn_of_served (o := o) (d := d) rfl served]
  exact ⟨_, rfl, rfl, rfl, rfl, rfl, rfl⟩

theorem Transport.steady_underOrder {c : Core} (steady : c.tr.steady = true) (waiting : c.tr.waiting = none) : c.underOrder = false := by
  simp [Core.underOrder, Transport.hold_of_steady steady, waiting]

theorem Capture.armed_of_idle {k : Capture} (h : k.idle = true) : k.armed = none := by
  simp only [Capture.idle, Bool.and_eq_true, Option.isNone_iff_eq_none] at h
  exact h.2

theorem mapLength_eq (t : Option Target) (count : Nat) :
    mapLength t.isSome count = if t = none then (count + 3) / 4 else 1024 := by
  cases t <;> rfl

/-- The pass whose start is frame `n`, with what its range's size has become. -/
def Pass.startedAt (q : Pass) (n : Nat) (size : Option Nat) (clamps : Nat) : Pass :=
  { q with start := some n, size := size, clamps := clamps }

theorem Core.resolveStart_found {c : Core} {q : PendReq} {n : Nat} {e : Entry} (found : c.ix.find q.req.target = some n)
    (entry : c.ix.entry n = some e) (range : q.req.endTarget ≠ none ∨ 1 ≤ q.req.count) (kind : q.req.kind ≠ .index) :
    (q.req.flyby = false ∨ q.req.kind = .probe → ∃ size clamps,
      c.resolveStart q.pass = c.positionFrame (q.pass.startedAt n size clamps) 0) ∧
    (q.req.flyby = true → q.req.kind ≠ .probe → ∃ size clamps,
      c.resolveStart q.pass = c.walkFrom (q.pass.startedAt n size clamps) 0) := by
  have starts : c.resolveStart q.pass = c.startFound q.pass n false := by
    have there : c.ix.find q.pass.req.target = some n := found
    simp only [Core.resolveStart, there]
  rw [starts]
  have first : ({ q.pass with start := some n } : Pass).within 0 = true := by
    have size : q.pass.size = if q.req.endTarget.isSome then none else some q.req.count := rfl
    simp only [Pass.within, size]
    rcases range with range | range
    · simp [Option.isSome_iff_ne_none.2 range]
    · split
      · next h => split at h <;> simp_all; omega
      · decide
  obtain ⟨size, clamps, shape, within⟩ := c.sized_shape { q.pass with start := some n }
  have low := IndexUnit.le_count_of_entry entry
  have next : q.req.kind ≠ .probe → c.startFound q.pass n false = c.passNext (q.pass.startedAt n size clamps) 0 false := by
    intro other
    rw [← show c.sized { q.pass with start := some n } = q.pass.startedAt n size clamps from shape]
    unfold Core.startFound
    dsimp only
    split
    · next index => exact absurd index kind
    · next probe => exact absurd probe other
    · rfl
  have inside : (q.pass.startedAt n size clamps).within 0 = true := by
    rw [← show c.sized { q.pass with start := some n } = q.pass.startedAt n size clamps from shape]
    exact within first
  constructor
  · intro stopMode
    by_cases probe : q.req.kind = .probe
    · have probe' : q.pass.req.kind = .probe := probe
      exact ⟨q.pass.size, q.pass.clamps, by simp only [Core.startFound, probe']; rfl⟩
    · have flyby := stopMode.resolve_right probe
      refine ⟨size, clamps, (next probe).trans (Core.passNext_stop inside ?_ low)⟩
      have code : (q.pass.startedAt n size clamps).codeAt 0 = if q.req.flyby then 1 else 3 := rfl
      rw [code, flyby]
      rfl
  · intro flyby other
    refine ⟨size, clamps, (next other).trans (Core.passNext_walk inside ?_ low)⟩
    have code : (q.pass.startedAt n size clamps).codeAt 0 = if q.req.flyby then 1 else 3 := rfl
    rw [code, flyby]
    rfl

/-- The record of a pass whose first frame is sought at `x`. -/
def Pass.positioned (q : Pass) (x : Int) : Pass :=
  { q with act := .positioning 0, st := q.seeking, strobed := false, recapture := false, target := x }

/-- The POSITION order of a pass from rest. -/
theorem State.runCore_position {s : State} {f : Core → Core} {c : Core} {q : Pass} {e : Entry} (hr : s.ready = true)
    (hf : f s.core = (c.framePlaced q 0 e).orderPosition (c.targetOf e)) (steady : c.tr.steady = true) (armed : c.cap.armed = none)
    (sig : c.sig = []) (flyby : c.cap.flyby = none) (probe : c.focus.probe = none)
    (calm : c.focus.st ≠ .probing) (code : q.req.kind ≠ .probe → q.codeAt 0 = 3) (going : q.ending = none)
    (reach : c.targetOf e ≤ c.highestTarget) (away : (c.prof.stopTolerance : Int) < |c.tr.p - c.targetOf e|) :
    ∃ d : Core, s.runCore f = s.leaves d ∧
      d.rm.pass = some (q.positioned (c.targetOf e)) ∧
      d.tr.st = .move ∧ d.tr.vRef = 0 ∧ (∃ pl, d.tr.plan = some pl ∧ pl.order = .position (c.targetOf e) ∧ pl.retried = false) ∧
      d.tr.p = c.tr.p ∧ (q.req.kind = .probe → d.cap = c.cap ∧ d.focus = c.focus) ∧
      (q.req.kind ≠ .probe → d.cap.stop = some { frame := q.frame 0, target := c.targetOf e, fullDepth := false, recapture := false, arrived := false } ∧
        d.cap.inHand = c.cap.inHand ∧ d.cap.filling = c.cap.filling ∧
        (c.cap.inHand = none → c.cap.reservation = .none → c.cap.reread = none → d.cap.reservation = .queued) ∧
        ∃ pc, d.focus.placement = some pc ∧ pc.frame = q.frame 0 ∧
          pc.band = focusBand c.prof (c.targetOf e - (c.prof.gateOffset : Int))) := by
  have here (d : Core) (tr : d.tr = c.tr) (store : d.store = c.store) :
      d.orderPosition (c.targetOf e) = d.planFromRest (.position (c.targetOf e)) false := by
    have prof : d.prof = c.prof := by rw [Core.prof, store]; rfl
    refine Core.orderPosition_steady (by rw [tr]; exact steady) ?_ ?_
    · rw [Core.highestTarget, prof]; exact reach
    · rw [tr, prof]; exact away
  by_cases kind : q.req.kind = .probe
  · have placed : c.framePlaced q 0 e = c.setPass (q.positioned (c.targetOf e)) := if_pos kind
    rw [placed, here (c.setPass (q.positioned (c.targetOf e))) rfl rfl] at hf
    obtain ⟨d, run, frame, tr⟩ := State.runCore_planned (p := (q.positioned (c.targetOf e))) hr hf armed (.inl sig) rfl going
    refine ⟨d, run, ?_⟩
    rw [tr, frame]
    exact ⟨rfl, rfl, rfl, ⟨_, rfl, rfl, rfl⟩, rfl, fun _ => ⟨rfl, rfl⟩, fun other => absurd kind other⟩
  · have placed : c.framePlaced q 0 e = (c.setPass (q.positioned (c.targetOf e))).capStop
          (q.frame 0) (c.targetOf e) false false := by
      rw [Core.framePlaced, if_neg kind, code kind]
      rfl
    obtain ⟨l, frame, looks, stop', hand, filling, armed', flyby', slot, place, probe'⟩ := Core.capStop_wanted (c := c.setPass (q.positioned (c.targetOf e))) calm (q.frame 0) (c.targetOf e)
    rw [placed] at hf
    generalize Core.capStop _ _ _ _ _ = d at hf frame stop' hand filling armed' flyby' slot place probe'
    rw [here d (by rw [frame]; rfl) (by rw [frame]; rfl)] at hf
    have reported : d.sig = l := by rw [frame, Core.report]; exact congrArg (· ++ l) sig
    obtain ⟨e', run, frame', tr⟩ := State.runCore_planned (p := (q.positioned (c.targetOf e))) hr hf (armed'.trans armed)
      (looks.imp (fun h => reported.trans h) fun h => ⟨reported.trans h, (Core.strobeless_iff d).2
        ⟨by rw [stop']; rfl, flyby'.trans flyby, probe'.trans probe⟩⟩) (by rw [frame]; rfl) going
    refine ⟨e', run, ?_⟩
    have p' : d.tr.p = c.tr.p := by rw [frame]; rfl
    rw [tr, frame']
    exact ⟨by rw [frame]; rfl, rfl, rfl, ⟨_, rfl, rfl, rfl⟩, p', fun probing => absurd probing kind, fun _ => ⟨stop', hand, filling, slot, place⟩⟩

/-- Settles O28. -/
theorem passChoiceStartsIndex : Obligations.PassChoiceStartsIndex := by
  refine ⟨fun s hr h => ?_, fun q b s hr mode pass swap held positional pending mounted bound same steady waiting idle motion stop flyby
    probe calm slot => ?_⟩
  · refine congrArg Host.Outcome.next (State.runCore_leaves hr (Core.choose_none ?_) rfl rfl rfl)
    rcases h with h | h | h | h
    · exact .inl fun g => h g.1
    · exact .inl fun g => h g.2.1
    · exact .inl fun g => h g.2.2
    · exact .inr h
  obtain ⟨rm, starts, pass', active⟩ := Core.choose_lone ⟨mode, pass, swap⟩ held positional pending mounted bound same
    (Transport.hold_of_steady steady) slot
  have free := Transport.steady_underOrder steady waiting
  have armed := Capture.armed_of_idle idle
  refine ⟨fun n kind found => ?_, fun absent full => ?_, fun unmapped absent startable => ?_, fun mapped startable => ?_,
    fun n e x unmapped kind range found entry hx => ⟨fun stopMode reach away => ?_, fun flybyMode kind' y hy away => ?_⟩⟩
  · have ends : s.core.choose = (s.core.setRm rm).passEnding { q.pass with start := some n } (.fixed .done 0) := by
      refine starts.trans ((Core.startFilm_unmapped (.inl ?_)).trans ?_)
      · simp [PendReq.pass, Pass.begin, Request.mapped, kind]
      · have index : q.pass.req.kind = .index := kind
        have there : (s.core.setRm rm).ix.find q.pass.req.target = some n := found
        simp only [Core.resolveStart, there, Core.startFound, index, Core.passFixed]
        rfl
    obtain ⟨t, e, run, ix, results, tr, ix', store, roll, slots⟩ := State.runCore_fixed (c := s.core.setRm rm) hr ends
      (by exact idle) (by exact free) (s.ready_sig hr) rfl rfl rfl rfl
    obtain ⟨r, made, rslot, rstamp, outcome, detail, last⟩ := e.passReturn_fixed { q.pass with start := some n } 0 (o := .done) (by decide)
    rw [made] at results
    exact ⟨t, r, congrArg Host.Outcome.next run, results, rslot, rstamp, outcome, detail, last, by rw [slots]; exact active, tr, ix', store, roll⟩
  · have ends : s.core.choose = (s.core.setRm rm).passEnding q.pass (.fixed .indexFull 0) := by
      refine starts.trans ((Core.startFilm_unmapped (.inr (by exact ⟨absent, full⟩))).trans ?_)
      have away : (s.core.setRm rm).ix.find q.pass.req.target = none := absent
      have full' : (s.core.setRm rm).ix.full = true := full
      simp only [Core.resolveStart, away, full', if_true, Core.passFixed]
      rfl
    obtain ⟨t, e, run, ix, results, tr, ix', -⟩ := State.runCore_fixed (c := s.core.setRm rm) hr ends
      (by exact idle) (by exact free) (s.ready_sig hr) rfl rfl rfl rfl
    obtain ⟨r, made, rslot, rstamp, outcome, detail, last⟩ := e.passReturn_fixed q.pass 0 (o := .indexFull) (by decide)
    rw [made] at results
    exact ⟨t, r, congrArg Host.Outcome.next run, results, rslot, rstamp, outcome, detail, last, tr, ix'⟩
  · have extends' : s.core.choose = (s.core.setRm rm).passExtend q.pass 0 :=
      starts.trans ((Core.startFilm_unmapped (.inl unmapped)).trans (Core.resolveStart_absent absent startable))
    rcases le_or_gt s.core.tr.p s.core.ix.frontier with short | beyond
    · obtain ⟨e, run, frame, tr⟩ := State.runCore_planned (p := { q.pass with act := .extending 0, st := .extending }) hr
        (extends'.trans (Core.passExtend_forward (by exact steady) (by exact short) ..)) (by exact armed) (.inl (s.ready_sig hr)) rfl rfl
      refine ⟨_, { q.pass with act := .extending 0, st := .extending }, congrArg Host.Outcome.next run, ?_⟩
      rw [State.leaves_rm, State.leaves_tr, State.leaves_results, tr, frame]
      exact ⟨rfl, rfl, rfl, rfl, rfl, rfl, active, rfl, rfl, rfl, rfl, fun _ => ⟨rfl, rfl, _, rfl, rfl⟩, fun g => absurd short (not_le.2 g)⟩
    · obtain ⟨e, run, frame, tr⟩ := State.runCore_planned (p := { q.pass with act := .backToFrontier 0, st := .extending }) hr
        (extends'.trans (Core.passExtend_back (by exact steady) (by exact beyond) ..)) (by exact armed) (.inl (s.ready_sig hr)) rfl rfl
      refine ⟨_, { q.pass with act := .backToFrontier 0, st := .extending }, congrArg Host.Outcome.next run, ?_⟩
      rw [State.leaves_rm, State.leaves_tr, State.leaves_results, tr, frame]
      exact ⟨rfl, rfl, rfl, rfl, rfl, rfl, active, rfl, rfl, rfl, rfl, fun g => absurd g (not_le.2 beyond), fun _ => ⟨rfl, rfl, _, rfl, rfl⟩⟩
  · have asked : s.core.choose = (s.core.setRm rm).mapAsked q.pass :=
      starts.trans (Core.startFilm_mapped mapped startable)
    refine ⟨_, q.pass, congrArg Host.Outcome.next (State.runCore_ready hr asked (s.ready_sig hr) (Core.endDue_of_unended rfl rfl)), rfl,
      congrArg PassKind.request (Request.mapped_scan mapped), rfl, rfl, rfl, rfl, rfl, ?_, rfl, rfl, rfl⟩
    rw [← mapLength_eq]
    rfl
  · obtain ⟨size, clamps, positions⟩ := (Core.resolveStart_found (c := s.core.setRm rm) (by exact found) (by exact entry) range kind).1 stopMode
    have target : (s.core.setRm rm).targetOf e = x := hx.symm
    have starts' := starts.trans ((Core.startFilm_unmapped (.inl unmapped)).trans (positions.trans
      (Core.positionFrame_entry (e := e) (by exact entry))))
    obtain ⟨d, run, pass'', move, vRef, ⟨pl, plan, order, retried⟩, p, lens, captures⟩ := State.runCore_position hr starts'
      (by exact steady) (by exact armed) (s.ready_sig hr) (by exact flyby) (by exact probe) (by exact calm)
      (fun other => by
        have code : (q.pass.startedAt n size clamps).codeAt 0 = if q.req.flyby then 1 else 3 := rfl
        rw [code, stopMode.resolve_right other]
        rfl) rfl (by rw [target]; exact reach) (by rw [target]; exact away)
    rw [target] at pass'' order captures
    exact ⟨_, _, pl, congrArg Host.Outcome.next run, pass'', rfl, rfl, rfl, rfl, rfl, rfl, move, vRef, plan, order, retried, p, lens, captures⟩
  · obtain ⟨size, clamps, walks⟩ := (Core.resolveStart_found (c := s.core.setRm rm) (by exact found) (by exact entry) range kind).2 flybyMode kind'
    have target : (s.core.setRm rm).runUpPoint ((s.core.setRm rm).targetOf e) = y := by rw [hy, hx]; rfl
    have starts' := starts.trans ((Core.startFilm_unmapped (.inl unmapped)).trans (walks.trans
      (Core.walkFrom_runUp (e := e) (by exact entry) (by exact steady) (by rw [target]; exact away))))
    rw [target] at starts'
    obtain ⟨d, run, frame, tr⟩ := State.runCore_planned (p := { q.pass.startedAt n size clamps with act := .runUp 0, st := .seeking }) hr
      starts' (by exact armed) (.inl (s.ready_sig hr)) rfl rfl
    refine ⟨_, { q.pass.startedAt n size clamps with act := .runUp 0, st := .seeking },
      runPlan (if y < s.core.tr.p then .reverse else .forward) s.core.prof.shuttleSpeed (some y) false, congrArg Host.Outcome.next run, ?_⟩
    rw [State.leaves_rm, State.leaves_tr, State.leaves_cap, tr, frame]
    exact ⟨rfl, rfl, rfl, rfl, rfl, rfl, rfl, rfl, rfl⟩

end Sys2Proof.Machine
end

section
/-! SUPPORT. The end of a Selection Map read (R30, R36, R161). -/

namespace Sys2Proof.Machine

/-- The core once its lone Board Reader read has landed. -/
def Core.mapLanded (c : Core) : Core := c.setPort { c.port with boardFlight := [] }

theorem Core.mapReadDone_alone {c : Core} {a n : Nat} (flight : c.port.boardFlight = [.selectionMap a n]) (r : ReadEnd) :
    c.mapReadDone r = c.mapLanded.mapRead r := by
  simp [Core.mapReadDone, Core.boardEnd, flight, BoardRead.isMap, removeFirst, Core.mapLanded]

/-- The codes of a map, as many as the range can have frames (R36). -/
def Pass.mapped (q : Pass) (bs : List Byte) : List Nat := mapCodes bs (if q.req.endTarget.isSome then 4096 else q.req.count)

section reads
variable {c : Core} {q : Pass} (pass : c.rm.pass = some q) (act : q.act = .mapRead) (going : q.ending = none)
include pass act going

theorem Core.mapRead_error : c.mapRead .error = c.passEnding q (.fixed .badRequest 0x0E) := by
  simp only [Core.mapRead, pass]
  exact if_pos ⟨act, by rw [going]; rfl⟩

theorem Core.mapRead_deep {bs : List Byte} (deep : c.mapTooDeep (q.mapped bs) = true) :
    c.mapRead (.data bs) = c.passEnding q (.fixed .badRequest 0x0F) := by
  simp only [Core.mapRead, pass]
  exact (if_pos ⟨act, by rw [going]; rfl⟩).trans (if_pos deep)

theorem Core.mapRead_zeros {bs : List Byte} (shallow : c.mapTooDeep (q.mapped bs) = false)
    (zeros : (q.mapped bs).all (· == 0) = true) : c.mapRead (.data bs) =
      c.passEnding { c.sized { q with codes := some (q.mapped bs), start := c.ix.find q.req.target } with
        size := (c.sized { q with codes := some (q.mapped bs), start := c.ix.find q.req.target }).size.or (some 0) } .walkDone := by
  simp only [Core.mapRead, pass]
  exact (if_pos ⟨act, by rw [going]; rfl⟩).trans ((if_neg (by rw [← Pass.mapped, shallow]; decide)).trans (if_pos zeros))

theorem Core.mapRead_frames {bs : List Byte} (shallow : c.mapTooDeep (q.mapped bs) = false)
    (some' : (q.mapped bs).all (· == 0) = false) :
    c.mapRead (.data bs) = c.resolveStart { q with codes := some (q.mapped bs) } := by
  simp only [Core.mapRead, pass]
  exact (if_pos ⟨act, by rw [going]; rfl⟩).trans ((if_neg (by rw [← Pass.mapped, shallow]; decide)).trans
    (if_neg (by rw [← Pass.mapped, some']; decide)))
end reads

/-- A plan that is all SKIPPED misses nothing. -/
theorem Core.missed_zeros {c : Core} {q : Pass} {l : List Nat} (codes : q.codes = some l) (zeros : ∀ k ∈ l, k = 0) :
    c.missed q = 0 := by
  have wanted (n : Nat) : q.wanted n = 0 := by
    have none' : (l.take n).filter (· != 0) = [] := List.filter_eq_nil_iff.2 fun k hk => by
      simp [zeros k (List.mem_of_mem_take hk)]
    unfold Pass.wanted
    rw [codes]
    exact congrArg List.length none'
  unfold Core.missed
  split
  · rw [wanted, Nat.zero_sub]
  · rw [wanted, Nat.zero_sub]
  · rfl

/-- The Clamp flags of a range whose size has been looked for (R30). -/
theorem Core.sized_clamps {c : Core} {q : Pass} : (q.size ≠ none → (c.sized q).clamps = q.clamps) ∧
    (∀ n y e, q.size = none → q.req.endTarget = some y → q.start = some n → c.ix.findFrom n y = some e →
      (4096 < e - n + 1 → (c.sized q).clamps.testBit 1 = true) ∧ (e - n + 1 ≤ 4096 → (c.sized q).clamps = q.clamps)) := by
  refine ⟨fun size => ?_, fun n y e size target start found => ?_⟩
  · unfold Core.sized
    split
    · next none' _ _ => exact absurd none' size
    · rfl
  · unfold Core.sized
    rw [size, start, target]
    dsimp only
    rw [found]
    dsimp only
    refine ⟨fun long => ?_, fun short => by rw [if_neg (not_lt.2 short)]⟩
    rw [if_pos long]
    dsimp only
    split
    · next set => exact set
    · next clear =>
      simp only [Nat.testBit_eq_decide_div_mod_eq, decide_eq_true_eq] at clear ⊢
      omega

/-- Settles O30. -/
theorem selectionMapReadEnds : Obligations.SelectionMapReadEnds := by
  intro a n q s hr flight pass act going kind scan undecided stopped probed idle steady waiting
  have landed := Core.mapReadDone_alone flight
  have pass' : s.core.mapLanded.rm.pass = some q := pass
  have free : s.core.mapLanded.underOrder = false := Transport.steady_underOrder (by exact steady) (by exact waiting)
  have request : q.request.isSome = true := by simp [Pass.request, kind]
  have refuses (r : ReadEnd) (d : Nat) (ends : s.core.mapLanded.mapRead r = s.core.mapLanded.passEnding q (.fixed .badRequest d)) :
      ∃ t, exec (.selectionMapReadDone r) s = .next t ∧ t.core.tr = s.core.tr ∧ t.core.port.results = s.core.port.results ++
        [.result { Return.plain q.slot q.stamp q.req.notify q.takenAt .badRequest d with endsPass := true }] := by
    obtain ⟨t, e, run, -, results, tr, -⟩ := State.runCore_fixed (f := fun c => c.mapReadDone r) hr ((landed r).trans ends) idle free
      (s.ready_sig hr) request undecided stopped probed
    rw [Core.passReturn_of_refused (q := q.ends (.fixed .badRequest d)) (d := d) rfl] at results
    exact ⟨t, congrArg Host.Outcome.next run, tr, results⟩
  refine ⟨refuses .error 0x0E (Core.mapRead_error pass' act going), fun bs codes hc => ⟨fun two room => ?_, fun zeros noEnd noFull => ?_,
    fun two some' absent startable short => ?_⟩⟩
  · refine refuses _ 0x0F (Core.mapRead_deep pass' act going ?_)
    have deep : (codes.contains 2 && decide (s.core.port.setup.slotAlloc < 64 + s.core.prof.width * s.core.prof.height * 2 + 4)) = true := by
      simp [two, room]
    rw [hc] at deep
    exact deep
  · have shallow : s.core.mapLanded.mapTooDeep (q.mapped bs) = false := by
      rw [Core.mapTooDeep, Pass.mapped, ← hc]
      simp only [Bool.and_eq_false_iff]
      exact .inl (by simpa using fun h => absurd (zeros 2 h) (by decide))
    have all : (q.mapped bs).all (· == 0) = true := by
      rw [Pass.mapped, ← hc]
      simpa using zeros
    have ends := Core.mapRead_zeros pass' act going shallow all
    obtain ⟨size, clamps, shape, -⟩ := s.core.mapLanded.sized_shape
      { q with codes := some (q.mapped bs), start := s.core.mapLanded.ix.find q.req.target }
    obtain ⟨known, long⟩ := Core.sized_clamps (c := s.core.mapLanded)
      (q := { q with codes := some (q.mapped bs), start := s.core.mapLanded.ix.find q.req.target })
    rw [shape] at ends known long
    obtain ⟨t, e, run, -, results, tr, -⟩ := State.runCore_fixed (f := fun c => c.mapReadDone (.data bs)) hr ((landed _).trans ends) idle free
      (s.ready_sig hr) request undecided stopped probed
    generalize hp : Pass.ends _ _ = p at results
    have same : p.codes = some codes ∧ p.slot = q.slot ∧ p.stamp = q.stamp ∧ p.clamps = clamps ∧ p.beyondEnd = false ∧
        p.beyondFull = false ∧ p.ending = some .walkDone := by
      subst hp; exact ⟨congrArg some hc.symm, rfl, rfl, rfl, noEnd, noFull, rfl⟩
    obtain ⟨codes', slot, stamp, clamps', noEnd', noFull', ending⟩ := same
    have missed := Core.missed_zeros (c := e) codes' zeros
    have outcome : e.passOutcome p = (.done, Det.none) := by
      simp only [Core.passOutcome, ending, missed, noEnd', noFull', and_self, or_true, if_true]
    rw [Core.passReturn_of_served outcome (by decide)] at results
    refine ⟨t, _, congrArg Host.Outcome.next run, results, slot, stamp, rfl, missed, tr, fun sized => clamps'.trans (known sized),
      fun n y e none' target start found => ?_⟩
    obtain ⟨more, within⟩ := long n y e none' target start found
    exact ⟨fun h => (congrArg (Nat.testBit · 1) clamps').trans (more h), fun h => clamps'.trans (within h)⟩
  · have shallow : s.core.mapLanded.mapTooDeep (q.mapped bs) = false := by
      rw [Core.mapTooDeep, Pass.mapped, ← hc]
      simp only [Bool.and_eq_false_iff]
      exact .inl (by simpa using two)
    have some'' : (q.mapped bs).all (· == 0) = false := by
      rw [Pass.mapped, ← hc]
      simpa using some'
    have extends' := (landed (.data bs)).trans ((Core.mapRead_frames pass' act going shallow some'').trans
      ((Core.resolveStart_absent (c := s.core.mapLanded) (q := { q with codes := some (q.mapped bs) }) absent startable).trans
        (Core.passExtend_forward (by exact steady) (by exact short) ..)))
    obtain ⟨e, run, frame, tr⟩ := State.runCore_planned (f := fun c => c.mapReadDone (.data bs))
      (p := { q with codes := some (q.mapped bs), act := .extending 0, st := .extending }) hr extends'
      (Capture.armed_of_idle (by exact idle)) (.inl (s.ready_sig hr)) rfl going
    refine ⟨_, { q with codes := some (q.mapped bs), act := .extending 0, st := .extending }, congrArg Host.Outcome.next run, ?_⟩
    rw [State.leaves_rm, State.leaves_tr, tr, frame]
    exact ⟨rfl, congrArg some hc.symm, rfl, rfl, rfl, rfl⟩

end Sys2Proof.Machine
end

section
/-! SUPPORT. A metering count: P, the lengths, the margins, the strobe compare with its walk's end, and a SETTLE in
tolerance (R50, R55, R56, R65, R84, R126, R159). -/

namespace Sys2Proof.Machine

/-! ## The count -/

/-- The transport after a count, with the unthread's speed `slow`. -/
def Transport.counted (t : Transport) (d : Dir) (slow : Bool) : Transport :=
  { t with
    p := countP t.p d, travel := t.travel - (match d with | .forward => 1 | .reverse => -1)
    supply := t.supply.count d (-(match d with | .forward => 1 | .reverse => -1))
    takeUp := t.takeUp.count d (match d with | .forward => 1 | .reverse => -1), unthreadSlow := slow }

/-- The core whose transport has taken a count. -/
def Core.counted (c : Core) (d : Dir) : Core := c.setTr (c.tr.counted d c.tr.unthreadSlow).unthreadMark

theorem Core.counted_shape (c : Core) (d : Dir) : ∃ slow, c.counted d = c.setTr (c.tr.counted d slow) ∧
    ∀ l, c.tr.st = .unthreading → (c.tr.counted d slow).lTu = some l → slow = (c.tr.unthreadSlow || decide (l < 400000)) := by
  obtain ⟨slow, marked, mark⟩ := (c.tr.counted d c.tr.unthreadSlow).unthreadMark_shape
  exact ⟨slow, congrArg c.setTr marked, fun l st left => mark l st left⟩

/-- A forward count that gives no kept sample to a motion. -/
theorem Core.count_unkept {c : Core} (image blip edge : Nat) (h : c.tr.p = 16000000 ∨ (c.tr.p < 16000000 ∧ (c.tr.p + 1) % 4 ≠ 0) ∨
    (c.tr.st ≠ .move ∧ c.tr.st ≠ .threading)) :
    c.count .forward image blip edge = (c.counted .forward).strobeCount.settleCheck.limitCheck := by
  have unkept : (if countP c.tr.p .forward ≠ c.tr.p ∧ countP c.tr.p .forward % 4 = 0 then
      (c.counted .forward).sample (countP c.tr.p .forward) image blip edge else c.counted .forward) = c.counted .forward := by
    split
    · next kept =>
      rcases h with h | h | h
      · simp [countP, h] at kept
      · simp only [countP] at kept; omega
      · obtain ⟨slow, shape, -⟩ := c.counted_shape .forward
        have st : (c.counted .forward).tr.st = c.tr.st := by rw [shape]; rfl
        unfold Core.sample
        split
        · next move => exact absurd (st.symm.trans move) h.1
        · next threading => exact absurd (st.symm.trans threading) h.2
        · rfl
    · rfl
  exact congrArg (fun d : Core => d.strobeCount.settleCheck.limitCheck) unkept

/-- A reverse count with no forward motion under way. -/
theorem Core.count_reverse {c : Core} (image blip edge : Nat) (motion : c.ix.motion = none) : c.count .reverse image blip edge =
    ((c.counted .reverse).setIx c.ix.mayBegin.searchReversed).settleCheck.limitCheck := by
  have none' : (c.counted .reverse).ix.motion = none := motion
  have still : (if (c.counted .reverse).ix.motion.isSome then (c.counted .reverse).endMotion else c.counted .reverse) =
      c.counted .reverse := if_neg (by rw [none']; decide)
  exact congrArg (fun d : Core => (d.setIx d.ix.mayBegin.searchReversed).settleCheck.limitCheck) still

theorem Core.settleCheck_idle {c : Core} (h : c.tr.st ≠ .move ∨ c.tr.phase ≠ .settle) : c.settleCheck = c := by
  unfold Core.settleCheck
  split
  · refine if_neg fun g => ?_
    rcases h with h | h
    · exact h g.1
    · exact h g.2.1
  · rfl

theorem Core.strobeCount_idle {c : Core} (armed : c.cap.armed = none) (flyby : c.cap.flyby = none) : c.strobeCount = c := by
  simp only [Core.strobeCount, armed, Core.flybyTry, flyby]

theorem Window.count_forward (w : Window) : (w.dir ≠ some .reverse → w.count .forward = some { w with
    counts := w.counts + 1, dir := some .forward }) ∧ (w.dir = some .reverse → w.count .forward = none) := by
  obtain ⟨pulses, counts, dir⟩ := w
  cases dir with
  | none => exact ⟨fun _ => rfl, fun h => nomatch h⟩
  | some d =>
    cases d with
    | forward => exact ⟨fun _ => rfl, fun h => nomatch h⟩
    | reverse => exact ⟨fun h => absurd rfl h, fun _ => rfl⟩

theorem IndexUnit.reversed_eq (x : IndexUnit) : x.mayBegin.searchReversed = { x with
    begins := true, detector := if x.searching then { st := .resync, run := none } else x.detector } := by
  unfold IndexUnit.searchReversed
  have same : x.mayBegin.searching = x.searching := rfl
  rw [same]
  by_cases h : x.searching = true
  · rw [if_pos h, if_pos h]; rfl
  · rw [if_neg h, if_neg h]; rfl

/-! ## The compare (R84) -/

theorem Core.strobeCount_below {c : Core} {a : Armed} (armed : c.cap.armed = some a) (same : ∀ f, c.cap.flyby = some f → f.frame = a.frame)
    (short : c.tr.p ≤ a.target) (low : c.tr.p < a.compare) : c.strobeCount = c := by
  have waits : c.flybyTry = c := by
    unfold Core.flybyTry
    split
    · rfl
    · next f flyby => exact if_pos (by rw [armed, same f flyby]; rfl)
  unfold Core.strobeCount
  rw [armed]
  exact (if_neg (not_lt.2 short)).trans ((if_neg (not_le.2 low)).trans waits)

/-- No frame of a flyby walk is left in `k` once frame `n` is over. -/
theorem flyby_over {o : Option FlybyFrame} {n : Nat} (same : ∀ f, o = some f → f.frame = n) :
    (o.filter fun f => f.frame != n) = none := by
  cases o with
  | none => rfl
  | some f => simp [same f rfl]

theorem Core.flybyTry_idle {c : Core} (h : c.cap.flyby = none) : c.flybyTry = c := by simp only [Core.flybyTry, h]

theorem Core.strobeCount_late {c : Core} {a : Armed} (armed : c.cap.armed = some a) (same : ∀ f, c.cap.flyby = some f → f.frame = a.frame)
    (late : a.target < c.tr.p) : c.strobeCount =
      (c.setCap { c.cap with armed := none, flyby := none }).emit (.flybyMissed a.frame) := by
  have missed : c.flybyMiss a.frame = (c.setCap { c.cap with armed := none, flyby := none }).emit (.flybyMissed a.frame) := by
    have gone : (some a).filter (fun b => b.frame != a.frame) = none := by simp
    rw [Core.flybyMiss, flyby_over same, armed, gone]
  unfold Core.strobeCount
  rw [armed]
  exact (if_pos late).trans ((congrArg Core.flybyTry missed).trans (Core.flybyTry_idle rfl))

/-- CAM_HOLD alone follows the FIFO. -/
theorem Core.holdUpdate_shape (c : Core) : ∃ (hold : Bool) (r : Option Readout),
    c.holdUpdate = c.setCap { c.cap with camHold := hold, readout := r } := by
  unfold Core.holdUpdate
  dsimp only
  split
  · next r camera readout =>
    split
    · exact ⟨c.cap.camHold, c.cap.readout, rfl⟩
    · split
      · exact ⟨_, _, rfl⟩
      · split
        · exact ⟨_, _, rfl⟩
        · exact ⟨c.cap.camHold, c.cap.readout, rfl⟩
  · exact ⟨false, c.cap.readout, rfl⟩

/-- What a strobe of a capture leaves: the image that fills, in the slot in hand, and the camera port in READOUT. -/
structure Core.Strobed (c : Core) (n : Nat) (fullDepth stopMode recapture : Bool) (d : Core) (im : Image) : Prop where
  frame : d = (c.setPins { c.pins with strobes := c.pins.strobes + 1 }).setCap d.cap
  armed : d.cap.armed = c.cap.armed
  flyby : d.cap.flyby = c.cap.flyby
  stop : d.cap.stop = c.cap.stop
  camera : d.cap.camera = .readout
  inHand : d.cap.inHand = none
  filling : d.cap.filling = c.cap.filling ++ [im]
  lamp : d.cap.lamp = c.cap.lamp
  number : im.frame = n
  ringSlot : im.ringSlot = c.cap.inHand.getD 0
  pStrobe : im.pStrobe = c.tr.p
  lens : im.step = c.focus.counter
  mode : im.stopMode = stopMode ∧ im.recapture = recapture
  depth : im.fullDepth = fullDepth ∧ im.depth = if fullDepth then 2 else c.prof.depth
  slot : im.slot = (c.rm.pass.map (·.slot)).getD 0
  stamp : im.stamp = (c.rm.pass.map (·.stamp)).getD 0
  unsettled : im.unsettled = !c.settledFor n
  fresh : im.headDone = 0 ∧ im.entered = 0 ∧ im.damaged = false ∧ im.ended = false

theorem Core.strobeImage_strobed (c : Core) (frame : Nat) (fullDepth stopMode recapture : Bool) :
    ∃ im, c.Strobed frame fullDepth stopMode recapture (c.strobeImage frame fullDepth stopMode recapture) im := by
  unfold Core.strobeImage
  dsimp only
  generalize hd : Core.setCap (Core.expose _ _ _ _) _ = d
  obtain ⟨hold, r, shape⟩ := d.holdUpdate_shape
  rw [shape]
  subst hd
  exact ⟨_, rfl, rfl, rfl, rfl, rfl, rfl, rfl, rfl, rfl, rfl, rfl, rfl, ⟨rfl, rfl⟩, ⟨rfl, rfl⟩, rfl, rfl, rfl, ⟨rfl, rfl, rfl, rfl⟩⟩

/-- A compare reached on a walk: the frame has been taken, and is reported. -/
theorem Core.strobeCount_fires {c : Core} {a : Armed} (armed : c.cap.armed = some a) (same : ∀ f, c.cap.flyby = some f → f.frame = a.frame)
    (short : c.tr.p ≤ a.target) (reached : a.compare ≤ c.tr.p) : ∃ d im, c.Strobed a.frame a.fullDepth false false d im ∧
      c.strobeCount = (d.setCap { d.cap with armed := none, flyby := none }).emit (.flybyFired a.frame) := by
  obtain ⟨im, strobed⟩ := c.strobeImage_strobed a.frame a.fullDepth false false
  refine ⟨_, im, strobed, ?_⟩
  have fired : c.flybyFire a = ((c.strobeImage a.frame a.fullDepth false false).setCap {
      (c.strobeImage a.frame a.fullDepth false false).cap with armed := none, flyby := none }).emit (.flybyFired a.frame) := by
    rw [Core.flybyFire]
    dsimp only
    rw [strobed.flyby, flyby_over same]
  unfold Core.strobeCount
  rw [armed]
  exact (if_neg (not_lt.2 short)).trans ((if_pos reached).trans
    ((congrArg Core.flybyTry fired).trans (Core.flybyTry_idle rfl)))

/-! ## The walk's last frame (R159) -/

theorem Pass.mark_plan (q : Pass) (k : Nat) (st : FrameState) :
    (q.mark k st).plan[k]? = some { code := q.codeAt k, st := st } := by
  rw [show (q.mark k st).plan = setAt (q.plan ++ (List.range (k + 1 - q.plan.length)).map fun i => q.fresh (q.plan.length + i)) k
    { code := q.codeAt k, st := st } from rfl]
  refine getElem?_setAt_self ?_ _
  simp only [List.length_append, List.length_map, List.length_range]
  omega

theorem Pass.stateAt_of_plan {q : Pass} {k n : Nat} {st : FrameState} (h : q.plan[k]? = some { code := n, st := st }) :
    q.stateAt k = st := by
  rw [Pass.stateAt, h]
  rfl

/-- The last frame taken before plan frame `k + 1` is frame `k`, unless that was SKIPPED. -/
theorem Pass.lastUnreported_succ {q : Pass} {k n : Nat} {st : FrameState} (h : q.plan[k]? = some { code := n, st := st })
    (taken : st ≠ .skipped) : q.lastUnreported (k + 1) = decide (st = .fired) := by
  have last : q.plan.take (k + 1) = q.plan.take k ++ [{ code := n, st := st }] := by
    rw [List.take_add_one, h]
    rfl
  rw [Pass.lastUnreported, last, List.reverse_append]
  simp [taken]

/-- A range of `k + 1` frames has none from `k + 1` on. -/
theorem Pass.seekFrame_end {q : Pass} {k : Nat} (size : q.size = some (k + 1)) (fuel : Nat) : q.seekFrame (fuel + 1) (k + 1) = none := by
  rw [Pass.seekFrame]
  exact if_neg (by simp [Pass.within, size])

section
variable {c : Core} {q : Pass} {n k : Nat} (pass : c.rm.pass = some q) (going : q.ending = none) (act : q.act = .walking k)
  (start : q.start = some n) (size : q.size = some (k + 1))
include pass going act start size

/-- The last frame of a walk has been taken: the pass waits for its image. -/
theorem Core.passFired_last : c.passFired (n + k) = c.setPass { q.mark k .fired with captured := true, act := .walkTail (k + 1) } := by
  have place : q.place (n + k) = some k := by simp [Pass.place, start]
  have walking : ({ q.mark k .fired with captured := true } : Pass).ending.isNone = true ∧
      ({ q.mark k .fired with captured := true } : Pass).act = .walking k := ⟨Option.isNone_iff_eq_none.2 going, act⟩
  have ended' : ({ q.mark k .fired with captured := true } : Pass).seekFrame 4097 (k + 1) = none :=
    Pass.seekFrame_end (by exact size) 4096
  have unreported : ({ q.mark k .fired with captured := true } : Pass).lastUnreported (k + 1) = true :=
    (Pass.lastUnreported_succ (Pass.mark_plan q k .fired) (by decide)).trans rfl
  simp only [Core.passFired, pass, place]
  rw [if_pos walking, Core.walkGive, ended']
  exact if_pos unreported

/-- The last frame of a walk has been missed: the walk stops. -/
theorem Core.passMissed_last (moves : c.tr.st = .move) (unsettled : c.tr.phase ≠ .settle) (fast : c.tr.vRef ≠ 0) :
    c.passMissed (n + k) = (c.setPass { q.miss k with act := .walkStop }).setTr { c.tr with
      plan := none, phase := .brake .stop, stopWaits := true, settleCount := none } := by
  have place : q.place (n + k) = some k := by simp [Pass.place, start]
  have walking : (q.miss k).ending.isNone = true ∧ (q.miss k).act = .walking k := ⟨Option.isNone_iff_eq_none.2 going, act⟩
  have ended' : (q.miss k).seekFrame 4097 (k + 1) = none :=
    Pass.seekFrame_end (by exact size) 4096
  have reported : (q.miss k).lastUnreported (k + 1) = false :=
    (Pass.lastUnreported_succ (Pass.mark_plan q k .missed) (by decide)).trans rfl
  have moves' : (c.setPass (q.miss k)).tr.st = .move := moves
  have under : (c.setPass (q.miss k)).underOrder = true := by simp [Core.underOrder, moves']
  simp only [Core.passMissed, pass, place]
  rw [if_pos walking, Core.walkGive, ended']
  dsimp only
  rw [if_neg (by rw [reported]; decide), Core.walkEnd, if_pos under]
  unfold Core.orderStop
  split
  · next hold => exact nomatch moves.symm.trans hold
  · exact if_neg (by rintro (h | h); exacts [unsettled h, fast h])
  · next stands => exact absurd moves stands
end

/-! ## Waiting for the lamp (R146) -/

/-- A wait for the lamp changes the lamp and the link alone, and may report the failure of its LAMP STATUS. -/
theorem Core.lampWait_shape (c : Core) : ∃ (lamp : Lamp) (link : Link) (l : List Signal),
    c.lampWait = ((c.setLamp lamp).setLink link).report l ∧ (l = [] ∨ ∃ x, l = [x] ∧ lampFailure x) ∧
      (lamp.st = .ready ↔ c.cap.lamp.st = .ready) := by
  unfold Core.lampWait
  dsimp only
  split
  · next waits =>
    have warm : ∀ lamp : Lamp, lamp.st = .warming → (lamp.st = .ready ↔ c.cap.lamp.st = .ready) := fun lamp h => by
      rw [h, waits.1]
    split
    · have poll := Core.submit_shape (c.setLamp { c.cap.lamp with polling := true, pollLimit := c.tick })
        { msg := .lampStatus c.cap.lamp.serial, by' := .captureUnit }
      obtain ⟨link, l, shape, hl, -⟩ := poll
      refine ⟨_, link, l, shape, hl.imp id fun h => ⟨_, h, _, _, rfl, rfl⟩, warm _ waits.1⟩
    · exact ⟨{ c.cap.lamp.newRecord with st := .warming, fixed := c.tick }, c.link, [], (Core.report_nil _).symm, .inl rfl, warm _ rfl⟩
  · exact ⟨c.cap.lamp, c.link, [], (Core.report_nil _).symm, .inl rfl, Iff.rfl⟩

/-- A failed lamp transaction changes the lamp alone. -/
theorem Core.handle_failed {x : Signal} (h : lampFailure x) (c : Core) : ∃ lamp, c.handle x = c.setLamp lamp := by
  obtain ⟨m, told, -⟩ := Core.handle_lampFailure h c c.cap.lamp c.modes.reply c.sig
  exact ⟨m, told⟩

/-- A wait for the lamp settles: besides the lamp and the link nothing has changed. -/
theorem Core.Settles.lampWait {c : Core} (sig : c.sig = []) : ∃ (n : Nat) (lamp : Lamp) (link : Link), n ≤ 1 ∧
    Core.Settles n c.lampWait ((c.setLamp lamp).setLink link) := by
  obtain ⟨lamp, link, l, shape, looks, -⟩ := c.lampWait_shape
  rw [shape]
  rcases looks with rfl | ⟨x, rfl, failed⟩
  · rw [Core.report_nil]
    exact ⟨0, lamp, link, by decide, .quiet sig⟩
  · obtain ⟨lamp', failed'⟩ := Core.handle_failed failed ((c.setLamp lamp).setLink link)
    refine ⟨1, lamp', link, le_refl 1, ?_⟩
    rw [← Core.emit_eq_report]
    refine .emit (by exact sig) ?_
    rw [failed']
    exact .quiet (by exact sig)

/-- With no slot in hand a stop-mode frame at rest only waits for the lamp. -/
theorem Core.tryStrobe_waits {c : Core} {x : StopCapture} (stop : c.cap.stop = some x) (arrived : x.arrived = true)
    (hand : c.cap.inHand = none) (flyby : c.cap.flyby = none) (probe : c.focus.probe = none) : c.tryStrobe = c.lampWait := by
  have stopTry : c.stopTry = c.lampWait := by
    obtain ⟨lamp, link, l, shape, -⟩ := c.lampWait_shape
    have none' : c.lampWait.cap.inHand = none := by rw [shape]; exact hand
    unfold Core.stopTry
    rw [stop]
    dsimp only
    rw [if_pos arrived]
    exact if_neg (by rw [none']; simp)
  obtain ⟨lamp, link, l, shape, -⟩ := c.lampWait_shape
  rw [Core.tryStrobe, stopTry, shape]
  have calm : (((c.setLamp lamp).setLink link).report l).focus.probe = none := probe
  have still : (((c.setLamp lamp).setLink link).report l).cap.flyby = none := flyby
  rw [show Core.previewTry _ = ((c.setLamp lamp).setLink link).report l by unfold Core.previewTry; rw [calm]]
  exact Core.flybyTry_idle still

/-! ## A SETTLE in tolerance (R56) -/

/-- The core at rest in HOLD. -/
def Core.atRest (c : Core) : Core := (c.setIx { c.ix with unit := .off }).setTr c.tr.rested

theorem Core.settleCheck_arrives {c : Core} {pl : Plan} {t : Int} (st : c.tr.st = .move) (phase : c.tr.phase = .settle)
    (plan : c.tr.plan = some pl) (order : pl.order = .position t) (near : |c.tr.p - t| ≤ (c.prof.stopTolerance : Int))
    (unmoved : c.unmoved = true) : c.settleCheck = c.atRest.emit (.passReply .arrived) := by
  have target : pl.target = t := by simp only [Plan.target, order]
  have rest : (c.emit (.passReply .arrived)).unmoved = true := unmoved
  have arrived : c.holdReply .arrived = c.atRest.emit (.passReply .arrived) := by
    rw [Core.holdReply, Core.enterHold_unmoved rest]
    rfl
  unfold Core.settleCheck
  rw [plan]
  exact (if_pos ⟨st, phase, by rw [target]; exact near⟩).trans arrived

theorem Core.passReply_arrived {c : Core} {q : Pass} (pass : c.rm.pass = some q) (films : q.films = true) (going : q.ending = none) :
    c.passReply .arrived = c.passArrived q := by
  simp only [Core.passReply, pass, films, going, Bool.not_true, Option.isSome_none, if_neg Bool.false_ne_true]

theorem Core.passArrived_frame {c : Core} {q : Pass} {k : Nat} (act : q.act = .positioning k) (kind : q.req.kind ≠ .probe) :
    c.passArrived q = (c.setPass { q with act := .atFrame k, st := q.capturing }).capArrived := by
  simp only [Core.passArrived, act]
  exact if_neg kind

theorem Core.passArrived_probe {c : Core} {q : Pass} {k : Nat} (act : q.act = .positioning k) (kind : q.req.kind = .probe) :
    c.passArrived q = (c.setPass { q with act := .probing k, st := .probing }).probeStart (q.frame k) q.target := by
  simp only [Core.passArrived, act]
  exact if_pos kind

/-! ## A probe's first point (R126, R127) -/

/-- What the probe `q` leaves in `d` once its next point is commanded, and perhaps its preview exposed. -/
structure Core.Probing (c : Core) (q : Probe) (d : Core) : Prop where
  sig : d.sig = []
  tr : d.tr = c.tr
  rm : d.rm = c.rm
  map : d.focus.map = c.focus.map
  commanded : d.focus.commanded = probePoint c.prof q q.scores.length
  probe : ∃ ph, d.focus.probe = some { q with phase := ph }

/-- A preview that waits at its target looks at its conditions: it waits for the lamp, and may be exposed. -/
theorem Core.previewTry_at {c : Core} {q : Probe} (probe : c.focus.probe = some q) (waits : q.phase = .waiting)
    (at' : c.atTarget q.target = true) : ∃ (d : Core) (l : List Signal), c.previewTry = d.report l ∧
      (l = [] ∨ ∃ x, l = [x] ∧ lampFailure x) ∧ d.sig = c.sig ∧ d.tr = c.tr ∧ d.rm = c.rm ∧ d.cap.flyby = c.cap.flyby ∧
      ∃ ph, d.focus = { c.focus with probe := some { q with phase := ph } } := by
  obtain ⟨lamp, link, l, shape, looks, -⟩ := c.lampWait_shape
  have keeps : c.focus = { c.focus with probe := some { q with phase := .waiting } } := by
    rw [← waits, ← probe]
  unfold Core.previewTry
  rw [probe]
  dsimp only
  rw [if_pos waits, shape]
  split
  · have at'' : (((c.setLamp lamp).setLink link).report l).atTarget q.target = true := at'
    rw [if_pos at'']
    refine ⟨((((c.setLamp lamp).setLink link).expose true true c.prof.depth).setFocus { c.focus with
      probe := some { q with phase := .reading } }), l, rfl, looks, rfl, rfl, rfl, rfl, .reading, rfl⟩
  · exact ⟨(c.setLamp lamp).setLink link, l, rfl, looks, rfl, rfl, rfl, rfl, .waiting, keeps⟩

theorem Core.Settles.probeNext {c : Core} {q : Probe} (sig : c.sig = []) (stop : c.cap.stop = none) (flyby : c.cap.flyby = none)
    (at' : c.atTarget q.target = true) : ∃ n d, n ≤ 2 ∧ Core.Settles n (c.probeNext q) d ∧ c.Probing q d := by
  unfold Core.probeNext
  dsimp only
  split
  · generalize hc : c.setFocus { c.focus with
      commanded := probePoint c.prof q q.scores.length, st := .probing, probe := some { q with phase := .waiting } } = e
    have sig' : e.sig = [] := by rw [← hc]; exact sig
    obtain ⟨d, l, preview, looks, dsig, tr, rm, walk, ph, focus⟩ := Core.previewTry_at (c := e) (q := { q with phase := .waiting })
      (by rw [← hc]; rfl) rfl (by rw [← hc]; exact at')
    have looked : e.handle .tryStrobe = d.report l := by
      have still : e.stopTry = e := by
        unfold Core.stopTry
        rw [show e.cap.stop = none by rw [← hc]; exact stop]
      have idle : (d.report l).cap.flyby = none := walk.trans (by rw [← hc]; exact flyby)
      rw [Core.handle, Core.tryStrobe, still, preview, Core.flybyTry_idle idle]
    have frame : e.tr = c.tr ∧ e.rm = c.rm ∧ e.focus.map = c.focus.map ∧ e.focus.commanded = probePoint c.prof q q.scores.length := by
      rw [← hc]; exact ⟨rfl, rfl, rfl, rfl⟩
    obtain ⟨tr', rm', map, commanded⟩ := frame
    have fields : c.Probing q d := ⟨dsig.trans sig', tr.trans tr', rm.trans rm', by rw [focus]; exact map, by rw [focus]; exact commanded,
      ph, by rw [focus]⟩
    rcases looks with rfl | ⟨x, rfl, failed⟩
    · exact ⟨1, d, by decide, .emit sig' (by rw [looked, Core.report_nil]; exact .quiet fields.sig), fields⟩
    · obtain ⟨lamp, failed'⟩ := Core.handle_failed failed d
      obtain ⟨hs, htr, hrm, hmap, hcom, hprobe⟩ := fields
      refine ⟨2, d.setLamp lamp, le_refl 2, .emit sig' ?_, ⟨hs, htr, hrm, hmap, hcom, hprobe⟩⟩
      rw [looked, ← Core.emit_eq_report]
      exact .emit hs (by rw [failed']; exact .quiet hs)
  · exact ⟨0, _, by decide, .quiet sig, sig, rfl, rfl, rfl, rfl, .moving, rfl⟩

/-- The window record a probe of R126 begins with, at the core's place of the film. -/
def Core.probeRecord (c : Core) (frame : Nat) (target : Int) : Probe :=
  let b := focusBand c.prof (c.tr.p - c.prof.gateOffset)
  let delta := match c.focus.entry b with
    | some e => if 2 ≤ e.probes then max 4 (c.prof.probeStep / 2) else c.prof.probeStep
    | none => c.prof.probeStep
  { frame := frame, target := target, band := b, delta := delta
    centre := probeCentre c.prof delta ((c.focus.choose c.prof b).1 : Int), shift := 0, scores := [], phase := .moving
    cancelled := false }

theorem Core.probeStart_eq (c : Core) (frame : Nat) (target : Int) :
    c.probeStart frame target = c.probeNext (c.probeRecord frame target) := rfl

theorem Core.probeRecord_delta (c : Core) (frame : Nat) (target : Int) :
    ((∀ e, c.focus.map[(c.probeRecord frame target).band]? = some (some e) → e.probes < 2) →
      (c.probeRecord frame target).delta = c.prof.probeStep) ∧
    (∀ e, c.focus.map[(c.probeRecord frame target).band]? = some (some e) → 2 ≤ e.probes →
      (c.probeRecord frame target).delta = max 4 (c.prof.probeStep / 2)) := by
  unfold Core.probeRecord
  dsimp only
  generalize focusBand c.prof _ = b
  constructor
  · intro few
    cases entry : c.focus.map[b]? with
    | none => simp [Focus.entry, entry]
    | some o =>
      cases o with
      | none => simp [Focus.entry, entry]
      | some e => simp [Focus.entry, entry, not_le.2 (few e entry)]
  · intro e entry many
    simp [Focus.entry, entry, many]

/-- A limit looked at behind a report: at most the phase and the settle count change, and no SETTLE begins. -/
theorem Core.limitCheck_emit (c : Core) (x : Signal) : ∃ g : Core, (c.emit x).limitCheck = g.emit x ∧ g = c.setTr g.tr ∧
    g.tr.p = c.tr.p ∧ g.tr.st = c.tr.st ∧ g.tr.plan = c.tr.plan ∧ g.tr.vRef = c.tr.vRef ∧
    (c.tr.phase ≠ .settle → g.tr.phase ≠ .settle) := by
  cases plan : (c.emit x).tr.plan with
  | none => exact ⟨c, Core.limitCheck_none plan, rfl, rfl, rfl, rfl, rfl, id⟩
  | some pl =>
    rw [Core.limitCheck_some plan]
    split
    · exact ⟨c.setTr { c.tr with phase := .brake .filmEnd, settleCount := none }, rfl, rfl, rfl, rfl, rfl, rfl,
        fun _ h => nomatch h⟩
    · exact ⟨c, rfl, rfl, rfl, rfl, rfl, rfl, id⟩

/-- Settles O34. -/
theorem countMovesFilm : Obligations.CountMovesFilm := by
  refine ⟨fun image blip edge s hr calm => ⟨fun armed flyby unkept => ?_, fun motion => ?_,
    fun a q n k armed same low keptless move fast pass going act start size number => ?_⟩,
    fun image blip edge k pl q target s hr move settle plan order unmoved flyby probe low keptless near pass films going act aim => ?_⟩
  · obtain ⟨slow, counted, -⟩ := s.core.counted_shape .forward
    have counts := Core.count_unkept image blip edge unkept
    rw [counted, Core.strobeCount_idle (by exact armed) (by exact flyby), Core.settleCheck_idle (by exact calm)] at counts
    obtain ⟨ph, settleCount, shape, limit⟩ := (s.core.setTr (s.core.tr.counted .forward slow)).limitCheck_shape
    rw [shape] at counts
    refine ⟨_, congrArg Host.Outcome.next (State.runCore_leaves (f := fun c => c.count .forward image blip edge) hr counts rfl rfl rfl), rfl, rfl, rfl, rfl, rfl, rfl, rfl,
      fun w opened dir => ?_, fun w opened dir => ?_, fun pl d v e ext st plan order forward cruise => ?_, rfl, rfl, rfl,
      s.leaves_front (s.ready_out hr)⟩
    · exact (congrArg (Option.bind · (Window.count · .forward)) opened).trans (w.count_forward.1 dir)
    · exact (congrArg (Option.bind · (Window.count · .forward)) opened).trans (w.count_forward.2 dir)
    · obtain ⟨reaches, away⟩ := limit pl st plan cruise
      rw [Core.limitReached_run (by exact forward) order] at reaches away
      exact ⟨fun h => reaches (decide_eq_true h), fun h => away (decide_eq_false (not_le.2 h))⟩
  · obtain ⟨slow, counted, mark⟩ := s.core.counted_shape .reverse
    have counts := Core.count_reverse image blip edge motion
    rw [counted, Core.settleCheck_idle (by exact calm), IndexUnit.reversed_eq] at counts
    obtain ⟨ph, settleCount, shape, limit⟩ := ((s.core.setTr (s.core.tr.counted .reverse slow)).setIx { s.core.ix with
      begins := true, detector := if s.core.ix.searching then { st := .resync, run := none } else s.core.ix.detector }).limitCheck_shape
    rw [shape] at counts
    refine ⟨_, congrArg Host.Outcome.next (State.runCore_leaves (f := fun c => c.count .reverse image blip edge) hr counts rfl rfl rfl), rfl, rfl, rfl, rfl, rfl,
      fun pl st plan reverse cruise => ?_, fun l st left => mark l st left, rfl, rfl, rfl, s.leaves_front (s.ready_out hr)⟩
    obtain ⟨reaches, away⟩ := limit pl st plan cruise
    rw [Core.limitReached_reverse pl (by exact reverse)] at reaches away
    exact ⟨fun h => reaches (decide_eq_true h), fun h => away (decide_eq_false (not_le.2 h))⟩
  · have counts := Core.count_unkept image blip edge (.inr (.inl ⟨low, keptless⟩))
    obtain ⟨slow, counted, -⟩ := s.core.counted_shape .forward
    have p' : countP s.core.tr.p .forward = s.core.tr.p + 1 := by rw [countP]; omega
    have phase : s.core.tr.phase ≠ .settle := calm.resolve_left (not_not.2 move)
    rw [counted] at counts
    generalize hc : s.core.setTr (s.core.tr.counted .forward slow) = c at counts
    have frame : c = s.core.setTr c.tr ∧ c.tr.p = s.core.tr.p + 1 ∧ c.tr.st = .move ∧ c.tr.phase = s.core.tr.phase ∧
        c.tr.vRef = s.core.tr.vRef ∧ c.tr.plan = s.core.tr.plan := by subst hc; exact ⟨rfl, p', move, rfl, rfl, rfl⟩
    obtain ⟨frame, p, st, phase', vRef, plan⟩ := frame
    have armed' : c.cap.armed = some a := by rw [frame]; exact armed
    have same' : ∀ f, c.cap.flyby = some f → f.frame = a.frame := by rw [frame]; exact same
    refine ⟨fun below short => ?_, fun reached short => ?_, fun late => ?_⟩
    · rw [Core.strobeCount_below armed' same' (by rw [p]; exact short) (by rw [p]; exact below),
        Core.settleCheck_idle (.inr (phase'.trans_ne phase))] at counts
      obtain ⟨ph, settleCount, shape, -⟩ := c.limitCheck_shape
      rw [shape, frame] at counts
      exact ⟨_, congrArg Host.Outcome.next (State.runCore_leaves (f := fun c => c.count .forward image blip edge) hr counts rfl rfl rfl),
        rfl, rfl, p, rfl⟩
    · obtain ⟨d, im, strobed, fires⟩ := Core.strobeCount_fires armed' same' (by rw [p]; exact short) (by rw [p]; exact reached)
      generalize hd : d.setCap { d.cap with armed := none, flyby := none } = e at fires
      have kept : e.sig = [] ∧ e.tr = c.tr ∧ e.rm = s.core.rm ∧ e.pins.strobes = s.core.pins.strobes + 1 ∧
          e.cap = { d.cap with armed := none, flyby := none } := by
        subst hd
        rw [strobed.frame, frame]
        exact ⟨s.ready_sig hr, rfl, rfl, rfl, rfl⟩
      obtain ⟨esig, etr, erm, strobes, ecap⟩ := kept
      obtain ⟨g, limited, gframe, gp, gst, gplan, gvRef, -⟩ := e.limitCheck_emit (.flybyFired a.frame)
      rw [fires, Core.settleCheck_idle (.inr (by rw [show (e.emit _).tr = e.tr from rfl, etr, phase']; exact phase)), limited] at counts
      have gsig : g.sig = [] := by rw [gframe]; exact esig
      have last := Core.passFired_last (c := g) (q := q) (n := n) (k := k) (by rw [gframe]; exact erm ▸ pass) going act start size
      have run := State.runCore_emit (f := fun c => c.count .forward image blip edge) (d := g.setPass { q.mark k .fired with
        captured := true, act := .walkTail (k + 1) }) hr counts gsig (by rw [Core.handle, number]; exact last) gsig
        (Core.endDue_of_unended rfl going)
      have gpins : g.pins = e.pins := by rw [gframe]; rfl
      have gcap : g.cap = e.cap := by rw [gframe]; rfl
      rw [← gpins] at strobes
      rw [← gcap] at ecap
      refine ⟨_, { q.mark k .fired with captured := true, act := .walkTail (k + 1) }, im, congrArg Host.Outcome.next run, ?_⟩
      rw [State.leaves_tr, State.leaves_pins, State.leaves_cap, State.leaves_rm]
      have image' : im.ringSlot = s.core.cap.inHand.getD 0 ∧ im.slot = q.slot ∧ im.stamp = q.stamp ∧
          im.depth = (if a.fullDepth then 2 else s.core.prof.depth) := by
        refine ⟨strobed.ringSlot.trans (by rw [frame]; rfl), strobed.slot.trans ?_, strobed.stamp.trans ?_,
          strobed.depth.2.trans (by rw [frame]; rfl)⟩
        · rw [frame, show (s.core.setTr c.tr).rm = s.core.rm from rfl, pass]; rfl
        · rw [frame, show (s.core.setTr c.tr).rm = s.core.rm from rfl, pass]; rfl
      obtain ⟨ringSlot, slot, stamp, depth⟩ := image'
      exact ⟨gp.trans ((congrArg Transport.p etr).trans p), strobes, congrArg Capture.armed ecap, congrArg Capture.flyby ecap,
        (congrArg Capture.camera ecap).trans strobed.camera, (congrArg Capture.inHand ecap).trans strobed.inHand,
        (congrArg Capture.filling ecap).trans (strobed.filling.trans (by rw [frame]; rfl)), strobed.number, ringSlot,
        strobed.pStrobe.trans p, strobed.mode.1, strobed.depth.1, depth, slot, stamp, strobed.fresh.1, strobed.fresh.2.1, rfl,
        Pass.stateAt_of_plan (Pass.mark_plan q k .fired), rfl, rfl, gst.trans ((congrArg Transport.st etr).trans st),
        gplan.trans ((congrArg Transport.plan etr).trans plan), gvRef.trans ((congrArg Transport.vRef etr).trans vRef)⟩
    · rw [Core.strobeCount_late armed' same' (by rw [p]; exact late)] at counts
      generalize he : c.setCap { c.cap with armed := none, flyby := none } = e at counts
      have kept : e.sig = [] ∧ e.tr = c.tr ∧ e.rm = s.core.rm ∧ e.pins = s.core.pins ∧
          e.cap = { s.core.cap with armed := none, flyby := none } := by
        subst he
        rw [frame]
        exact ⟨s.ready_sig hr, rfl, rfl, rfl, rfl⟩
      obtain ⟨esig, etr, erm, pins, ecap⟩ := kept
      obtain ⟨g, limited, gframe, gp, gst, -, gvRef, gphase⟩ := e.limitCheck_emit (.flybyMissed a.frame)
      have unsettled : e.tr.phase ≠ .settle := by rw [etr, phase']; exact phase
      rw [Core.settleCheck_idle (c := e.emit _) (.inr unsettled), limited] at counts
      have gsig : g.sig = [] := by rw [gframe]; exact esig
      have moving : g.tr.vRef ≠ 0 := by rw [gvRef, etr, vRef]; exact fast.ne'
      have last := Core.passMissed_last (c := g) (q := q) (n := n) (k := k) (by rw [gframe]; exact erm ▸ pass) going act start size
        (gst.trans ((congrArg Transport.st etr).trans st)) (gphase unsettled) moving
      have run := State.runCore_emit (f := fun c => c.count .forward image blip edge) (d := (g.setPass { q.miss k with
        act := .walkStop }).setTr { g.tr with plan := none, phase := .brake .stop, stopWaits := true, settleCount := none }) hr counts gsig
        (by rw [Core.handle, number]; exact last) gsig (Core.endDue_of_unended rfl going)
      have gpins : g.pins = e.pins := by rw [gframe]; rfl
      have gcap : g.cap = e.cap := by rw [gframe]; rfl
      rw [← gpins] at pins
      rw [← gcap] at ecap
      refine ⟨_, { q.miss k with act := .walkStop }, congrArg Host.Outcome.next run, ?_⟩
      rw [State.leaves_tr, State.leaves_pins, State.leaves_cap, State.leaves_rm]
      refine ⟨pins, congrArg Capture.armed ecap, congrArg Capture.flyby ecap, (congrArg Capture.filling ecap).trans rfl,
        (congrArg Capture.inHand ecap).trans rfl,
        rfl, Pass.stateAt_of_plan (Pass.mark_plan q k .missed), rfl, fun room => ?_, rfl⟩
      have number' : q.frame k = a.frame := by rw [number, Pass.frame, start]; rfl
      have listed : ({ q.miss k with act := .walkStop } : Pass).retryList = insertAsc (q.frame k) q.retryList := if_pos room
      rw [listed, number']
      exact mem_insertAsc.2 (.inl rfl)
  · have counts := Core.count_unkept image blip edge (.inr (.inl ⟨low, keptless⟩))
    obtain ⟨slow, counted, -⟩ := s.core.counted_shape .forward
    have p' : countP s.core.tr.p .forward = s.core.tr.p + 1 := by rw [countP]; omega
    have unmoved' : (s.core.setTr (s.core.tr.counted .forward slow)).unmoved = true := unmoved
    rw [counted, Core.strobeCount_idle (by exact (s.core.unmoved_iff.1 unmoved).1) (by exact flyby),
      Core.settleCheck_arrives (pl := pl) (t := target) (by exact move) (by exact settle) (by exact plan) order
        (by rw [show (s.core.setTr (s.core.tr.counted .forward slow)).tr.p = _ from p']; exact near) unmoved',
      Core.limitCheck_none rfl] at counts
    generalize hc : (s.core.setTr (s.core.tr.counted .forward slow)).atRest = c at counts
    have frame : c.sig = [] ∧ c.tr.st = .hold ∧ c.tr.tensioning = false ∧ c.tr.plan = none ∧ c.tr.vRef = 0 ∧ c.tr.p = s.core.tr.p + 1 ∧
        c.rm = s.core.rm ∧ c.cap = s.core.cap ∧ c.focus = s.core.focus ∧ c.store = s.core.store := by
      subst hc; exact ⟨s.ready_sig hr, rfl, rfl, rfl, rfl, p', rfl, rfl, rfl, rfl⟩
    obtain ⟨sig, hold, rest, none', vRef, p, rm, cap, focus, store⟩ := frame
    have arrives : c.handle (.passReply .arrived) = c.passArrived q := Core.passReply_arrived (by rw [rm]; exact pass) films going
    refine ⟨fun x kind stop hand => ?_, fun kind stop => ?_⟩
    · have frames : c.passArrived q = ((c.setPass { q with act := .atFrame k, st := q.capturing }).setCap { c.cap with
          stop := some { x with arrived := true } }).emit .tryStrobe := by
        have stop' : (c.setPass { q with act := .atFrame k, st := q.capturing }).cap.stop = some x := by rw [← stop, ← cap]; rfl
        rw [Core.passArrived_frame act kind]
        unfold Core.capArrived
        rw [stop']
        rfl
      generalize hd : (c.setPass { q with act := .atFrame k, st := q.capturing }).setCap { c.cap with
          stop := some { x with arrived := true } } = d at frames
      have kept : d.sig = [] ∧ d.tr = c.tr ∧ d.rm.pass = some { q with act := .atFrame k, st := q.capturing } ∧
          d.cap = { s.core.cap with stop := some { x with arrived := true } } ∧ d.focus = s.core.focus := by
        subst hd; exact ⟨sig, rfl, rfl, by rw [← cap]; rfl, focus⟩
      obtain ⟨dsig, dtr, dpass, dcap, dfocus⟩ := kept
      obtain ⟨m, lamp, link, few, settles⟩ := Core.Settles.lampWait dsig
      have looks : d.handle .tryStrobe = d.lampWait := Core.tryStrobe_waits (congrArg Capture.stop dcap) rfl
        ((congrArg Capture.inHand dcap).trans hand) ((congrArg Capture.flyby dcap).trans flyby) (by rw [dfocus]; exact probe)
      have run := State.runCore_settles (f := fun c => c.count .forward image blip edge) (d := (d.setLamp lamp).setLink link) hr counts
        (.emit sig (by rw [arrives, frames]; exact .emit dsig (by rw [looks]; exact settles))) (by omega)
        (Core.endDue_of_unended (p := { q with act := .atFrame k, st := q.capturing }) dpass going)
      refine ⟨_, { q with act := .atFrame k, st := q.capturing }, congrArg Host.Outcome.next run, ?_⟩
      rw [State.leaves_tr, State.leaves_rm, State.leaves_cap]
      have tr : ((d.setLamp lamp).setLink link).tr = c.tr := dtr
      rw [tr]
      exact ⟨hold, rest, none', vRef, p, dpass, rfl, congrArg Capture.stop dcap⟩
    · have starts := Core.passArrived_probe (c := c) act kind
      generalize hd : c.setPass { q with act := .probing k, st := .probing } = d at starts
      have kept : d.sig = [] ∧ d.tr = c.tr ∧ d.rm.pass = some { q with act := .probing k, st := .probing } ∧ d.cap = s.core.cap ∧
          d.focus = s.core.focus ∧ d.prof = s.core.prof := by
        subst hd; exact ⟨sig, rfl, rfl, cap, focus, congrArg (fun x : Store => x.profile.getD Profile.zero) store⟩
      obtain ⟨dsig, dtr, dpass, dcap, dfocus, dprof⟩ := kept
      rw [Core.probeStart_eq] at starts
      obtain ⟨few, many⟩ := d.probeRecord_delta (q.frame k) q.target
      generalize hw : d.probeRecord (q.frame k) q.target = w at starts few many
      have record : w.frame = q.start.getD 0 + k ∧ w.target = target ∧ w.scores = [] ∧ w.shift = 0 ∧ w.cancelled = false ∧
          w.band = focusBand s.core.prof (s.core.tr.p + 1 - (s.core.prof.gateOffset : Int)) ∧
          w.centre = probeCentre s.core.prof w.delta ((s.core.focus.choose s.core.prof w.band).1 : Int) := by
        subst hw
        refine ⟨rfl, aim, rfl, rfl, rfl, ?_, ?_⟩
        · rw [← p, ← dtr, ← dprof]; rfl
        · rw [← dfocus, ← dprof]; rfl
      obtain ⟨number, wt, scores, shift, cancelled, band, centre⟩ := record
      have at' : d.atTarget w.target = true := by
        simp [Core.atTarget, dtr, hold, wt, p, dprof, near]
      obtain ⟨m, e, small, settles, esig, etr, erm, map, commanded, ph, pr⟩ := Core.Settles.probeNext (c := d) (q := w) dsig
        (by rw [dcap]; exact stop) (by rw [dcap]; exact flyby) at'
      have epass : e.rm.pass = some { q with act := .probing k, st := .probing } := (congrArg ReqMgr.pass erm).trans dpass
      have run := State.runCore_settles (f := fun c => c.count .forward image blip edge) hr counts
        (.emit sig (by rw [arrives, starts]; exact settles)) (by omega) (Core.endDue_of_unended epass going)
      refine ⟨_, { q with act := .probing k, st := .probing }, { w with phase := ph }, congrArg Host.Outcome.next run, ?_⟩
      rw [State.leaves_tr, State.leaves_rm, State.leaves_focus, etr, dtr]
      rw [dfocus, dprof] at few many
      refine ⟨hold, none', epass, rfl, rfl, pr, number, wt, scores, shift, cancelled, band, few, many, centre, ?_, map.trans (by rw [dfocus])⟩
      rw [commanded, probePoint, scores, dprof]
      exact congrArg (clampFocus s.core.prof) (by simp; ring)

end Sys2Proof.Machine
end

section
/-! SUPPORT. A kept forward sample in MOVE, with no pulse on a lane: what the Index Unit does with it, and how the pass
answers its reports; then the entries of the index once they stand (R85, R87 to R94, R103 to R109). -/

namespace Sys2Proof.Machine

/-! ## The count that brings a kept sample -/

theorem Core.sampling_iff (c : Core) : c.sampling = true ↔ c.tr.st = .move ∧ c.tr.phase ≠ .settle ∧ c.tr.p < 16000000 ∧
    (c.tr.p + 1) % 4 = 0 ∧ c.cap.armed = none ∧ c.cap.flyby = none := by
  simp [Core.sampling, and_assoc]

/-- A count that brings a kept sample: besides the count and the sample, at most the phase and the settle count change. -/
theorem Core.count_sampled {c d : Core} {image blip edge : Nat} (h : c.sampling = true)
    (sample : (c.counted .forward).moveSample (c.tr.p + 1) image blip edge = d) (step : (c.counted .forward).IndexStep d) :
    ∃ tr : Transport, c.count .forward image blip edge = d.setTr tr ∧ tr.p = c.tr.p + 1 ∧ tr.st = .move ∧ tr.vRef = c.tr.vRef := by
  obtain ⟨move, phase, low, kept, armed, flyby⟩ := c.sampling_iff.1 h
  obtain ⟨slow, shape, -⟩ := c.counted_shape .forward
  have place : countP c.tr.p .forward = c.tr.p + 1 := by rw [countP]; omega
  have tr : d.tr = c.tr.counted .forward slow := step.tr.trans (by rw [shape]; rfl)
  have cap : d.cap = c.cap := step.cap.trans (by rw [shape]; rfl)
  have sampled : (if countP c.tr.p .forward ≠ c.tr.p ∧ countP c.tr.p .forward % 4 = 0 then
      (c.counted .forward).sample (countP c.tr.p .forward) image blip edge else c.counted .forward) = d := by
    rw [place]
    refine (if_pos ⟨by omega, kept⟩).trans ?_
    have st : (c.counted .forward).tr.st = .move := by rw [shape]; exact move
    unfold Core.sample
    rw [st]
    exact sample
  have counts : c.count .forward image blip edge = d.strobeCount.settleCheck.limitCheck :=
    congrArg (fun d : Core => d.strobeCount.settleCheck.limitCheck) sampled
  rw [Core.strobeCount_idle (by rw [cap]; exact armed) (by rw [cap]; exact flyby),
    Core.settleCheck_idle (.inr (by rw [tr]; exact phase))] at counts
  obtain ⟨ph, n, limited, -⟩ := d.limitCheck_shape
  rw [limited] at counts
  exact ⟨_, counts, by rw [tr]; exact place, by rw [tr]; exact move, by rw [tr]; rfl⟩

/-! ## A sample with no pulse on a lane -/

theorem Core.lanesQuiet_iff (c : Core) (blip edge : Nat) : c.lanesQuiet blip edge = true ↔ c.ix.blipPulse = none ∧ c.ix.edgePulse = none ∧
    differs c.prof.edgeThreshold c.ix.refBlip blip = false ∧ differs c.prof.edgeThreshold c.ix.refEdge edge = false := by
  simp [Core.lanesQuiet, and_assoc]

/-- The unit in state `u` once its detector and references have taken a sample that no lane marks. -/
def IndexUnit.sensed (x : IndexUnit) (u : UnitState) (p : Profile) (pos : Int) (image blip edge : Nat) : IndexUnit :=
  (({ x with unit := u } : IndexUnit).sense p pos image blip edge (differs p.edgeThreshold x.refImage image) false false).1

theorem Core.moveSample_quiet {c : Core} {u : UnitState} {pos : Int} {blip edge : Nat} (image : Nat) (begins : c.ix.begins = false)
    (decided : c.ix.decideUnit pos = { c.ix with unit := u }) (quiet : c.lanesQuiet blip edge = true) :
    c.moveSample pos image blip edge =
      ((c.setIx ((c.ix.sensed u c.prof pos image blip edge).raiseFrontier u pos)).edgeActs u
        (c.ix.detector.step c.prof.confirmCount pos (differs c.prof.edgeThreshold c.ix.refImage image)).2).deadlines u pos := by
  obtain ⟨blipPulse, edgePulse, unmarkedBlip, unmarkedEdge⟩ := (c.lanesQuiet_iff blip edge).1 quiet
  have going : c.ix.inMotion pos = c.ix := if_neg (by rw [begins]; decide)
  have blips (d : Core) (h : d.ix.blipPulse = none) : d.blipSample u pos false = d := by simp only [Core.blipSample, h]
  have edges (d : Core) (h : d.ix.edgePulse = none) : d.edgeSample u pos false = d := by simp only [Core.edgeSample, h]
  unfold Core.moveSample
  dsimp only
  rw [if_neg (by rw [begins]; decide), going, decided]
  dsimp only
  rw [unmarkedBlip, unmarkedEdge, blips (c.setIx { c.ix with unit := u }) blipPulse, edges (c.setIx { c.ix with unit := u }) edgePulse]
  rfl

/-- The unit's fields after a sample that no lane marks and that does not leave RESYNC. -/
theorem IndexUnit.sensed_fields {x : IndexUnit} {d : Detector} {p : Profile} {pos : Int} {image : Nat} (u : UnitState) (blip edge : Nat)
    (detector : (x.detector.step p.confirmCount pos (differs p.edgeThreshold x.refImage image)).1 = d) (st : x.detector.st ≠ .resync) :
    ∃ a b e, x.sensed u p pos image blip edge =
      { x with unit := u, refImage := a, refBlip := b, refEdge := e, detector := d } := by
  have same : (x.motion.map fun m => { m with
      leftResync := if (decide (x.detector.st = .resync) && decide (d.st = .gap)) = true then some pos else m.leftResync }) = x.motion := by
    rw [decide_eq_false st, Bool.false_and]
    cases x.motion <;> rfl
  unfold IndexUnit.sensed IndexUnit.sense
  dsimp only
  rw [detector, same]
  exact ⟨_, _, _, rfl⟩

theorem IndexUnit.inVerify_iff (x : IndexUnit) (pos : Int) : x.inVerify pos = true ↔
    x.begins = false ∧ pos ≤ x.frontier ∧ ∃ m, x.motion = some m ∧ m.extending = false ∧ m.ahead = false := by
  unfold IndexUnit.inVerify
  cases x.motion <;> simp [and_assoc]

theorem IndexUnit.decideUnit_verify {x : IndexUnit} {m : Motion} {pos : Int} (motion : x.motion = some m) (behind : m.ahead = false)
    (below : pos ≤ x.frontier) : x.decideUnit pos = { x with unit := .verify } := by
  simp only [IndexUnit.decideUnit, motion, behind, if_neg Bool.false_ne_true, if_pos below]

theorem IndexUnit.raiseFrontier_verify (x : IndexUnit) (pos : Int) : x.raiseFrontier .verify pos = x :=
  if_neg (by simp)

/-! ## How the pass answers -/

/-- A pass that looks for no frame either does not film, or is an INDEX without a target that extends. -/
theorem Core.indexesOn_filming {c : Core} (h : c.indexesOn = true) : c.filming = none ∨
    ∃ q k, c.rm.pass = some q ∧ c.filming = some q ∧ q.films = true ∧ q.ending = none ∧ q.act = .extending k ∧ q.start = none ∧
      q.req.target = .none ∧ q.req.endTarget = none := by
  unfold Core.indexesOn at h
  split at h
  · next none' => exact .inl (by rw [Core.filming, none']; rfl)
  · next q pass =>
    by_cases going : q.films = true ∧ q.ending = none
    · have filming : c.filming = some q := by simp [Core.filming, pass, going]
      refine .inr ?_
      simp only [going.1, going.2, Bool.not_true, Option.isSome_none, Bool.or_self, Bool.false_or] at h
      split at h
      · next k act =>
        simp only [Bool.and_eq_true, Option.isNone_iff_eq_none, beq_iff_eq] at h
        obtain ⟨⟨start, target⟩, last⟩ := h
        exact ⟨q, k, pass, filming, going.1, going.2, act, start, target, last⟩
      · cases h
    · refine .inl ?_
      rw [Core.filming, pass]
      simp only [Option.filter_eq_none_iff, Option.some.injEq, forall_eq', Bool.and_eq_true, Option.isNone_iff_eq_none]
      exact going

theorem Core.indexesOn_congr {c d : Core} (h : d.rm = c.rm) : d.indexesOn = c.indexesOn := by
  simp only [Core.indexesOn, h]

/-- A run that replaces an order in its direction of travel changes the transport alone. -/
theorem Core.planMoving_run {c : Core} (armed : c.cap.armed = none) (dir : Dir) (speed : Nat) (stopAt : Option Int) (extending : Bool) :
    ∃ tr : Transport, c.planMoving (.run dir speed stopAt extending) = c.setTr tr := by
  have either (b : Bool) (pl : Plan) (ph : Phase) : ∃ tr : Transport,
      (if b = true then c.brakeFor pl .runEnd else c.startLeg pl ph) = c.setTr tr := by
    cases b with
    | true => exact ⟨_, rfl⟩
    | false => exact ⟨_, Core.startLeg_disarmed armed pl ph⟩
  exact either _ _ _

/-- A run that replaces another order changes the transport, and may let a motion begin. -/
theorem Core.orderRun_moving {c : Core} (st : c.tr.st = .move) (armed : c.cap.armed = none) (dir : Dir) (speed : Nat)
    (stopAt : Option Int) (extending : Bool) :
    ∃ (tr : Transport) (b : Bool), c.orderRun dir speed stopAt extending = (c.setTr tr).setIx { c.ix with begins := b } := by
  have accepts : c.tr.st.acceptsMoves = true := by rw [st]; rfl
  have accepted : c.orderRun dir speed stopAt extending = c.replaceOrder (.run dir speed stopAt extending) := by
    rw [Core.orderRun, if_pos accepts, Core.acceptOrder, st]
  rw [accepted]
  unfold Core.replaceOrder
  dsimp only
  generalize hd : c.setTr { c.tr with stopWaits := false } = d
  have frame : (∃ tr, d = c.setTr tr) ∧ d.cap.armed = none := by subst hd; exact ⟨⟨_, rfl⟩, armed⟩
  obtain ⟨⟨tr, frame⟩, disarmed⟩ := frame
  split
  · have planned := (Core.planFromRest_disarmed disarmed (.run dir speed stopAt extending) false).frame
    generalize d.planFromRest (.run dir speed stopAt extending) false = e at planned
    exact ⟨e.tr, true, planned.trans (by rw [frame]; rfl)⟩
  · split
    · obtain ⟨tr', planned⟩ := Core.planMoving_run disarmed dir speed stopAt extending
      exact ⟨tr', c.ix.begins, planned.trans (by rw [frame]; rfl)⟩
    · generalize hb : d.brakeFor _ _ = b
      have braked : ∃ tr', b = d.setTr tr' := ⟨_, hb.symm⟩
      obtain ⟨tr', braked⟩ := braked
      exact ⟨tr', c.ix.begins, braked.trans (by rw [frame]; rfl)⟩

/-- A truncation met in MOVE by a pass that looks for no frame: only its order, and the pass, may change. -/
theorem Core.passTruncated_indexing {c : Core} (h : c.indexesOn = true) (st : c.tr.st = .move) (armed : c.cap.armed = none)
    (due : c.endDue = false) (first : Nat) : ∃ (rm : ReqMgr) (tr : Transport) (b : Bool),
      c.passTruncated first = ((c.setRm rm).setTr tr).setIx { c.ix with begins := b } ∧
      (((c.setRm rm).setTr tr).setIx { c.ix with begins := b }).endDue = false := by
  have still : c = ((c.setRm c.rm).setTr c.tr).setIx { c.ix with begins := c.ix.begins } := rfl
  rcases Core.indexesOn_filming h with idle | ⟨q, k, pass, filming, -, going, act, start, -, -⟩
  · exact ⟨c.rm, c.tr, c.ix.begins, by rw [Core.passTruncated, idle]; rfl, due⟩
  · have kept : q.startLost first = false := by simp [Pass.startLost, start]
    unfold Core.passTruncated
    rw [filming]
    dsimp only
    rw [if_neg (by rw [kept]; decide), act]
    dsimp only
    split
    · unfold Core.passExtend
      dsimp only
      split
      · obtain ⟨tr, b, ordered⟩ := Core.orderRun_moving (c := c.setPass { q with act := .backToFrontier k, st := .extending }) st armed .reverse
          c.prof.shuttleSpeed (some (c.ix.frontier - (c.prof.approach : Int))) false
        exact ⟨_, tr, b, ordered, Core.endDue_of_unended rfl going⟩
      · obtain ⟨tr, b, ordered⟩ := Core.orderRun_moving (c := c.setPass { q with act := .extending k, st := .extending }) st armed .forward
          c.prof.shuttleSpeed none true
        exact ⟨_, tr, b, ordered, Core.endDue_of_unended rfl going⟩
    · exact ⟨c.rm, c.tr, c.ix.begins, rfl, due⟩

/-- A truncation in MOVE, with no transfer of the Index Porter under way, settles in one report. -/
theorem State.runCore_truncated {s : State} {f : Core → Core} {d : Core} {first : Nat} (hr : s.ready = true)
    (hf : f s.core = d.emit (.truncated first)) (sig : d.sig = []) (indexing : d.indexesOn = true) (st : d.tr.st = .move)
    (armed : d.cap.armed = none) (idle : d.porter.job = .idle) (due : d.endDue = false) : ∃ (rm : ReqMgr) (tr : Transport) (b : Bool),
      s.runCore f = s.leaves (((d.setRm rm).setTr tr).setIx { d.ix with begins := b }) := by
  obtain ⟨rm, tr, b, told, due'⟩ := Core.passTruncated_indexing indexing st armed due first
  have kept : d.porterTruncated first = d := by simp only [Core.porterTruncated, idle]
  exact ⟨rm, tr, b, State.runCore_emit hr hf sig (by rw [Core.handle, kept, told]) sig due'⟩

/-! ## A capture's report (R109) -/

/-- An entry with a completed capture, and its score where the capture was focus-valid. -/
def Entry.withCapture (e : Entry) (judged : Option (Nat × Bool)) : Entry :=
  { e with
    captured := true, captureCount := min (e.captureCount + 1) 255
    score := if judged = none then e.score else judged.map (·.1), soft := (judged.map (·.2)).getD e.soft }

theorem IndexUnit.captureReport_of_entry {x : IndexUnit} {n : Nat} {e : Entry} (low : 1 ≤ n) (at' : x.entries[n - 1]? = some e)
    (judged : Option (Nat × Bool)) :
    x.captureReport n e.lead judged = { x with entries := setAt x.entries (n - 1) (e.withCapture judged) } := by
  have entry : x.entry n = some e := (if_neg (by omega)).trans at'
  rw [IndexUnit.captureReport, entry]
  refine (if_pos rfl).trans ?_
  cases judged <;> rfl

theorem IndexUnit.captureReport_of_other {x : IndexUnit} {n : Nat} {lead : Int} (judged : Option (Nat × Bool))
    (h : n = 0 ∨ ∀ e, x.entries[n - 1]? = some e → e.lead ≠ lead) : x.captureReport n lead judged = x := by
  unfold IndexUnit.captureReport
  split
  · next e entry =>
    rw [IndexUnit.entry] at entry
    split at entry
    · cases entry
    · next low => exact if_neg (h.resolve_left low e entry)
  · rfl

/-! ## Edges (R89) -/

theorem Detector.step_leading {confirm n : Nat} (f pos : Int) (full : n + 1 = confirm) :
    Detector.step { st := .gap, run := some (f, n) } confirm pos true = ({ st := .frame, run := none }, some (true, f)) := by
  simp [Detector.step, growRun, full]

theorem Detector.step_gap (confirm : Nat) (pos : Int) (run : Option (Int × Nat)) :
    Detector.step { st := .gap, run := run } confirm pos false = ({ st := .gap, run := none }, none) := rfl

/-! ## The nearest entry (R103) -/

theorem nearestEntry_keeps {o : Int} {b : Nat × Entry} {l : List Entry} (n : Nat) (h : ∀ e ∈ l, |o - b.2.lead| ≤ |o - e.lead|) :
    nearestEntry o n (some b) l = some b := by
  induction l generalizing n with
  | nil => rfl
  | cons e l ih =>
    have worse : decide (|o - e.lead| < |o - b.2.lead|) = false := decide_eq_false (not_lt.2 (h e List.mem_cons_self))
    unfold nearestEntry
    dsimp only
    rw [worse, if_neg Bool.false_ne_true]
    exact ih (n + 1) fun e' he => h e' (List.mem_cons_of_mem _ he)

/-- An entry nearer than each other one is the nearest. -/
theorem nearestEntry_eq {o : Int} {e : Entry} {l : List Entry} {j : Nat} (n : Nat) {best : Option (Nat × Entry)}
    (at' : l[j]? = some e) (others : ∀ i g, i ≠ j → l[i]? = some g → |o - e.lead| < |o - g.lead|)
    (before : ∀ b, best = some b → |o - e.lead| < |o - b.2.lead|) : nearestEntry o n best l = some (n + j, e) := by
  induction l generalizing n j best with
  | nil => simp at at'
  | cons g l ih =>
    cases j with
    | zero =>
      obtain rfl : g = e := by simpa using at'
      have nearer : nearestEntry o n best (g :: l) = nearestEntry o (n + 1) (some (n, g)) l := by
        cases best with
        | none => rfl
        | some b => exact congrArg (nearestEntry o (n + 1) · l) (if_pos (decide_eq_true (before b rfl)))
      rw [nearer]
      refine nearestEntry_keeps (n + 1) fun e' he => ?_
      obtain ⟨i, there⟩ := List.mem_iff_getElem?.1 he
      exact le_of_lt (others (i + 1) e' (by omega) (by simpa using there))
    | succ j =>
      have far : |o - e.lead| < |o - g.lead| := others 0 g (by omega) rfl
      obtain ⟨best', step, before'⟩ : ∃ best', nearestEntry o n best (g :: l) = nearestEntry o (n + 1) best' l ∧
          ∀ b, best' = some b → |o - e.lead| < |o - b.2.lead| := by
        cases best with
        | none => exact ⟨some (n, g), rfl, by rintro b ⟨⟩; exact far⟩
        | some b =>
          by_cases better : |o - g.lead| < |o - b.2.lead|
          · exact ⟨some (n, g), congrArg (nearestEntry o (n + 1) · l) (if_pos (decide_eq_true better)), by rintro b ⟨⟩; exact far⟩
          · refine ⟨some b, congrArg (nearestEntry o (n + 1) · l) (if_neg ?_), before⟩
            rw [decide_eq_true_eq]
            exact better
      rw [step, show n + (j + 1) = n + 1 + j by omega]
      exact ih (n + 1) (by simpa using at') (fun i g' ne there => others (i + 1) g' (by omega) (by simpa using there)) before'

/-! ## Verifying (R103, R104, R106, R107) -/

/-- A leading edge at the nearest entry, in the Drift Window, that was not matched before in the motion. -/
theorem Core.verifyLeading_matches {c : Core} {m : Motion} {f : Int} {j : Nat} {e : Entry} (wake : c.ix.wake = false)
    (motion : c.ix.motion = some m) (apart : ∀ l, m.lastEdge = some l → (c.prof.minPitch : Int) ≤ f - l)
    (at' : c.ix.entries[j]? = some e) (near : |f - e.lead| ≤ (c.prof.driftWindow : Int))
    (nearest : ∀ i g, i ≠ j → c.ix.entries[i]? = some g → |f - e.lead| < |f - g.lead|) (fresh : (j + 1) ∉ m.matched) :
    c.verifyLeading f = (c.setIx (c.ix.matchEntry (j + 1) e f)).emit (.matched (j + 1)) := by
  have same : ({ c.ix with wake := false } : IndexUnit) = c.ix := by rw [← wake]
  have unmatched : m.matched.contains (j + 1) = false := by simpa using fresh
  have found : (nearestEntry f 1 none c.ix.entries).filter (fun q =>
      decide (|f - q.2.lead| ≤ (c.prof.driftWindow : Int)) && (c.ix.wake || !m.matched.contains q.1)) = some (j + 1, e) := by
    rw [nearestEntry_eq 1 at' nearest (by rintro b ⟨⟩), Nat.add_comm 1 j]
    simp [near, fresh]
  unfold Core.verifyLeading
  dsimp only
  rw [same, show c.setIx c.ix = c from rfl, motion]
  dsimp only
  refine (if_neg ?_).trans ?_
  · cases last : m.lastEdge with
    | none => exact Bool.false_ne_true
    | some l => simpa using apart l last
  · rw [found]
    exact if_neg (by rw [unmatched]; decide)

/-- `c` is `b` at a kept sample in VERIFY that has left its detector at `det`, before an edge or an entry acts. -/
structure Core.Verified (b : Core) (det : Detector) (c : Core) : Prop where
  frame : c = { b with tr := c.tr, ix := c.ix }
  place : c.tr.p = b.tr.p + 1
  ix : ∃ image blip edge, c.ix = { b.ix with
    unit := .verify, refImage := image, refBlip := blip, refEdge := edge, detector := det }
  step : (b.counted .forward).IndexStep c

theorem Core.moveSample_verify {b : Core} {image blip edge : Nat} {det : Detector} {ev : Option (Bool × Int)} (sampling : b.sampling = true)
    (verify : b.ix.inVerify (b.tr.p + 1) = true) (quiet : b.lanesQuiet blip edge = true) (st : b.ix.detector.st ≠ .resync)
    (stepped : b.ix.detector.step b.prof.confirmCount (b.tr.p + 1) (differs b.prof.edgeThreshold b.ix.refImage image) = (det, ev)) :
    ∃ c, b.Verified det c ∧ (b.counted .forward).moveSample (b.tr.p + 1) image blip edge =
      (c.edgeActs .verify ev).deadlines .verify (b.tr.p + 1) := by
  obtain ⟨-, -, low, -⟩ := b.sampling_iff.1 sampling
  obtain ⟨begins, below, m, motion, -, behind⟩ := (b.ix.inVerify_iff _).1 verify
  obtain ⟨slow, counted, -⟩ := b.counted_shape .forward
  have ix : (b.counted .forward).ix = b.ix := by rw [counted]; rfl
  have prof : (b.counted .forward).prof = b.prof := by rw [counted]; rfl
  have sampled := Core.moveSample_quiet (c := b.counted .forward) (u := .verify) (pos := b.tr.p + 1) (blip := blip) (edge := edge) image
    (by rw [ix]; exact begins) (by rw [ix]; exact IndexUnit.decideUnit_verify motion behind below) (by rw [counted]; exact quiet)
  obtain ⟨i, bl, ed, sensed⟩ := IndexUnit.sensed_fields (x := b.ix) (d := det) (p := b.prof) (pos := b.tr.p + 1) (image := image) .verify
    blip edge (by rw [stepped]) st
  rw [ix, prof, IndexUnit.raiseFrontier_verify, sensed, stepped] at sampled
  refine ⟨_, ⟨?_, ?_, ⟨i, bl, ed, rfl⟩, ⟨rfl, ?_⟩⟩, sampled⟩
  · rw [counted]; rfl
  · rw [counted]
    change countP b.tr.p .forward = b.tr.p + 1
    rw [countP]; omega
  · rw [ix]; rfl

theorem Core.deadlines_verify {c : Core} {m : Motion} (motion : c.ix.motion = some m) (stays : m.extending = false)
    (behind : m.ahead = false) (pos : Int) : c.deadlines .verify pos = c.missingTest pos := by
  unfold Core.deadlines
  dsimp only
  rw [motion]
  dsimp only
  rw [stays, behind, Bool.or_self, if_neg Bool.false_ne_true]

/-- The tests that are due at a sample, where none has come due since the last. -/
theorem Core.missingTest_none {c : Core} {m : Motion} {pos : Int} {j : Nat} {e : Entry} (motion : c.ix.motion = some m)
    (tested : m.tested = j) (at' : c.ix.entries[j]? = some e)
    (early : pos < e.lead + c.prof.driftWindow + 4 * (c.prof.confirmCount : Int)) : c.missingTest pos = c.setIx { c.ix with motion := some m } := by
  have rest : c.ix.entries.drop m.tested = e :: c.ix.entries.drop (j + 1) := by
    rw [tested]
    obtain ⟨h, rfl⟩ := List.getElem?_eq_some_iff.1 at'
    exact List.drop_eq_getElem_cons h
  unfold Core.missingTest
  dsimp only
  rw [motion]
  dsimp only
  rw [rest]
  unfold firstMissing
  rw [if_neg (not_le.2 early)]

/-- An entry whose mark has not come by its deadline is a mismatch. -/
theorem Core.missingTest_miss {c : Core} {m : Motion} {pos r : Int} {j : Nat} {e : Entry} (motion : c.ix.motion = some m)
    (tested : m.tested = j) (at' : c.ix.entries[j]? = some e)
    (due : e.lead + c.prof.driftWindow + 4 * (c.prof.confirmCount : Int) ≤ pos) (origin : e.origin ≠ .predicted)
    (began : m.start ≤ e.lead - c.prof.driftWindow) (left : m.leftResync = some r) (seen : r ≤ e.lead - c.prof.driftWindow)
    (wake : c.ix.wake = false) (unmatched : (j + 1) ∉ m.matched) :
    c.missingTest pos = (c.setIx { c.ix with motion := some { m with tested := j + 1 } }).mismatch (j + 1) := by
  have rest : c.ix.entries.drop m.tested = e :: c.ix.entries.drop (j + 1) := by
    rw [tested]
    obtain ⟨h, rfl⟩ := List.getElem?_eq_some_iff.1 at'
    exact List.drop_eq_getElem_cons h
  have missed : firstMissing c.prof.driftWindow (4 * (c.prof.confirmCount : Int)) pos m.start m.leftResync c.ix.wake m.matched m.tested
      (c.ix.entries.drop m.tested) = (j + 1, some (j + 1)) := by
    rw [rest]
    unfold firstMissing
    rw [if_pos due, left, tested]
    exact if_neg (by simp [origin, wake, unmatched, seen, began])
  unfold Core.missingTest
  dsimp only
  rw [motion]
  dsimp only
  rw [missed]

theorem Core.mismatch_truncates {c : Core} {j : Nat} (h : c.ix.importStatus ≠ .unconfirmed ∨ c.ix.importCount + 1 < j) :
    c.mismatch j = c.truncate j := by
  refine if_neg fun both => ?_
  rcases h with h | h
  · exact h both.1
  · omega

theorem Core.mismatch_discards {c : Core} {j : Nat} (status : c.ix.importStatus = .unconfirmed) (within : j ≤ c.ix.importCount + 1) :
    c.mismatch j = c.discardImport := if_pos ⟨status, within⟩

/-- `d` is `b` with its index truncated, or emptied, before the report. -/
structure Core.Cut (b d : Core) (l : List Entry) (left : Int) (e : FaultEntry) : Prop where
  frame : d = { b with ix := d.ix, out := b.out ++ [.fault e] }
  stamp : d.ix.exportStamp = b.ix.exportStamp
  entries : d.ix.entries = l
  frontier : d.ix.frontier = (l.getLast?.map (·.trail)).getD 0
  drift : d.ix.drift = left

theorem Core.truncate_cut (b : Core) (j : Nat) : ∃ d, b.truncate (j + 1) = d.emit (.truncated (j + 1)) ∧
    b.Cut d (b.ix.entries.take j) (if j = 0 then 0 else b.ix.drift) ⟨.indexTruncated, .indexUnit,
      BitVec.ofNat 24 (b.ix.entries.length - j), BitVec.ofInt 28 b.tr.p⟩ := by
  have removed : b.ix.count - (b.ix.entries.take j).length = b.ix.entries.length - j := by
    rw [IndexUnit.count, List.length_take]; omega
  refine ⟨_, rfl, ?_, rfl, rfl, rfl, if_congr (by omega) rfl rfl⟩
  rw [← removed]
  rfl

theorem Core.discardImport_cut (b : Core) : ∃ d, b.discardImport = d.emit (.truncated 1) ∧
    b.Cut d [] 0 ⟨.importRejected, .indexUnit, 8, BitVec.ofInt 28 b.tr.p⟩ ∧ d.ix.importStatus = .none ∧ d.ix.importCount = 0 :=
  ⟨_, rfl, ⟨rfl, rfl, rfl, rfl, rfl⟩, rfl, rfl⟩

/-- A sample of a motion in VERIFY that cuts the index: the report settles, and leaves the index so. -/
theorem State.count_cut {s : State} {image blip edge first : Nat} {b d : Core} {l : List Entry} {drift : Int} {e : FaultEntry}
    (hr : s.ready = true) (sampling : s.core.sampling = true) (indexing : s.core.indexesOn = true) (idle : s.core.porter.job = .idle)
    (sampled : (s.core.counted .forward).moveSample (s.core.tr.p + 1) image blip edge = d.emit (.truncated first))
    (step : (s.core.counted .forward).IndexStep b) (sig : b.sig = []) (out : b.out = []) (cut : b.Cut d l drift e) :
    ∃ t, exec (.meteringCount .forward image blip edge) s = .next t ∧ t.core.ix.entries = l ∧
      t.core.ix.frontier = (l.getLast?.map (·.trail)).getD 0 ∧ t.core.ix.drift = drift ∧
      t.core.ix.importStatus = d.ix.importStatus ∧ t.core.ix.importCount = d.ix.importCount ∧ t.front.faults = s.front.queued e := by
  obtain ⟨-, -, -, -, armed, -⟩ := s.core.sampling_iff.1 sampling
  obtain ⟨slow, counted, -⟩ := s.core.counted_shape .forward
  obtain ⟨frame, stamp, entries, frontier, drifts⟩ := cut
  have sent : d.sig = [] ∧ d.out = [.fault e] ∧ d.rm = s.core.rm ∧ d.cap = s.core.cap ∧ d.porter = s.core.porter := by
    rw [frame]
    refine ⟨sig, ?_, ?_, ?_, ?_⟩
    · rw [out]; rfl
    · exact step.rm.trans (by rw [counted]; rfl)
    · exact step.cap.trans (by rw [counted]; rfl)
    · exact step.porter.trans (by rw [counted]; rfl)
  obtain ⟨dsig, dout, rm, cap, porter⟩ := sent
  obtain ⟨tr, counts, -, move, -⟩ := Core.count_sampled sampling sampled (step.trans ⟨by rw [frame]; rfl, stamp⟩)
  obtain ⟨rm', tr', b', run⟩ := State.runCore_truncated (f := fun c => c.count .forward image blip edge) (d := d.setTr tr) hr counts dsig
    ((Core.indexesOn_congr rm).trans indexing) move (by rw [← armed, ← cap]; rfl) (by rw [← idle, ← porter]; rfl)
    ((Core.endDue_congr rm cap).trans (s.ready_endDue hr))
  exact ⟨_, congrArg Host.Outcome.next run, entries, frontier, drifts, rfl, rfl, State.leaves_fault _ dout⟩

/-- Settles O47. -/
theorem captureReportsMarkEntries : Obligations.CaptureReportsMarkEntries := by
  refine ⟨fun x n lead judged => ⟨fun e low at' same => ?_, x.captureReport_of_other judged⟩,
    fun image blip edge p x pos m j e s hr sampling indexing hp hx place verify quiet motion wake at' tested fresh => ?_⟩
  · subst same
    have there : n - 1 < x.entries.length := (List.getElem?_eq_some_iff.1 at').1
    rw [IndexUnit.captureReport_of_entry low at' judged]
    refine ⟨e.withCapture judged, (getElem?_setAt _ _ _ _).trans (if_pos ⟨rfl, there⟩), rfl, rfl, ?_, ?_, rfl, fun i ne => ?_, rfl⟩
    · rintro v soft rfl
      exact ⟨rfl, rfl⟩
    · rintro rfl
      exact ⟨rfl, rfl⟩
    · exact (getElem?_setAt _ _ _ _).trans (if_neg fun h => ne h.1)
  · subst hp hx place
    obtain ⟨-, -, m', motion', stays, behind⟩ := (s.core.ix.inVerify_iff _).1 verify
    cases motion.symm.trans motion'
    refine ⟨fun f n detector full mark early apart near nearest => ?_, fun r detector gap idle due origin began left seen => ?_⟩
    · obtain ⟨c, ⟨frame, place, ⟨i, bl, ed, ix⟩, step⟩, sampled⟩ := Core.moveSample_verify (image := image) sampling verify quiet
        (by rw [detector]; exact DetState.noConfusion) (by rw [detector, mark, Detector.step_leading _ _ full])
      have prof : c.prof = s.core.prof := by rw [frame]; rfl
      have entries : c.ix.entries = s.core.ix.entries := by rw [ix]
      have cmotion : c.ix.motion = some m := by rw [ix]; exact motion
      have csig : c.sig = [] := by rw [frame]; exact s.ready_sig hr
      have cout : c.out = [] := by rw [frame]; exact s.ready_out hr
      have due : c.endDue = false := (Core.endDue_congr (by rw [frame]) (by rw [frame])).trans (s.ready_endDue hr)
      rw [← prof] at apart near early
      rw [← entries] at at' nearest
      have acts : c.edgeActs .verify (some (true, f)) = (c.setIx (c.ix.matchEntry (j + 1) e f)).emit (.matched (j + 1)) :=
        Core.verifyLeading_matches (by rw [ix]; exact wake) cmotion apart at' near nearest fresh
      have matched : (c.ix.matchEntry (j + 1) e f).motion = some { m with matched := (j + 1) :: m.matched, lastEdge := some f } :=
        congrArg (Option.map _) cmotion
      have last := (Core.deadlines_verify (c := (c.setIx (c.ix.matchEntry (j + 1) e f)).emit (.matched (j + 1))) matched
        (by exact stays) (by exact behind) (s.core.tr.p + 1)).trans (Core.missingTest_none (e := e) matched tested at' early)
      obtain ⟨tr, counts, -⟩ := Core.count_sampled sampling (sampled.trans ((congrArg (Core.deadlines · _ _) acts).trans last))
        (step.trans ⟨rfl, rfl⟩)
      have run := State.runCore_emit (f := fun c => c.count .forward image blip edge) (c := (c.setIx { c.ix.matchEntry (j + 1) e f with
        motion := some { m with matched := (j + 1) :: m.matched, lastEdge := some f } }).setTr tr) hr counts csig rfl csig due
      refine ⟨_, { m with matched := (j + 1) :: m.matched, lastEdge := some f }, congrArg Host.Outcome.next run, ?_, ?_,
        rfl, rfl, rfl, ?_, ?_, ?_, s.leaves_front cout⟩
      · exact entries
      · exact (congrArg IndexUnit.frontier ix).trans rfl
      · rw [show s.core.ix.drift = c.ix.drift by rw [ix]]; rfl
      · rw [show s.core.ix.importStatus = c.ix.importStatus by rw [ix], show s.core.ix.importCount = c.ix.importCount by rw [ix]]; rfl
      · exact (congrArg Core.rm frame).trans rfl
    · obtain ⟨c, ⟨frame, place, ⟨i, bl, ed, ix⟩, step⟩, sampled⟩ := Core.moveSample_verify (image := image) sampling verify quiet
        (by rw [detector]; exact DetState.noConfusion) (by rw [detector, gap, Detector.step_gap])
      have prof : c.prof = s.core.prof := by rw [frame]; rfl
      have entries : c.ix.entries = s.core.ix.entries := by rw [ix]
      have cmotion : c.ix.motion = some m := by rw [ix]; exact motion
      have csig : c.sig = [] := by rw [frame]; exact s.ready_sig hr
      have cout : c.out = [] := by rw [frame]; exact s.ready_out hr
      rw [← prof] at due began seen
      rw [← entries] at at'
      have missed := (Core.deadlines_verify (c := c) cmotion stays behind (s.core.tr.p + 1)).trans
        (Core.missingTest_miss cmotion tested at' due origin began left seen (by rw [ix]; exact wake) fresh)
      generalize hb : c.setIx { c.ix with motion := some { m with tested := j + 1 } } = b at missed
      have fields : b.ix.entries = s.core.ix.entries ∧ b.ix.drift = s.core.ix.drift ∧ b.ix.importStatus = s.core.ix.importStatus ∧
          b.ix.importCount = s.core.ix.importCount ∧ b.sig = [] ∧ b.out = [] ∧ b.tr.p = s.core.tr.p + 1 ∧ c.IndexStep b := by
        rw [← hb]
        refine ⟨entries, ?_, ?_, ?_, csig, cout, place, ⟨rfl, rfl⟩⟩
        · exact (congrArg IndexUnit.drift ix).trans rfl
        · exact (congrArg IndexUnit.importStatus ix).trans rfl
        · exact (congrArg IndexUnit.importCount ix).trans rfl
      obtain ⟨bentries, drift, status, imports, bsig, bout, bplace, step'⟩ := fields
      refine ⟨fun confirmed => ?_, fun unconfirmed within => ?_⟩
      · rw [Core.mismatch_truncates (by rw [status, imports]; exact confirmed)] at missed
        obtain ⟨d, cuts, cut⟩ := b.truncate_cut j
        obtain ⟨t, run, l, frontier, drifts, -, -, faults⟩ := State.count_cut hr sampling indexing idle
          (sampled.trans (missed.trans cuts)) (step.trans step') bsig bout cut
        rw [bentries] at l frontier faults
        rw [drift] at drifts
        rw [bplace] at faults
        exact ⟨t, run, l, frontier, drifts, faults⟩
      · rw [Core.mismatch_discards (by rw [status]; exact unconfirmed) (by rw [imports]; exact within)] at missed
        obtain ⟨d, cuts, cut, none', zero⟩ := b.discardImport_cut
        obtain ⟨t, run, l, frontier, drifts, status', imports', faults⟩ := State.count_cut hr sampling indexing idle
          (sampled.trans (missed.trans cuts)) (step.trans step') bsig bout cut
        rw [bplace] at faults
        exact ⟨t, run, l, frontier, drifts, status'.trans none', imports'.trans zero, faults⟩

end Sys2Proof.Machine
end

section
/-! SUPPORT. A merged frame's trailing edge in EXTEND whose sample also predicts the 16,384th entry: an INDEX that has no
target ends at once, with the film not yet begun to move, and the end of its motion drops the pulse that was pending
(R96, R98, R99, R108, R157, R166). -/

namespace Sys2Proof.Machine

/-! ## A sample in EXTEND -/

theorem IndexUnit.inExtend_iff (x : IndexUnit) (pos : Int) : x.inExtend pos = true ↔
    x.begins = false ∧ x.full = false ∧ x.lost = false ∧ x.frontier < pos ∧ ∃ m, x.motion = some m ∧ m.extending = true ∧ m.ahead = false := by
  unfold IndexUnit.inExtend
  cases x.motion <;> simp [and_assoc]

theorem IndexUnit.decideUnit_extend {x : IndexUnit} {m : Motion} {pos : Int} (motion : x.motion = some m) (extends' : m.extending = true)
    (behind : m.ahead = false) (beyond : x.frontier < pos) (room : x.full = false) (found : x.lost = false) :
    x.decideUnit pos = { x with unit := .extend } := by
  simp only [IndexUnit.decideUnit, motion, behind, if_neg Bool.false_ne_true, if_neg (not_le.2 beyond), room, if_pos extends', found]

/-- `c` is `b` at a kept sample in EXTEND that has left its detector at `det`, before an edge or a deadline acts. -/
structure Core.Extended (b : Core) (det : Detector) (c : Core) : Prop where
  frame : c = { b with tr := c.tr, ix := c.ix }
  ix : ∃ frontier image blip edge, c.ix = { b.ix with
    unit := .extend, refImage := image, refBlip := blip, refEdge := edge, detector := det, frontier := frontier }
  step : (b.counted .forward).IndexStep c

theorem Core.moveSample_extend {b : Core} {image blip edge : Nat} {det : Detector} {ev : Option (Bool × Int)}
    (extend : b.ix.inExtend (b.tr.p + 1) = true) (quiet : b.lanesQuiet blip edge = true) (st : b.ix.detector.st ≠ .resync)
    (stepped : b.ix.detector.step b.prof.confirmCount (b.tr.p + 1) (differs b.prof.edgeThreshold b.ix.refImage image) = (det, ev)) :
    ∃ c, b.Extended det c ∧ (b.counted .forward).moveSample (b.tr.p + 1) image blip edge =
      (c.edgeActs .extend ev).deadlines .extend (b.tr.p + 1) := by
  obtain ⟨begins, room, found, beyond, m, motion, extends', behind⟩ := (b.ix.inExtend_iff _).1 extend
  obtain ⟨slow, counted, -⟩ := b.counted_shape .forward
  have ix : (b.counted .forward).ix = b.ix := by rw [counted]; rfl
  have prof : (b.counted .forward).prof = b.prof := by rw [counted]; rfl
  have sampled := Core.moveSample_quiet (c := b.counted .forward) (u := .extend) (pos := b.tr.p + 1) (blip := blip) (edge := edge) image
    (by rw [ix]; exact begins) (by rw [ix]; exact IndexUnit.decideUnit_extend motion extends' behind beyond room found)
    (by rw [counted]; exact quiet)
  obtain ⟨i, bl, ed, sensed⟩ := IndexUnit.sensed_fields (x := b.ix) (d := det) (p := b.prof) (pos := b.tr.p + 1) (image := image) .extend
    blip edge (by rw [stepped]) st
  rw [ix, prof, sensed, stepped] at sampled
  generalize hx : ({ b.ix with unit := .extend, refImage := i, refBlip := bl, refEdge := ed, detector := det } : IndexUnit) = x at sampled
  have raised : ∃ frontier, x.raiseFrontier .extend (b.tr.p + 1) = { x with frontier := frontier } := by
    unfold IndexUnit.raiseFrontier
    split
    · exact ⟨_, rfl⟩
    · exact ⟨x.frontier, rfl⟩
  obtain ⟨frontier, raised⟩ := raised
  rw [raised] at sampled
  refine ⟨_, ⟨?_, ⟨frontier, i, bl, ed, ?_⟩, ⟨rfl, ?_⟩⟩, sampled⟩
  · rw [counted]; rfl
  · rw [← hx]; rfl
  · rw [ix, ← hx]; rfl

/-! ## The trailing edge and the deadline (R96, R98) -/

theorem Detector.step_trailing {confirm n : Nat} (f pos : Int) (full : n + 1 = confirm) :
    Detector.step { st := .frame, run := some (f, n) } confirm pos false = ({ st := .gap, run := none }, some (false, f)) := by
  simp [Detector.step, growRun, full]

theorem Core.extendTrailing_merged {c : Core} {o : OpenFrame} (opened : c.ix.openFrame = some o) (merged : o.merged = true)
    (blip : o.blip = none) (f : Int) : c.extendTrailing f = (c.setIx { c.ix with
      openFrame := none, entries := modAt c.ix.entries (c.ix.count - 1) (mergeInto c.prof f) }).emit (.merged c.ix.count) := by
  unfold Core.extendTrailing
  rw [opened]
  dsimp only
  rw [if_pos merged, blip]
  rfl

theorem getLast?_modAt_last {α : Type} (l : List α) (a : α) (f : α → α) :
    (modAt (l ++ [a]) ((l ++ [a]).length - 1) f).getLast? = some (f a) ∧
    (modAt (l ++ [a]) ((l ++ [a]).length - 1) f).length = l.length + 1 := by
  have last : (l ++ [a])[(l ++ [a]).length - 1]? = some a := by simp
  unfold modAt
  rw [last]
  dsimp only
  rw [length_setAt, List.getLast?_eq_getElem?, length_setAt, getElem?_setAt]
  simp

/-- `d` is `c` with the 16,384th entry appended, but for the two reports. -/
structure Core.Filled (c d : Core) : Prop where
  step : c.IndexStep d
  sig : d.sig = c.sig
  waiting : d.ix.waitingFrame = none
  motion : ∃ m, d.ix.motion = some m

theorem Core.appendEntry_fills {c : Core} {m : Motion} (motion : c.ix.motion = some m) (full : c.ix.entries.length = 16383) (e : Entry) :
    ∃ d n, c.appendEntry e = (d.emit (.appended n)).emit .indexFull ∧ c.Filled d := by
  have many : 16384 ≤ c.ix.count + 1 := by rw [IndexUnit.count, full]
  exact ⟨(c.setIx { c.ix with
      entries := c.ix.entries ++ [e], motion := c.ix.motion.map fun m => { m with deadlineDone := false }, splicePending := false
      full := true, openFrame := none, waitingFrame := none }).fault .indexFull .indexUnit 16384 (auxPosition c.ix.frontier),
    c.ix.count + 1, (if_pos many).trans rfl, ⟨rfl, rfl⟩, rfl, rfl, _, congrArg (Option.map _) motion⟩

/-- The prediction that makes the index full. -/
theorem Core.predict_fills {c : Core} {pos q : Int} {l : Entry} {m : Motion} (last : c.ix.entries.getLast? = some l) (pitch : c.ix.pitch = some q)
    (motion : c.ix.motion = some m) (fresh : m.deadlineDone = false) (due : l.lead + q + 8 * (c.prof.confirmCount : Int) ≤ pos)
    (detector : c.ix.detector = { st := .gap, run := none }) (waiting : c.ix.waitingFrame = none) (few : c.ix.predictedRun < 3)
    (full : c.ix.entries.length = 16383) : ∃ d n, c.predict pos = (d.emit (.appended n)).emit .indexFull ∧ c.Filled d := by
  have due' : (!m.deadlineDone && decide (l.lead + q + 8 * (c.prof.confirmCount : Int) ≤ pos)) = true := by simp [fresh, due]
  unfold Core.predict
  dsimp only
  rw [show c.ix.last = some l from last, pitch, motion]
  dsimp only
  rw [if_pos due', if_neg (by rw [detector, waiting]; decide), if_pos few]
  generalize hd : ((c.setIx _).setIx _ : Core) = d
  obtain ⟨e, n, fills, step, sig, waiting, going⟩ := Core.appendEntry_fills (c := d) (m := { m with deadlineDone := true })
    (by rw [← hd]; rfl) (by rw [← hd]; exact full) _
  have step' : c.IndexStep d := by rw [← hd]; exact ⟨rfl, rfl⟩
  exact ⟨e, n, fills, step'.trans step, sig.trans (by rw [← hd]; rfl), waiting, going⟩

/-! ## The end of an INDEX that finds the index full (R157, R166) -/

/-- An INDEX that extends without a target counts an append, and looks for no frame in it. -/
theorem Core.passAppended_indexing {c : Core} {q : Pass} {k : Nat} (pass : c.rm.pass = some q) (films : q.films = true) (going : q.ending = none)
    (act : q.act = .extending k) (start : q.start = none) (target : q.req.target = .none) (n : Nat) :
    c.passAppended n = c.setPass { q with indexed := q.indexed + 1 } := by
  generalize hw : ({ q with indexed := q.indexed + 1 } : Pass) = w
  have fields : w.ending = none ∧ w.act = .extending k ∧ w.start = none ∧ w.req.target = .none := by
    subst hw; exact ⟨going, act, start, target⟩
  obtain ⟨wgoing, wact, wstart, wtarget⟩ := fields
  have unsized (d : Core) : d.sized w = w := by
    unfold Core.sized
    split
    · next s t _ found _ => exact nomatch wstart.symm.trans found
    · rfl
  have lost (d : Core) : d.appendFound w n = false := by
    unfold Core.appendFound
    split
    · rw [wtarget]; rfl
    · rfl
  unfold Core.passAppended
  rw [pass]
  dsimp only
  rw [films, if_neg (by decide), if_neg (by rw [going]; decide), hw, unsized, wact, wstart]
  dsimp only
  rw [lost, if_neg Bool.false_ne_true]
  rfl

/-- With the film not yet begun to move a STOP is answered at once, and the motion ends. -/
theorem Core.holdReply_drops {c : Core} {m : Motion} (armed : c.cap.armed = none) (motion : c.ix.motion = some m)
    (waiting : c.ix.waitingFrame = none) (r : Reply) : ∃ d : Core, c.holdReply r = d.emit (.passReply r) ∧
      d = { c with tr := d.tr, ix := d.ix } ∧ d.ix.pendingPulse = none := by
  have disarmed : (c.emit (.passReply r)).disarm = c.emit (.passReply r) := Core.disarm_of_none armed
  have ends := Core.endMotion_of_some (c := c.emit (.passReply r)) motion
  rw [Core.appendWaiting_of_none (c := c.emit (.passReply r)) waiting] at ends
  unfold Core.holdReply Core.enterHold Core.leaveMotion
  dsimp only
  rw [disarmed, ends]
  exact ⟨(c.setIx { c.ix with
    unit := .off, motion := none, openFrame := none, waitingFrame := none, detector := { c.ix.detector with run := none }
    blipPulse := none, pendingPulse := none, edgePulse := none }).setTr c.tr.rested, rfl, rfl, rfl⟩

theorem Core.passFull_drops {c : Core} {q : Pass} {k : Nat} {m : Motion} (pass : c.rm.pass = some q) (films : q.films = true)
    (going : q.ending = none) (act : q.act = .extending k) (start : q.start = none) (armed : c.cap.armed = none) (st : c.tr.st = .move)
    (still : c.tr.vRef = 0) (motion : c.ix.motion = some m) (waiting : c.ix.waitingFrame = none) :
    ∃ (d : Core) (w : Pass), c.passFull = d.emit (.passReply .stopped) ∧ d.sig = c.sig ∧ d.ix.pendingPulse = none ∧
      d.rm.pass = some w ∧ w.films = true ∧ w.ending.isSome = true := by
  have filming : c.filming = some q := by simp [Core.filming, pass, films, going]
  have under : c.underOrder = true := by simp [Core.underOrder, st]
  obtain ⟨port, shape, -⟩ := c.ended_shape q (.fixed .indexFull Det.none)
  have ends : c.passFull = ((c.ended q (.fixed .indexFull Det.none)).setPass
      { q.ends (.fixed .indexFull Det.none) with waitStop := true }).orderStop := by
    unfold Core.passFull
    rw [filming]
    dsimp only
    rw [act, start]
    dsimp only
    rw [Core.passFixed, Core.passEnding_disarmed armed, if_pos under]
  rw [shape] at ends
  generalize hd : ((((c.setPass (q.ends (.fixed .indexFull Det.none))).setCap c.cap.over).setPort port).setPass
    { q.ends (.fixed .indexFull Det.none) with waitStop := true } : Core) = d at ends
  have frame : d.tr = c.tr ∧ d.ix = c.ix ∧ d.sig = c.sig ∧ d.cap = c.cap.over ∧
      d.rm.pass = some { q.ends (.fixed .indexFull Det.none) with waitStop := true } := by subst hd; exact ⟨rfl, rfl, rfl, rfl, rfl⟩
  obtain ⟨tr, ix, sig, cap, dpass⟩ := frame
  have stops : d.orderStop = d.holdReply .stopped := by
    unfold Core.orderStop
    rw [tr, st]
    exact if_pos (.inr still)
  obtain ⟨e, held, frame, dropped⟩ := Core.holdReply_drops (c := d) (by rw [cap]; exact armed) (by rw [ix]; exact motion)
    (by rw [ix]; exact waiting) .stopped
  exact ⟨e, { q.ends (.fixed .indexFull Det.none) with waitStop := true }, ends.trans (stops.trans held), by rw [frame]; exact sig,
    dropped, by rw [frame]; exact dpass, films, rfl⟩

theorem Core.tryEnd_ix (c : Core) : c.tryEnd.ix = c.ix := by
  cases pass : c.rm.pass with
  | none => rw [Core.tryEnd_of_not_due (Core.endDue_of_no_pass pass)]
  | some q =>
    obtain ⟨port, rm, b, shape, -⟩ := Core.tryEnd_shape pass
    rw [shape]
    rfl

/-! ## The counterexample -/

/-- An entry at the start of the film. -/
def firstEntry : Entry :=
  { lead := 0, length := 1, origin := .detected, blip := .none, batch := 0, document := 0, page := 1, spliceBefore := false
    short := false, long := false, gapBefore := false, soft := false, captured := false, saturated := false
    captureCount := 0, score := none }

/-- An index of the entries `l` and one more, extended with a merged frame open and an earlier pulse pending. -/
def nearlyFull (l : List Entry) : IndexUnit :=
  { State.reset.core.ix with
    refImage := some 0, refBlip := some 0, refEdge := some 0
    entries := l ++ [firstEntry], frontier := 1000
    motion := some { Motion.begin 500 with extending := true }
    detector := { st := .frame, run := some (3000, 1) }
    openFrame := some { lead := 2000, merged := true, gapBefore := false, blip := none, trail := none }
    pitch := some 100
    pendingPulse := some { start := 1900, length := 4, cls := none } }

/-- The pass of an INDEX without a target, whose extending run has not begun to move. -/
def indexingPass : Pass := Pass.begin (.request .index) 0 0 0 0 (Request.ofRoll .index 0) .extending (.extending 0)

/-- The part at the count that closes the merged frame. -/
def closesMerged (l : List Entry) : State :=
  { State.reset with core := ((((State.reset.core.setModes { Modes.reset with mode := .run }).setStore
    { Store.reset with setA := some { Profile.zero with confirmCount := 2, edgeThreshold := 1 }, active := some .a }).setTr
      { State.reset.core.tr with st := .move, p := 3003 }).setIx (nearlyFull l)).setPass indexingPass }

/-- The count closes the merged frame and predicts the 16,384th entry, and the pulse that was pending is lost. -/
theorem closesMerged_drops {l : List Entry} (full : l.length = 16382) :
    ∃ d : Core, exec (.meteringCount .forward 0 0 0) (closesMerged l) = .next ((closesMerged l).leaves d) ∧
      d.ix.pendingPulse = none := by
  have ready : (closesMerged l).ready = true := rfl
  obtain ⟨c, ⟨frame, ⟨frontier, i, bl, ed, ix⟩, step⟩, sampled⟩ := Core.moveSample_extend (b := (closesMerged l).core) (image := 0)
    (blip := 0) (edge := 0) (det := { st := .gap, run := none }) (ev := some (false, 3000)) rfl rfl DetState.noConfusion rfl
  obtain ⟨last, length⟩ := getLast?_modAt_last l firstEntry (mergeInto c.prof 3000)
  have trailing := Core.extendTrailing_merged (c := c) (o := { lead := 2000, merged := true, gapBefore := false, blip := none, trail := none })
    (by rw [ix]; rfl) rfl rfl 3000
  generalize hb : c.setIx { c.ix with
      openFrame := none, entries := modAt c.ix.entries (c.ix.count - 1) (mergeInto c.prof 3000) } = b at trailing
  have fields : b.ix.entries.getLast? = some (mergeInto c.prof 3000 firstEntry) ∧ b.ix.entries.length = 16383 ∧
      b.ix.pitch = some 100 ∧ b.ix.motion = some { Motion.begin 500 with extending := true } ∧
      b.ix.detector = { st := .gap, run := none } ∧ b.ix.waitingFrame = none ∧ b.ix.predictedRun = 0 ∧ b.prof.confirmCount = 2 ∧
      b.ix.full = false ∧ b.ix.lost = false ∧ b.sig = [] ∧ b.rm.pass = some indexingPass ∧ b.cap.armed = none ∧ c.IndexStep b := by
    have entries : c.ix.entries = l ++ [firstEntry] := by rw [ix]; rfl
    rw [← hb, IndexUnit.count, entries]
    refine ⟨last, length.trans (by rw [full]), ?_⟩
    rw [frame, ix]
    exact ⟨rfl, rfl, rfl, rfl, rfl, rfl, rfl, rfl, rfl, rfl, rfl, ⟨rfl, rfl⟩⟩
  obtain ⟨last, length, pitch, motion, detector, waiting, few, confirm, room, found, sig, pass, armed, step'⟩ := fields
  have due : (mergeInto c.prof 3000 firstEntry).lead + 100 + 8 * (b.prof.confirmCount : Int) ≤ 3004 := by
    rw [confirm]
    exact (by decide : (0 : Int) + 100 + 8 * ((2 : Nat) : Int) ≤ 3004)
  obtain ⟨d, n, fills, filled⟩ := Core.predict_fills (c := b.emit (.merged c.ix.count)) (pos := 3004) last pitch motion rfl due detector
    waiting (by rw [show (b.emit (.merged c.ix.count)).ix = b.ix from rfl, few]; decide) length
  have predicts : (c.edgeActs .extend (some (false, 3000))).deadlines .extend 3004 = (d.emit (.appended n)).emit .indexFull := by
    rw [show c.edgeActs .extend (some (false, 3000)) = b.emit (.merged c.ix.count) from trailing]
    exact (if_neg (by rw [show (b.emit (.merged c.ix.count)).ix = b.ix from rfl, room, found]; decide)).trans fills
  obtain ⟨fill, dsig, dwaiting, m, dmotion⟩ := filled
  have filled : ((closesMerged l).core.counted .forward).IndexStep ((d.emit (.appended n)).emit .indexFull) :=
    (step.trans step').trans ((show b.IndexStep (b.emit (.merged c.ix.count)) from ⟨rfl, rfl⟩).trans (fill.trans ⟨rfl, rfl⟩))
  obtain ⟨tr, counts, -, st, still⟩ := Core.count_sampled (c := (closesMerged l).core) rfl (sampled.trans predicts) filled
  have told : d.sig = [.merged c.ix.count] := by rw [dsig, Core.emit, sig]; rfl
  have dpass : d.rm.pass = some indexingPass := by rw [fill.rm]; exact pass
  have darmed : d.cap.armed = none := by rw [fill.cap]; exact armed
  have appends : ({ d.setTr tr with sig := [.indexFull] } : Core).handle (.appended n) =
      ({ d.setTr tr with sig := [.indexFull] } : Core).setPass { indexingPass with indexed := indexingPass.indexed + 1 } :=
    Core.passAppended_indexing (c := { d.setTr tr with sig := [.indexFull] }) dpass rfl rfl rfl rfl rfl n
  obtain ⟨e, w, full', esig, dropped, epass, films, ending⟩ := Core.passFull_drops
    (c := ({ d.setTr tr with sig := [] } : Core).setPass { indexingPass with indexed := indexingPass.indexed + 1 })
    rfl rfl rfl rfl rfl darmed st still dmotion dwaiting
  have settles : Core.Settles 4 (((d.emit (.appended n)).emit .indexFull).setTr tr) (e.setPass { w with waitStop := false }) := by
    refine .reported (x := .merged c.ix.count) (l := [.appended n, .indexFull]) ?_ rfl
      (.reported (x := .appended n) (l := [.indexFull]) rfl appends (.reported (x := .indexFull) (l := []) rfl full' ?_))
    · rw [show (((d.emit (.appended n)).emit .indexFull).setTr tr).sig = d.sig ++ [.appended n] ++ [.indexFull] from rfl, told]
      rfl
    · exact .emit esig (by rw [Core.handle, Core.passReply_stopped epass films ending]; exact .quiet esig)
  have run := State.runCore_settles_end (f := fun c => c.count .forward 0 0 0) ready counts settles (by decide)
  exact ⟨_, congrArg Host.Outcome.next run, by rw [Core.tryEnd_ix]; exact dropped⟩

/-- Refutes O35: an INDEX whose extending run has not begun to move, with a pulse pending, closes a merged frame at a count
that also predicts the 16,384th entry. The pass ends with INDEX_FULL, the transport is in HOLD at once, and the end of the
motion drops the pulse, which the statement says stays pending. -/
theorem not_detectorConfirmsEdges : ¬ Obligations.DetectorConfirmsEdges := by
  rintro ⟨-, -, samples⟩
  obtain ⟨l, full⟩ : ∃ l : List Entry, l.length = 16382 := ⟨List.replicate 16382 firstEntry, List.length_replicate ..⟩
  obtain ⟨-, extends'⟩ := samples 0 0 0 _ _ _ (closesMerged l) rfl rfl rfl rfl rfl rfl
  obtain ⟨quiet, -⟩ := extends' rfl
  obtain ⟨-, trailing, -⟩ := quiet rfl
  obtain ⟨t, runs, -, -, -, -, merged, -⟩ := trailing 3000 1
    { lead := 2000, merged := true, gapBefore := false, blip := none, trail := none } rfl rfl rfl rfl rfl
  obtain ⟨d, drops, dropped⟩ := closesMerged_drops full
  obtain ⟨pending, -⟩ := merged rfl
  cases runs.symm.trans drops
  exact nomatch dropped.symm.trans (pending rfl)

end Sys2Proof.Machine
end

section
/-! SUPPORT. The camera's failures (R137, R140). -/

namespace Sys2Proof.Machine

/-- The end of a pass changes the results and the requests alone. -/
theorem Core.tryEnd_frame (c : Core) : ∃ (port : Port) (rm : ReqMgr), c.tryEnd = (c.setPort port).setRm rm := by
  cases pass : c.rm.pass with
  | none => exact ⟨c.port, c.rm, Core.tryEnd_of_not_due (Core.endDue_of_no_pass pass)⟩
  | some q =>
    obtain ⟨port, rm, b, shape, -⟩ := Core.tryEnd_shape pass
    exact ⟨port, rm, shape⟩

theorem Core.tryEnd_cap (c : Core) : c.tryEnd.cap = c.cap := by
  obtain ⟨port, rm, shape⟩ := c.tryEnd_frame
  rw [shape]
  rfl

theorem modAt_last {α : Type} (l : List α) (a : α) (f : α → α) : modAt (l ++ [a]) ((l ++ [a]).length - 1) f = l ++ [f a] := by
  have last : (l ++ [a])[(l ++ [a]).length - 1]? = some a := by simp
  unfold modAt
  rw [last]
  dsimp only
  refine List.ext_getElem? fun n => ?_
  rw [getElem?_setAt]
  rcases lt_trichotomy n l.length with h | h | h
  · rw [if_neg (by simp; omega), List.getElem?_append_left h, List.getElem?_append_left h]
  · subst h
    simp
  · rw [if_neg (by simp; omega), List.getElem?_eq_none (by simp; omega), List.getElem?_eq_none (by simp; omega)]

/-- The newest image of the filling list is changed. -/
theorem Core.newest_last {c : Core} {rest : List Image} {im : Image} (filling : c.cap.filling = rest ++ [im]) (f : Image → Image) :
    c.newest f = c.setCap { c.cap with filling := rest ++ [f im] } := by
  rw [Core.newest, filling, modAt_last]

/-- An image as it ends, with the running score `score`. -/
def Image.over (im : Image) (damaged : Bool) (score : Option Score) : Image :=
  { im with ended := true, damaged := im.damaged || damaged, score := if im.score.isSome then im.score else score.map Score.value }

theorem Core.imageEnd_last {c : Core} {rest : List Image} {im : Image} (filling : c.cap.filling = rest ++ [im]) (damaged : Bool) :
    c.imageEnd damaged = c.setCap { c.cap with score := none, filling := rest ++ [im.over damaged c.cap.score] } :=
  (Core.newest_last (c := c.setCap { c.cap with score := none }) filling _).trans rfl

theorem Core.cameraTimeout_idle {c : Core} (h : c.cap.camera = .idle ∨ c.cap.camHold = true) : c.cameraTimeout = c := by
  unfold Core.cameraTimeout
  split
  · rfl
  · rfl
  · next busy => exact if_pos (h.resolve_left busy)

section
variable {c : Core} {r : Readout} (readout : c.cap.readout = some r)
include readout

theorem Core.cameraTimeout_capture {rest : List Image} {im : Image} (camera : c.cap.camera = .readout) (released : c.cap.camHold = false)
    (capture : r.preview = false) (filling : c.cap.filling = rest ++ [im]) : c.cameraTimeout =
      ((c.setCap { c.cap with camera := .idle, readout := none, score := none, filling := rest ++ [im.over true c.cap.score] }).fault
        .cameraTimeout .captureUnit r.lines c.auxPass).emit .tryStrobe := by
  have ends := Core.imageEnd_last (c := c.setCap { c.cap with camera := .idle, readout := none }) filling true
  unfold Core.cameraTimeout
  rw [camera, readout]
  dsimp only
  rw [if_neg (by rw [released]; decide), if_neg (by rw [capture]; decide), if_pos (Eq.refl CameraState.readout), ends]
  rfl

theorem Core.flybyTruncate_idle (h : c.cap.camHold = false) : c.flybyTruncate = c := by
  unfold Core.flybyTruncate
  rw [readout, h]
  split <;> rfl

theorem Core.flybyTruncate_capture {rest : List Image} {im : Image} (camera : c.cap.camera = .readout) (held : c.cap.camHold = true)
    (capture : r.preview = false) (flyby : r.stopMode = false) (filling : c.cap.filling = rest ++ [im]) : c.flybyTruncate =
      (c.setCap { c.cap with camHold := false, camera := .discarding, score := none, filling := rest ++ [im.over true c.cap.score] }).fault
        .fifoOverflow .captureUnit (im.ringSlot * 65536 + im.entered) c.auxPass := by
  have ends := Core.imageEnd_last (c := c.setCap { c.cap with camHold := false, camera := .discarding }) filling true
  have newest : c.cap.filling.getLast? = some im := by rw [filling]; simp
  unfold Core.flybyTruncate
  rw [camera, readout]
  dsimp only
  rw [if_pos (by rw [held, capture, flyby]; decide), newest, ends]
  rfl
end

/-- Settles O60. -/
theorem cameraFailuresDamageTheImage : Obligations.CameraFailuresDamageTheImage := by
  refine fun r im rest s hr readout filling capture => ⟨fun camera released still => ?_, fun idle => ?_, fun camera held flyby => ?_,
    fun released => ?_⟩
  · have times := Core.cameraTimeout_capture readout camera released capture filling
    generalize hd : (s.core.setCap _).fault .cameraTimeout .captureUnit r.lines s.core.auxPass = d at times
    have fields : d.sig = [] ∧ d.strobeless = true ∧ d.out = [.fault ⟨.cameraTimeout, .captureUnit, BitVec.ofNat 24 r.lines, s.core.auxPass⟩] ∧
        d.cap = { s.core.cap with
          camera := .idle, readout := none, score := none, filling := rest ++ [im.over true s.core.cap.score] } := by
      rw [← hd]
      exact ⟨s.ready_sig hr, still, Core.fault_out_alone (c := s.core.setCap _) (s.ready_out hr) .., rfl⟩
    obtain ⟨sig, still', out, cap⟩ := fields
    have run := State.runCore_settles_end (f := Core.cameraTimeout) hr times (.tryStrobe sig still') (by decide)
    refine ⟨_, congrArg Host.Outcome.next run, ?_⟩
    rw [State.leaves_cap, Core.tryEnd_cap, cap]
    exact ⟨rfl, rfl, ⟨_, rfl, rfl, Bool.or_true _, rfl⟩, rfl, State.leaves_fault _ (by rw [Core.tryEnd_out]; exact out)⟩
  · exact congrArg Host.Outcome.next (State.runCore_leaves hr (Core.cameraTimeout_idle idle) rfl rfl rfl)
  · have cuts := Core.flybyTruncate_capture readout camera held capture flyby filling
    generalize hd : (s.core.setCap _).fault .fifoOverflow .captureUnit (im.ringSlot * 65536 + im.entered) s.core.auxPass = d at cuts
    have fields : d.sig = [] ∧ d.out = [.fault ⟨.fifoOverflow, .captureUnit,
          BitVec.ofNat 24 (im.ringSlot * 65536 + im.entered), s.core.auxPass⟩] ∧
        d.cap = { s.core.cap with
          camHold := false, camera := .discarding, score := none, filling := rest ++ [im.over true s.core.cap.score] } := by
      rw [← hd]
      exact ⟨s.ready_sig hr, Core.fault_out_alone (c := s.core.setCap _) (s.ready_out hr) .., rfl⟩
    obtain ⟨sig, out, cap⟩ := fields
    have run := State.runCore_settles_end (f := Core.flybyTruncate) hr cuts (.quiet sig) (by decide)
    refine ⟨_, congrArg Host.Outcome.next run, ?_⟩
    rw [State.leaves_cap, Core.tryEnd_cap, cap]
    exact ⟨rfl, rfl, readout, ⟨_, rfl, rfl, Bool.or_true _, rfl⟩, State.leaves_fault _ (by rw [Core.tryEnd_out]; exact out)⟩
  · exact congrArg Host.Outcome.next (State.runCore_leaves hr (Core.flybyTruncate_idle readout released) rfl rfl rfl)

end Sys2Proof.Machine
end

section
/-! SUPPORT. The lens: its steps and its settle count, the step of a frame, and what a lens that settles lets happen
(R82, R115, R116, R120, R127, R130). -/

namespace Sys2Proof.Machine

/-! ## Steps and the settle count (R115, R116) -/

theorem Focus.stepping_iff (f : Focus) : f.stepping = true ↔ 0 < f.homing ∨ f.counter ≠ f.commanded := by
  simp [Focus.stepping]

theorem Core.focusTick_homing {c : Core} (h : 1 < c.focus.homing) : c.focusTick =
    (c.setPins { c.pins with focusSteps := c.pins.focusSteps + 1 }).setFocus { c.focus with
      homing := c.focus.homing - 1, settle := none } := by
  unfold Core.focusTick
  dsimp only
  rw [if_pos (by omega), if_neg (by omega)]

/-- One step toward the commanded step. -/
theorem Core.focusTick_step {c : Core} (h : c.focus.homing = 0) {n : Nat}
    (next : n = if c.focus.counter < c.focus.commanded then c.focus.counter + 1 else c.focus.counter - 1) : c.focusTick =
    (c.setPins { c.pins with focusSteps := c.pins.focusSteps + 1 }).setFocus { c.focus with
      counter := n, settle := if n = c.focus.commanded then some c.now else none } := by
  subst next
  exact if_neg (by omega)

theorem Core.focusSettled_park {c : Core} (st : c.focus.st = .moving .park) :
    c.focusSettled = c.setFocus { c.focus with settle := none, st := .parked } := by
  simp only [Core.focusSettled, st]

theorem Core.focusSettled_place {c : Core} (st : c.focus.st = .moving .place) :
    c.focusSettled = (c.setFocus { c.focus with settle := none, st := .settled }).emit .tryStrobe := by
  simp only [Core.focusSettled, st]

theorem Core.focusSettled_probing {c : Core} {q : Probe} (st : c.focus.st = .probing) (probe : c.focus.probe = some q) :
    c.focusSettled = (c.setFocus { c.focus with settle := none, probe := some { q with phase := .waiting } }).emit .tryStrobe := by
  simp only [Core.focusSettled, st, probe, Option.map_some]

/-- What the settle count's completion does, where one runs. -/
theorem Core.when_settles {c : Core} (h : c.focus.settle ≠ none) : c.when c.focus.settle.isSome Core.focusSettled = c.focusSettled :=
  Core.when_true (Option.isSome_iff_ne_none.2 h) _

/-! ## The step of a frame (R120) -/

theorem Focus.entry_iff (f : Focus) (n : Nat) (e : BandEntry) : f.entry n = some e ↔ f.map[n]? = some (some e) := by
  unfold Focus.entry
  cases f.map[n]? with
  | none => simp
  | some o => simp

theorem Focus.entry_none (f : Focus) (n : Nat) : f.entry n = none ↔ ∀ e, f.map[n]? ≠ some (some e) := by
  rw [Option.eq_none_iff_forall_ne_some]
  exact forall_congr' fun e => not_congr (f.entry_iff n e)

/-- No entry at a distance. -/
theorem Focus.atDistance_none {f : Focus} {b d : Nat} (below : d ≤ b → f.entry (b - d) = none) (above : f.entry (b + d) = none) :
    f.atDistance b d = none := by
  have low : (if d ≤ b then f.entry (b - d) else none) = none := by
    split
    · next h => exact below h
    · rfl
  simp only [Focus.atDistance, low, above, Option.map_none]

theorem Focus.atDistance_below {f : Focus} {b d : Nat} {e : BandEntry} (low : d ≤ b) (there : f.entry (b - d) = some e) :
    f.atDistance b d = some (b - d, e) := by
  simp only [Focus.atDistance, if_pos low, there]

theorem Focus.atDistance_above {f : Focus} {b d : Nat} {e : BandEntry} (below : d ≤ b → f.entry (b - d) = none)
    (there : f.entry (b + d) = some e) : f.atDistance b d = some (b + d, e) := by
  have low : (if d ≤ b then f.entry (b - d) else none) = none := by
    split
    · next h => exact below h
    · rfl
  simp only [Focus.atDistance, low, there, Option.map_some]

/-- The first distance with an entry, of at most four. -/
theorem findSome?_upTo_four {α : Type} (g : Nat → Option α) {d : Nat} (far : d ≤ 4) (none' : ∀ i, i < d → g i = none) {a : α}
    (here : g d = some a) : [0, 1, 2, 3, 4].findSome? g = some a := by
  have listed : ([0, 1, 2, 3, 4] : List Nat) = List.range 5 := rfl
  rw [listed, List.findSome?_eq_some_iff]
  refine ⟨List.range d, d, List.range' (d + 1) (4 - d), ?_, here, fun i mem => none' i (List.mem_range.1 mem)⟩
  interval_cases d <;> rfl

theorem clampFocus_eq {p : Profile} (range : p.focusMin ≤ p.focusMax) (n : Nat) :
    clampFocus p (n : Int) = max p.focusMin (min p.focusMax n) := by
  unfold clampFocus clampInt
  split <;> [skip; split] <;> omega

section
variable {f : Focus} {b n : Nat} {e : BandEntry} (at' : f.map[n]? = some (some e))
  (others : ∀ (m : Nat) (g : BandEntry), f.map[m]? = some (some g) → m ≠ n →
    |(n : Int) - b| < |(m : Int) - b| ∨ |(n : Int) - b| = |(m : Int) - b| ∧ n < m)
include at' others

/-- Nearer than the nearest entry there is none. -/
theorem Focus.entry_none_of_nearer {m : Nat} (nearer : |(m : Int) - b| < |(n : Int) - b| ∨ |(m : Int) - b| = |(n : Int) - b| ∧ m < n) :
    f.entry m = none := by
  refine (f.entry_none m).2 fun g there => ?_
  have apart : m ≠ n := by rintro rfl; rcases nearer with h | h <;> omega
  rcases others m g there apart with h | h <;> rcases nearer with h' | h' <;> omega

theorem Focus.choose_nearest {p : Profile} (range : p.focusMin ≤ p.focusMax) (near : |(n : Int) - b| ≤ 4) :
    f.choose p b = (max p.focusMin (min p.focusMax e.best), some n) := by
  have entry := (f.entry_iff n e).2 at'
  have none' (d : Nat) (h : (d : Int) < |(n : Int) - b|) : f.atDistance b d = none :=
    Focus.atDistance_none (fun low => Focus.entry_none_of_nearer at' others (.inl (by rw [abs_of_nonpos (a := ((b - d : Nat) : Int) - b)] <;> omega)))
      (Focus.entry_none_of_nearer at' others (.inl (by rw [abs_of_nonneg (a := ((b + d : Nat) : Int) - b)] <;> omega)))
  have found : [0, 1, 2, 3, 4].findSome? (f.atDistance b) = some (n, e) := by
    rcases le_or_gt n b with low | high
    · have distance : |(n : Int) - b| = ((b - n : Nat) : Int) := by rw [abs_of_nonpos] <;> omega
      refine findSome?_upTo_four _ (d := b - n) (by omega) (fun i h => none' i (by omega)) ?_
      have back : b - (b - n) = n := by omega
      rw [Focus.atDistance_below (by omega) (by rw [back]; exact entry), back]
    · have distance : |(n : Int) - b| = ((n - b : Nat) : Int) := by rw [abs_of_nonneg] <;> omega
      refine findSome?_upTo_four _ (d := n - b) (by omega) (fun i h => none' i (by omega)) ?_
      have back : b + (n - b) = n := by omega
      have below : n - b ≤ b → f.entry (b - (n - b)) = none := fun low => by
        refine Focus.entry_none_of_nearer at' others (.inr ⟨?_, by omega⟩)
        rw [distance, abs_of_nonpos] <;> omega
      rw [Focus.atDistance_above below (by rw [back]; exact entry), back]
  unfold Focus.choose
  rw [found]
  exact congrArg (·, some n) (clampFocus_eq range e.best)
end

theorem Focus.choose_default {f : Focus} {p : Profile} {b : Nat} (range : p.focusMin ≤ p.focusMax)
    (far : ∀ (n : Nat) (e : BandEntry), f.map[n]? = some (some e) → 4 < |(n : Int) - b|) :
    f.choose p b = (max p.focusMin (min p.focusMax p.defaultStep), none) := by
  have none' (m : Nat) (h : |(m : Int) - b| ≤ 4) : f.entry m = none :=
    (f.entry_none m).2 fun e there => absurd (far m e there) (not_lt.2 h)
  have found : [0, 1, 2, 3, 4].findSome? (f.atDistance b) = none := by
    rw [List.findSome?_eq_none_iff]
    intro d mem
    have small : d ≤ 4 := by simp at mem; omega
    refine Focus.atDistance_none (fun low => none' _ ?_) (none' _ ?_)
    · rw [abs_of_nonpos] <;> omega
    · rw [abs_of_nonneg] <;> omega
  unfold Focus.choose
  rw [found]
  exact congrArg (·, none) (clampFocus_eq range p.defaultStep)

/-! ## The stop-mode strobe (R82) -/

theorem Core.lampWait_ready {c : Core} (h : c.cap.lamp.st = .ready) : c.lampWait = c :=
  if_neg fun waits => LampState.noConfusion ((h.symm.trans waits.1 : LampState.ready = .warming))

/-- A look at the strobe conditions is the stop-mode strobe's alone, where no frame walks and no probe runs. -/
theorem Core.tryStrobe_stop {c d : Core} (stop : c.stopTry = d) (probe : d.focus.probe = none) (flyby : d.cap.flyby = none) :
    c.tryStrobe = d := by
  rw [Core.tryStrobe, stop, show d.previewTry = d by unfold Core.previewTry; rw [probe], Core.flybyTry_idle flyby]

section
variable {c : Core} {x : StopCapture} {n : Nat} (stop : c.cap.stop = some x) (arrived : x.arrived = true)
  (lamp : c.cap.lamp.st = .ready) (hand : c.cap.inHand = some n) (camera : c.cap.camera = .idle) (settled : c.settledFor x.frame = true)
include stop arrived lamp hand camera settled

theorem Core.stopTry_strobes (at' : c.atTarget x.target = true) : ∃ d im, c.Strobed x.frame x.fullDepth true x.recapture d im ∧
    c.stopTry = (d.setCap { d.cap with stop := none }).emit (.strobed x.frame) := by
  obtain ⟨im, strobed⟩ := c.strobeImage_strobed x.frame x.fullDepth true x.recapture
  refine ⟨_, im, strobed, ?_⟩
  unfold Core.stopTry
  rw [stop]
  dsimp only
  rw [if_pos arrived, Core.lampWait_ready lamp, if_pos (by simp [lamp, hand, camera, settled]), if_pos at']

theorem Core.stopTry_misses (away : c.atTarget x.target = false) :
    c.stopTry = (c.setCap { c.cap with stop := some { x with arrived := false } }).emit .offTarget := by
  unfold Core.stopTry
  rw [stop]
  dsimp only
  rw [if_pos arrived, Core.lampWait_ready lamp, if_pos (by simp [lamp, hand, camera, settled]), if_neg (by rw [away]; decide)]
end

/-! ## The pass at its frame (R82, R158) -/

/-- The pass whose frame `k` has been taken. -/
def Pass.strobes (q : Pass) (k : Nat) : Pass :=
  { (if q.stateAt k = .delivered then q else q.mark k .fired) with strobed := true, captured := true }

theorem Pass.strobes_fields (q : Pass) (k : Nat) : (q.strobes k).act = q.act ∧ (q.strobes k).ending = q.ending ∧ (q.strobes k).size = q.size ∧
    (q.strobes k).retrying = q.retrying ∧ (q.strobes k).req = q.req ∧ (q.strobes k).strobed = true ∧ (q.strobes k).captured = true ∧
    (q.stateAt k ≠ .delivered → (q.strobes k).stateAt k = .fired) := by
  unfold Pass.strobes
  split
  · next delivered => exact ⟨rfl, rfl, rfl, rfl, rfl, rfl, rfl, fun h => absurd delivered h⟩
  · exact ⟨rfl, rfl, rfl, rfl, rfl, rfl, rfl, fun _ => Pass.stateAt_of_plan (Pass.mark_plan q k .fired)⟩

theorem Core.filming_eq {c : Core} {q : Pass} (pass : c.rm.pass = some q) (films : q.films = true) (going : q.ending = none) :
    c.filming = some q := by simp [Core.filming, pass, films, going]

section
variable {c : Core} {q : Pass} {k frame : Nat} (pass : c.rm.pass = some q) (films : q.films = true) (going : q.ending = none)
  (act : q.act = .atFrame k)
include pass films going act

theorem Core.passStrobed_soft (place : q.place frame = some k) (soft : q.req.probeOnSoft = true) :
    c.passStrobed frame = c.setPass (q.strobes k) := by
  unfold Core.passStrobed
  rw [Core.filming_eq pass films going]
  dsimp only
  rw [act, place]
  dsimp only
  rw [if_pos rfl]
  exact if_pos (by rw [← soft, ← (q.strobes_fields k).2.2.2.2.1]; rfl)

/-- The last frame of a walk without retries has been taken at rest: the pass enters ENDING. -/
theorem Core.passStrobed_last (place : q.place frame = some k) (hard : q.req.probeOnSoft = false) (size : q.size = some (k + 1))
    (first : q.retrying = false) (once : q.req.retry = 0) (armed : c.cap.armed = none) (still : c.underOrder = false) :
    c.passStrobed frame = c.ended (q.strobes k) .walkDone := by
  obtain ⟨-, -, size', first', req, -⟩ := q.strobes_fields k
  have frames : c.passStrobed frame = c.frameDone (q.strobes k) k := by
    unfold Core.passStrobed
    rw [Core.filming_eq pass films going]
    dsimp only
    rw [act, place]
    dsimp only
    rw [if_pos rfl]
    refine if_neg ?_
    change ¬ (q.strobes k).req.probeOnSoft = true
    rw [req, hard]
    decide
  have none' : (q.strobes k).seekFrame 4097 (k + 1) = none := Pass.seekFrame_end (size'.trans size) 4096
  rw [frames, Core.frameDone, if_neg (by rw [first', first]; decide), Core.passNext, none']
  dsimp only
  rw [Core.walkEnd, if_neg (by rw [still]; decide), Core.walkOver, if_neg (by rw [first', first]; decide),
    if_neg (by rw [req, once]; decide), Core.passEnding_disarmed armed, if_neg (by rw [still]; decide)]

theorem Core.passOffTarget_repositions : c.passOffTarget = c.reposition q k := by
  unfold Core.passOffTarget
  rw [Core.filming_eq pass films going]
  dsimp only
  rw [act]
end

/-- A fresh POSITION order to a target away from a film at rest. -/
theorem Core.reposition_plans {c : Core} {q : Pass} {k : Nat} (steady : c.tr.steady = true) (armed : c.cap.armed = none)
    (reach : q.target ≤ 16000000 - 4 * (c.prof.stopTolerance : Int)) (away : (c.prof.stopTolerance : Int) < |c.tr.p - q.target|) :
    ∃ (e : Core) (pl : Plan), c.reposition q k = e ∧ e = { c.setPass { q with act := .positioning k, st := q.seeking } with
        tr := e.tr, ix := c.ix.mayBegin } ∧ e.tr.st = .move ∧ e.tr.plan = some pl ∧ pl.order = .position q.target := by
  have planned := Core.orderPosition_steady (c := c.setPass { q with act := .positioning k, st := q.seeking }) steady reach away
  obtain ⟨frame, tr⟩ := Core.planFromRest_disarmed (c := c.setPass { q with act := .positioning k, st := q.seeking }) armed
    (.position q.target) false
  rw [← planned] at frame tr
  exact ⟨_, _, rfl, frame, (congrArg Transport.st tr).trans rfl, (congrArg Transport.plan tr).trans rfl, rfl⟩

theorem Core.atTarget_iff (c : Core) (t : Int) : c.atTarget t = true ↔ c.tr.st = .hold ∧ |c.tr.p - t| ≤ (c.prof.stopTolerance : Int) := by
  simp [Core.atTarget]

/-! ## A probe's preview (R127, R130) -/

section
variable {c : Core} {q : Probe} (probe : c.focus.probe = some q) (waits : q.phase = .waiting) (lamp : c.cap.lamp.st = .ready)
  (camera : c.cap.camera = .idle)
include probe waits lamp camera

theorem Core.previewTry_exposes (at' : c.atTarget q.target = true) : c.previewTry =
    (c.expose true true c.prof.depth).setFocus { c.focus with probe := some { q with phase := .reading } } := by
  unfold Core.previewTry
  rw [probe]
  dsimp only
  rw [if_pos waits, Core.lampWait_ready lamp, if_pos (by simp [lamp, camera]), if_pos at']

theorem Core.previewTry_abandons (away : c.atTarget q.target = false) : c.previewTry = c.probeDrop .probeAbandoned := by
  unfold Core.previewTry
  rw [probe]
  dsimp only
  rw [if_pos waits, Core.lampWait_ready lamp, if_pos (by simp [lamp, camera]), if_neg (by rw [away]; decide), Core.probeAbandon, probe]
end

/-- A look at the strobe conditions is the preview's alone, where no capture is wanted. -/
theorem Core.tryStrobe_preview {c d : Core} (stop : c.cap.stop = none) (preview : c.previewTry = d) (flyby : d.cap.flyby = none) :
    c.tryStrobe = d := by
  rw [Core.tryStrobe, show c.stopTry = c by unfold Core.stopTry; rw [stop], preview, Core.flybyTry_idle flyby]

/-- `d` is `c` with the lens moved on, and looks at the strobe conditions asked for. -/
def Core.LensOnly (c d : Core) : Prop := ∃ (f : Focus) (l : List Signal), d = (c.setFocus f).report l ∧ (∀ x ∈ l, x = .tryStrobe) ∧
  f.map = c.focus.map ∧ f.probe = c.focus.probe

theorem Core.LensOnly.trans {c d e : Core} (h : c.LensOnly d) (g : d.LensOnly e) : c.LensOnly e := by
  obtain ⟨f, l, rfl, looks, map, probe⟩ := h
  obtain ⟨f', l', rfl, looks', map', probe'⟩ := g
  refine ⟨f', l ++ l', ?_, fun x mem => (List.mem_append.1 mem).elim (looks x) (looks' x), map'.trans map, probe'.trans probe⟩
  rw [← Core.report_report]
  rfl

theorem Core.lensOnly_focusTo (c : Core) (s : Nat) (st : FocusState) : c.LensOnly (c.focusTo s st) :=
  ⟨_, [], (Core.report_nil _).symm, by simp, rfl, rfl⟩

theorem Core.lensOnly_placeStep (c : Core) (s : Nat) : c.LensOnly (c.focusPlaceStep s) := by
  have arrives : c.LensOnly (if s = c.focus.counter then
      (c.setFocus { c.focus with commanded := s, st := .settled }).emit .tryStrobe else c.focusTo s (.moving .place)) := by
    split
    · exact ⟨{ c.focus with commanded := s, st := .settled }, [.tryStrobe], rfl, by simp, rfl, rfl⟩
    · exact c.lensOnly_focusTo s _
  unfold Core.focusPlaceStep
  split
  · exact arrives
  · exact arrives
  · exact c.lensOnly_focusTo s _

theorem Core.lensOnly_held (c : Core) (o : HeldOrder) : c.LensOnly (c.focusHeld o) := by
  cases o with
  | place frame target =>
    rw [Core.focusHeld, Core.focusPlaceNow]
    generalize c.focus.choose _ _ = chosen
    obtain ⟨s, src⟩ := chosen
    refine .trans ?_ (Core.lensOnly_placeStep _ s)
    exact ⟨_, [], (Core.report_nil _).symm, by simp, rfl, rfl⟩
  | park =>
    obtain ⟨f, parks, map, -, probe, -⟩ := c.focusParkNow_shape
    exact ⟨f, [], parks.trans (Core.report_nil _).symm, by simp, map, probe⟩

theorem Core.lensOnly_takeHeld (c : Core) : c.LensOnly c.focusTakeHeld := by
  have each (l : List HeldOrder) : ∀ d : Core, c.LensOnly d → c.LensOnly (l.foldl Core.focusHeld d) := by
    induction l with
    | nil => exact fun d h => h
    | cons o l ih => exact fun d h => ih _ (h.trans (d.lensOnly_held o))
  exact each _ _ ⟨_, [], (Core.report_nil _).symm, by simp, rfl, rfl⟩

/-- A probe that is dropped reports it, and besides the lens and the running score nothing changes. -/
theorem Core.probeDrop_shape (c : Core) (x : Signal) : ∃ (f : Focus) (score : Option Score) (l : List Signal),
    c.probeDrop x = ((c.setFocus f).setCap { c.cap with score := score }).report (x :: l) ∧ (∀ y ∈ l, y = .tryStrobe) ∧
      f.map = c.focus.map ∧ f.probe = none := by
  have closes (f : Focus) (kept : Option Score) (map : f.map = c.focus.map) (probe : f.probe = none) : ∃ (g : Focus) (score : Option Score)
      (l : List Signal), (((c.setFocus f).setCap { c.cap with score := kept }).emit x).focusTakeHeld =
        ((c.setFocus g).setCap { c.cap with score := score }).report (x :: l) ∧ (∀ y ∈ l, y = .tryStrobe) ∧
        g.map = c.focus.map ∧ g.probe = none := by
    obtain ⟨g, l, shape, looks, gmap, gprobe⟩ := (((c.setFocus f).setCap { c.cap with score := kept }).emit x).lensOnly_takeHeld
    refine ⟨g, kept, l, shape.trans ?_, looks, gmap.trans map, gprobe.trans probe⟩
    rw [Core.report, Core.report]
    exact congrArg (fun l => { (c.setFocus g).setCap { c.cap with score := kept } with sig := l }) (List.append_assoc ..)
  unfold Core.probeDrop
  dsimp only
  generalize hb : c.setFocus _ = b
  have dropped : ∃ f : Focus, b = c.setFocus f ∧ f.map = c.focus.map ∧ f.probe = none := ⟨_, hb.symm, rfl, rfl⟩
  clear hb
  obtain ⟨f, rfl, map, probe⟩ := dropped
  split
  · split
    · exact closes f none map probe
    · exact closes f c.cap.score map probe
  · exact closes f c.cap.score map probe

/-- Looks at the strobe conditions where nothing would strobe change nothing, however many a step takes. -/
theorem Core.settleFrom_tryStrobes (n : Nat) : ∀ c : Core, c.strobeless = true → (∀ x ∈ c.sig, x = .tryStrobe) →
    ∃ l, Core.settleFrom n c = Core.tryEnd { c with sig := l } := by
  induction n with
  | zero => exact fun c _ _ => ⟨c.sig, rfl⟩
  | succ n ih =>
    intro c still looks
    cases sig : c.sig with
    | nil => exact ⟨c.sig, Core.settleFrom_nil (n + 1) sig⟩
    | cons x l =>
      rw [sig] at looks
      obtain rfl := looks x List.mem_cons_self
      have again : ({ c with sig := l } : Core).handle .tryStrobe = { c with sig := l } := Core.tryStrobe_strobeless still
      rw [Core.settleFrom_cons n sig, again]
      exact ih _ still fun y mem => looks y (List.mem_cons_of_mem _ mem)

/-- A ready part's core with the lens changed. -/
theorem State.ready_lens {s : State} {b : Core} {f : Focus} (hr : s.ready = true) (h : s.core.setFocus f = b) :
    b.sig = [] ∧ b.cap = s.core.cap ∧ b.tr = s.core.tr ∧ b.rm = s.core.rm ∧ b.prof = s.core.prof ∧ b.pins = s.core.pins ∧ b.focus = f := by
  subst h
  exact ⟨s.ready_sig hr, rfl, rfl, rfl, rfl, rfl, rfl⟩

theorem Core.passUnprobed_repositions {c : Core} {p : Pass} {k : Nat} (pass : c.rm.pass = some p) (going : p.ending = none)
    (act : p.act = .probing k) (st : c.tr.st = .hold) (kind : p.req.kind = .probe) : c.passUnprobed = c.reposition p k := by
  unfold Core.passUnprobed
  rw [pass]
  dsimp only
  rw [if_neg (by rw [going]; decide), act]
  dsimp only
  rw [if_neg (not_not.2 st), if_pos kind]

/-- No end is due while an image is filling. -/
theorem Core.endDue_of_busy {c : Core} (h : c.cap.idle = false) : c.endDue = false := by
  unfold Core.endDue
  split
  · rw [h, Bool.and_false, Bool.false_and]
  · rfl

theorem Core.endDue_of_same {c d : Core} (rm : d.rm = c.rm) (idle : d.cap.idle = c.cap.idle) : d.endDue = c.endDue := by
  simp only [Core.endDue, rm, idle]

/-- What the settling of the lens for its frame leaves, with the strobe fired and reported. -/
structure Core.StrobedAtRest (c : Core) (x : StopCapture) (e : Core) (im : Image) : Prop where
  sig : e.sig = c.sig
  tr : e.tr = c.tr
  rm : e.rm = c.rm
  focus : e.focus = c.focus
  strobes : e.pins.strobes = c.pins.strobes + 1
  armed : e.cap.armed = c.cap.armed
  camera : e.cap.camera = .readout
  inHand : e.cap.inHand = none
  stop : e.cap.stop = none
  filling : e.cap.filling = c.cap.filling ++ [im]
  frame : im.frame = x.frame
  ringSlot : im.ringSlot = c.cap.inHand.getD 0
  mode : im.stopMode = true ∧ im.recapture = x.recapture ∧ im.fullDepth = x.fullDepth
  settled : im.unsettled = !c.settledFor x.frame
  place : im.pStrobe = c.tr.p ∧ im.step = c.focus.counter
  request : im.slot = (c.rm.pass.map (·.slot)).getD 0 ∧ im.stamp = (c.rm.pass.map (·.stamp)).getD 0

theorem Core.tryStrobe_atRest {c : Core} {x : StopCapture} {n : Nat} (stop : c.cap.stop = some x) (arrived : x.arrived = true)
    (lamp : c.cap.lamp.st = .ready) (hand : c.cap.inHand = some n) (camera : c.cap.camera = .idle) (settled : c.settledFor x.frame = true)
    (at' : c.atTarget x.target = true) (probe : c.focus.probe = none) (flyby : c.cap.flyby = none) :
    ∃ e im, c.tryStrobe = e.emit (.strobed x.frame) ∧ c.StrobedAtRest x e im := by
  obtain ⟨d, im, strobed, tries⟩ := Core.stopTry_strobes stop arrived lamp hand camera settled at'
  have frame : d.sig = c.sig ∧ d.tr = c.tr ∧ d.rm = c.rm ∧ d.focus = c.focus ∧ d.pins.strobes = c.pins.strobes + 1 := by
    rw [strobed.frame]
    exact ⟨rfl, rfl, rfl, rfl, rfl⟩
  obtain ⟨sig, tr, rm, focus, strobes⟩ := frame
  refine ⟨d.setCap { d.cap with stop := none }, im, Core.tryStrobe_stop tries ?_ (strobed.flyby.trans flyby), {
    sig := sig, tr := tr, rm := rm, focus := focus, strobes := strobes, armed := strobed.armed, camera := strobed.camera
    inHand := strobed.inHand, stop := rfl, filling := strobed.filling, frame := strobed.number, ringSlot := strobed.ringSlot
    mode := ⟨strobed.mode.1, strobed.mode.2, strobed.depth.1⟩, settled := strobed.unsettled, place := ⟨strobed.pStrobe, strobed.lens⟩
    request := ⟨strobed.slot, strobed.stamp⟩ }⟩
  exact (congrArg Focus.probe focus).trans probe

/-- Settles O57. -/
theorem focusStepsAndSettles : Obligations.FocusStepsAndSettles := by
  refine ⟨fun s hr => ⟨fun homing => ?_, fun home below => ?_, fun home above => ?_, fun home there => ?_, fun count st => ?_,
      fun count st still => ?_, fun count => ?_⟩,
    fun f p b range => ⟨fun n e at' near others => Focus.choose_nearest at' others range near, Focus.choose_default range⟩,
    fun x pc q n k s hr count st placed number probe flyby armed stop arrived lamp hand camera steady waiting pass films going act place aim =>
      ⟨fun near kinds => ?_, fun away motion reach => ?_⟩,
    fun q s hr count st probe stop flyby lamp camera steady => ⟨fun near => ?_, fun p k away reach unmoved pass kind kind' going act aim => ?_⟩⟩
  · have ticks := (Core.when_true (s.core.focus.stepping_iff.2 (.inl (by omega))) Core.focusTick).trans (Core.focusTick_homing homing)
    exact congrArg Host.Outcome.next (State.runCore_leaves hr ticks rfl rfl rfl)
  · have ticks := (Core.when_true (s.core.focus.stepping_iff.2 (.inr (by omega))) Core.focusTick).trans
      (Core.focusTick_step home (n := s.core.focus.counter + 1) (if_pos below).symm)
    exact congrArg Host.Outcome.next (State.runCore_leaves hr ticks rfl rfl rfl)
  · have ticks := (Core.when_true (s.core.focus.stepping_iff.2 (.inr (by omega))) Core.focusTick).trans
      (Core.focusTick_step home (n := s.core.focus.counter - 1) (if_neg (by omega)).symm)
    exact congrArg Host.Outcome.next (State.runCore_leaves hr ticks rfl rfl rfl)
  · have idle : s.core.focus.stepping = false := Bool.eq_false_iff.2 fun h => by
      rcases s.core.focus.stepping_iff.1 h with h | h
      · omega
      · exact h there
    exact congrArg Host.Outcome.next (State.runCore_leaves hr (Core.when_false idle Core.focusTick) rfl rfl rfl)
  · exact congrArg Host.Outcome.next (State.runCore_leaves hr ((Core.when_settles count).trans (Core.focusSettled_park st)) rfl rfl rfl)
  · have settles := (Core.when_settles count).trans (Core.focusSettled_place st)
    have sig := s.ready_sig hr
    exact congrArg Host.Outcome.next (State.runCore_settles (d := s.core.setFocus { s.core.focus with settle := none, st := .settled }) hr
      settles (.tryStrobe sig still) (by decide) ((Core.endDue_congr rfl rfl).trans (s.ready_endDue hr)))
  · exact congrArg Host.Outcome.next (State.runCore_leaves hr (Core.when_false (by rw [count]; rfl) Core.focusSettled) rfl rfl rfl)
  · have settles := (Core.when_settles count).trans (Core.focusSettled_place st)
    generalize hb : s.core.setFocus { s.core.focus with settle := none, st := .settled } = b at settles
    obtain ⟨sig, cap, tr, rm, prof, pins, focus⟩ := State.ready_lens hr hb
    have settled : b.settledFor x.frame = true := by simp [Core.settledFor, focus, placed, number]
    have at' : b.atTarget x.target = true := (b.atTarget_iff _).2 ⟨by rw [tr]; exact Transport.hold_of_steady steady, by rw [tr, prof]; exact near⟩
    obtain ⟨e, im, tries, fired⟩ := Core.tryStrobe_atRest (c := b) (by rw [cap]; exact stop) arrived (by rw [cap]; exact lamp)
      (by rw [cap]; exact hand) (by rw [cap]; exact camera) settled at' (by rw [focus]; exact probe) (by rw [cap]; exact flyby)
    have epass : e.rm.pass = some q := by rw [fired.rm, rm]; exact pass
    obtain ⟨act', ending', -, -, -, strobed, captured, taken⟩ := q.strobes_fields k
    have reported {d : Core} (ends : e.passStrobed x.frame = d) (dsig : d.sig = []) (due : d.endDue = false) :=
      State.runCore_settles (f := fun c => c.when c.focus.settle.isSome Core.focusSettled) (d := d) hr settles (.emit sig (show Core.Settles 1 b.tryStrobe d by
        rw [tries]; exact .emit (fired.sig.trans sig) (by rw [Core.handle, ends]; exact .quiet dsig))) (by decide) due
    suffices left : ∃ (d : Core) (w : Pass), s.runCore (fun c => c.when c.focus.settle.isSome Core.focusSettled) = s.leaves d ∧
        d.focus = e.focus ∧ d.pins = e.pins ∧ d.cap.camera = e.cap.camera ∧ d.cap.inHand = e.cap.inHand ∧ d.cap.stop = none ∧
        d.cap.filling = e.cap.filling ∧ d.rm.pass = some w ∧ w.captured = true ∧ (q.stateAt k ≠ .delivered → w.stateAt k = .fired) ∧
        (q.req.probeOnSoft = true → w.act = .atFrame k ∧ w.strobed = true) ∧
        (q.req.probeOnSoft = false → w.ending = some .walkDone) by
      obtain ⟨d, w, run, dfocus, dpins, dcamera, dhand, dstop, dfilling, dpass, rest⟩ := left
      refine ⟨_, w, im, congrArg Host.Outcome.next run, ?_⟩
      rw [State.leaves_focus, State.leaves_pins, State.leaves_cap, State.leaves_rm, dfocus, dpins]
      refine ⟨by rw [fired.focus, focus], by rw [fired.strobes, pins], dcamera.trans fired.camera, dhand.trans fired.inHand, dstop,
        by rw [dfilling, fired.filling, cap], fired.frame, by rw [fired.ringSlot, cap, hand]; rfl, fired.mode.1, by rw [fired.settled, settled]; rfl,
        fired.mode.2.1, fired.mode.2.2, by rw [fired.place.1, tr], by rw [fired.place.2, focus], by rw [fired.request.1, rm, pass]; rfl,
        by rw [fired.request.2, rm, pass]; rfl, dpass, rest⟩
    by_cases soft : q.req.probeOnSoft = true
    · have run := reported (Core.passStrobed_soft (c := e) epass films going act place soft) (fired.sig.trans sig)
        (Core.endDue_of_unended rfl (ending'.trans going))
      exact ⟨_, q.strobes k, run, rfl, rfl, rfl, rfl, fired.stop, rfl, rfl, captured, taken, fun _ => ⟨act'.trans act, strobed⟩,
        fun hard => nomatch hard.symm.trans soft⟩
    · obtain ⟨size, first, once⟩ := kinds.resolve_left soft
      have ends := Core.passStrobed_last (c := e) epass films going act place (Bool.eq_false_iff.2 soft) size first once
        (by rw [fired.armed, cap]; exact armed) (Transport.steady_underOrder (by rw [fired.tr, tr]; exact steady)
          (by rw [fired.tr, tr]; exact waiting))
      obtain ⟨port, shape, -⟩ := e.ended_shape (q.strobes k) .walkDone
      rw [shape] at ends
      have busy : e.cap.over.idle = false := by
        simp [Capture.idle, Capture.over, fired.filling]
      have run := reported ends (fired.sig.trans sig) (Core.endDue_of_busy busy)
      exact ⟨_, (q.strobes k).ends .walkDone, run, rfl, rfl, rfl, rfl, rfl, rfl, rfl, captured, taken, fun h => absurd h soft, fun _ => rfl⟩
  · have settles := (Core.when_settles count).trans (Core.focusSettled_place st)
    generalize hb : s.core.setFocus { s.core.focus with settle := none, st := .settled } = b at settles
    obtain ⟨sig, cap, tr, rm, prof, pins, focus⟩ := State.ready_lens hr hb
    have settled : b.settledFor x.frame = true := by simp [Core.settledFor, focus, placed, number]
    have off : b.atTarget x.target = false := Bool.eq_false_iff.2 fun h => by
      have near := ((b.atTarget_iff _).1 h).2
      rw [tr, prof] at near
      exact absurd near (not_le.2 away)
    have misses := Core.stopTry_misses (c := b) (by rw [cap]; exact stop) arrived (by rw [cap]; exact lamp) (by rw [cap]; exact hand)
      (by rw [cap]; exact camera) settled off
    have tries := Core.tryStrobe_stop misses (by exact (congrArg Focus.probe focus).trans probe) (by rw [cap]; exact flyby)
    generalize he : b.setCap { b.cap with stop := some { x with arrived := false } } = e at tries
    have fields : e.sig = [] ∧ e.tr = s.core.tr ∧ e.rm = s.core.rm ∧ e.prof = s.core.prof ∧ e.pins = s.core.pins ∧
        e.cap = { s.core.cap with stop := some { x with arrived := false } } := by
      rw [← he, ← cap, ← tr, ← rm, ← prof, ← pins]; exact ⟨sig, rfl, rfl, rfl, rfl, rfl⟩
    obtain ⟨esig, etr, erm, eprof, epins, ecap⟩ := fields
    obtain ⟨d, pl, again, frame, move, plan, order⟩ := Core.reposition_plans (c := e) (q := q) (k := k) (by rw [etr]; exact steady)
      (by rw [ecap]; exact armed) (by rw [eprof, aim]; exact reach) (by rw [eprof, etr, aim]; exact away)
    have told := (Core.passOffTarget_repositions (c := e) (by rw [erm]; exact pass) films going act).trans again
    have dsig : d.sig = [] := by rw [frame]; exact esig
    have dpass : d.rm.pass = some { q with act := .positioning k, st := q.seeking } := by rw [frame]; rfl
    have dcap : d.cap = e.cap := by rw [frame]; rfl
    have run := State.runCore_settles (f := fun c => c.when c.focus.settle.isSome Core.focusSettled) (d := d) hr settles (.emit sig
      (show Core.Settles 1 b.tryStrobe d by rw [tries]; exact .emit esig (by rw [Core.handle, told]; exact .quiet dsig))) (by decide)
      (Core.endDue_of_unended dpass going)
    refine ⟨_, { q with act := .positioning k, st := q.seeking }, pl, congrArg Host.Outcome.next run, ?_⟩
    rw [State.leaves_pins, State.leaves_cap, State.leaves_rm, State.leaves_tr, dcap, ecap]
    exact ⟨by rw [frame]; exact congrArg Pins.strobes epins, rfl, hand, rfl, dpass, rfl, move, plan, order.trans (by rw [aim])⟩
  · have settles := (Core.when_settles count).trans (Core.focusSettled_probing st probe)
    generalize hb : s.core.setFocus { s.core.focus with settle := none, probe := some { q with phase := .waiting } } = b at settles
    obtain ⟨sig, cap, tr, rm, prof, pins, focus⟩ := State.ready_lens hr hb
    have at' : b.atTarget q.target = true := (b.atTarget_iff _).2 ⟨by rw [tr]; exact Transport.hold_of_steady steady, by rw [tr, prof]; exact near⟩
    have exposes := Core.previewTry_exposes (c := b) (q := { q with phase := .waiting }) (congrArg Focus.probe focus) rfl
      (by rw [cap]; exact lamp) (by rw [cap]; exact camera) at'
    have tries := Core.tryStrobe_preview (by rw [cap]; exact stop) exposes (by exact (congrArg Capture.flyby cap).trans flyby)
    generalize hd : (b.expose true true b.prof.depth).setFocus { b.focus with probe := some { q with phase := .reading } } = d at tries
    have fields : d.sig = [] ∧ d.rm = s.core.rm ∧ d.cap.idle = s.core.cap.idle ∧ d.pins.strobes = s.core.pins.strobes + 1 ∧
        d.cap.camera = .readout ∧ d.cap.filling = s.core.cap.filling ∧ d.cap.inHand = s.core.cap.inHand ∧
        d.focus.probe = some { q with phase := .reading } ∧
        ∃ r, d.cap.readout = some r ∧ r.preview = true ∧ r.lines = 0 := by
      rw [← hd, ← cap, ← rm, ← pins]
      exact ⟨sig, rfl, rfl, rfl, rfl, rfl, rfl, rfl, _, rfl, rfl, rfl⟩
    obtain ⟨dsig, drm, idle, strobes, dcamera, filling, hand, reading, r, readout, preview, lines⟩ := fields
    have run := State.runCore_settles (f := fun c => c.when c.focus.settle.isSome Core.focusSettled) (d := d) hr settles (.emit sig
      (show Core.Settles 0 b.tryStrobe d by rw [tries]; exact .quiet dsig)) (by decide)
      ((Core.endDue_of_same drm idle).trans (s.ready_endDue hr))
    exact ⟨_, r, congrArg Host.Outcome.next run, strobes, dcamera, readout, preview, lines, filling, hand, reading, drm⟩
  · have settles := (Core.when_settles count).trans (Core.focusSettled_probing st probe)
    generalize hb : s.core.setFocus { s.core.focus with settle := none, probe := some { q with phase := .waiting } } = b at settles
    obtain ⟨sig, cap, tr, rm, prof, pins, focus⟩ := State.ready_lens hr hb
    have off : b.atTarget q.target = false := Bool.eq_false_iff.2 fun h => by
      have near := ((b.atTarget_iff _).1 h).2
      rw [tr, prof] at near
      exact absurd near (not_le.2 away)
    have abandons := Core.previewTry_abandons (c := b) (q := { q with phase := .waiting }) (congrArg Focus.probe focus) rfl
      (by rw [cap]; exact lamp) (by rw [cap]; exact camera) off
    obtain ⟨f, score, l, drops, looks, map, gone⟩ := b.probeDrop_shape .probeAbandoned
    have tries := Core.tryStrobe_preview (by rw [cap]; exact stop) (abandons.trans drops) (by exact (congrArg Capture.flyby cap).trans flyby)
    generalize he : (b.setFocus f).setCap { b.cap with score := score } = e at tries
    have fields : e.sig = [] ∧ e.tr = s.core.tr ∧ e.rm = s.core.rm ∧ e.prof = s.core.prof ∧ e.pins = s.core.pins ∧
        e.cap = { s.core.cap with score := score } ∧ e.focus = f := by
      rw [← he, ← cap, ← tr, ← rm, ← prof, ← pins]; exact ⟨sig, rfl, rfl, rfl, rfl, rfl, rfl⟩
    obtain ⟨esig, etr, erm, eprof, epins, ecap, efocus⟩ := fields
    obtain ⟨armed, -⟩ := s.core.unmoved_iff.1 unmoved
    obtain ⟨d, pl, again, frame, move, plan, order⟩ := Core.reposition_plans (c := { e with sig := l }) (q := p) (k := k)
      (by exact (congrArg Transport.steady etr).trans steady) (by exact (congrArg Capture.armed ecap).trans armed)
      (by rw [aim, show Core.prof { e with sig := l } = e.prof from rfl, eprof]; exact reach)
      (by rw [aim, show Core.prof { e with sig := l } = e.prof from rfl, eprof, show Core.tr { e with sig := l } = e.tr from rfl, etr]; exact away)
    have told := (Core.passUnprobed_repositions (c := { e with sig := l }) (by exact (congrArg ReqMgr.pass erm).trans pass) going act
      (by exact (congrArg Transport.st etr).trans (Transport.hold_of_steady steady)) kind').trans again
    have fields : d.sig = l ∧ d.cap = e.cap ∧ d.focus = e.focus ∧ d.pins = e.pins ∧
        d.rm.pass = some { p with act := .positioning k, st := p.seeking } := by rw [frame]; exact ⟨rfl, rfl, rfl, rfl, rfl⟩
    obtain ⟨dsig, dcap, dfocus, dpins, dpass⟩ := fields
    have unstopped : d.cap.stop = none := by rw [dcap, ecap]; exact stop
    have unwalked : d.cap.flyby = none := by rw [dcap, ecap]; exact flyby
    have unprobed : d.focus.probe = none := by rw [dfocus, efocus]; exact gone
    have still : d.strobeless = true := d.strobeless_iff.2 ⟨by rw [unstopped]; rfl, unwalked, unprobed⟩
    obtain ⟨rest, settled⟩ := Core.settleFrom_tryStrobes 65534 d still (by rw [dsig]; exact looks)
    have whole := calc
      Core.settleFrom (65535 + 1) (b.emit .tryStrobe) = Core.settleFrom 65535 b.tryStrobe := by
        rw [Core.settleFrom_cons (c := b.emit .tryStrobe) (x := .tryStrobe) (l := []) 65535 (by rw [Core.emit, sig]; rfl), Core.emit_taken _ sig]
        rfl
      _ = Core.settleFrom (65534 + 1) (e.report (.probeAbandoned :: l)) := by rw [tries]
      _ = Core.settleFrom 65534 d := by
        rw [Core.settleFrom_cons (c := e.report (.probeAbandoned :: l)) (x := .probeAbandoned) (l := l) 65534 (by rw [Core.report, esig]; rfl)]
        exact congrArg (Core.settleFrom 65534) told
      _ = { d with sig := rest } := settled.trans (Core.tryEnd_of_not_due (Core.endDue_of_unended dpass going))
    have run : s.runCore (fun c => c.when c.focus.settle.isSome Core.focusSettled) = s.leaves { d with sig := rest } := by
      rw [State.runCore_awake _ (s.ready_mode hr), settles, Core.settle, whole]
      rfl
    exact ⟨_, { p with act := .positioning k, st := p.seeking }, pl, congrArg Host.Outcome.next run,
      (congrArg Pins.strobes (dpins.trans epins)), unprobed,
      (congrArg Focus.map (dfocus.trans efocus)).trans (map.trans ((congrArg Focus.map focus).trans rfl)), dpass, rfl, move, plan, order.trans (by rw [aim])⟩

end Sys2Proof.Machine
end

section
/-! SUPPORT. Reservations: the read of the head stamp, its rereads and the Image Wait, and the frame of a flyby walk that
waited for its slot (R84, R134 to R136). -/

namespace Sys2Proof.Machine

/-! ## The lens and the reservation -/

theorem Core.lensOnly_place (c : Core) (frame : Nat) (target : Int) : c.LensOnly (c.focusPlace frame target) := by
  unfold Core.focusPlace
  split
  · exact ⟨_, [], (Core.report_nil _).symm, by simp, rfl, rfl⟩
  · exact c.lensOnly_held (.place frame target)

/-- Looks at the frame of a flyby walk leave the reservation as it is, where no slot is in hand. -/
theorem Core.flybyTry_keeps {c : Core} (hand : c.cap.inHand = none) : c.flybyTry.cap.reservation = c.cap.reservation ∧
    c.flybyTry.cap.imageWait = c.cap.imageWait ∧ c.flybyTry.cap.reread = c.cap.reread := by
  unfold Core.flybyTry
  split
  · exact ⟨rfl, rfl, rfl⟩
  · next f flyby =>
    split
    · exact ⟨rfl, rfl, rfl⟩
    · split
      · exact ⟨rfl, rfl, rfl⟩
      · next e entry =>
        dsimp only
        split
        · next late =>
          obtain ⟨armed, flyby, l, shape, -⟩ := c.disarm_shape
          obtain ⟨g, l', placed, -⟩ := c.disarm.lensOnly_place f.frame (c.targetOf e)
          have past : c.targetOf e < (c.disarm.focusPlace f.frame (c.targetOf e)).tr.p := by rw [placed, shape]; exact late
          unfold Core.flybyArm
          dsimp only
          rw [if_pos past, Core.flybyMiss, placed, shape]
          exact ⟨rfl, rfl, rfl⟩
        · rw [hand, if_neg (by simp)]
          exact ⟨rfl, rfl, rfl⟩

/-! ## The read's end (R134, R135) -/

section
variable {c : Core} (flight : c.cap.reservation = .flight)
include flight

/-- A head stamp of 0 reserves the slot at the cursor. -/
theorem Core.reservationDone_reserves {bs : List Byte} (free : fieldAt bs 0 4 = 0) : c.reservationDone (.data bs) =
    (c.setCap { c.cap with
      reservation := .none, inHand := some c.cap.cursor, imageWait := none, reread := none
      cursor := if c.port.setup.slotCount ≤ c.cap.cursor + 1 then 0 else c.cap.cursor + 1 }).emit .tryStrobe := by
  unfold Core.reservationDone
  dsimp only
  rw [flight]
  dsimp only
  rw [if_pos free]
  rfl

theorem Core.reservationDone_taken {bs : List Byte} (taken : fieldAt bs 0 4 ≠ 0) :
    c.reservationDone (.data bs) = (c.setCap { c.cap with reservation := .none }).notReserved := by
  unfold Core.reservationDone
  dsimp only
  rw [flight]
  dsimp only
  rw [if_neg taken]

theorem Core.reservationDone_error : c.reservationDone .error =
    ((c.setCap { c.cap with reservation := .none }).fault .memoryRead .captureUnit c.cap.cursor c.auxPass).notReserved := by
  unfold Core.reservationDone
  dsimp only
  rw [flight]
  rfl
end

/-- A stop-mode capture whose read did not reserve waits, and reads again. -/
theorem Core.notReserved_waits {c : Core} {x : StopCapture} (stop : c.cap.stop = some x) (wait : c.prof.imageWait ≠ 0) : c.notReserved =
    c.setCap { c.cap with
      imageWait := if c.cap.imageWait = none then some c.now else c.cap.imageWait, reread := some c.now } := by
  have count : (if c.cap.imageWait.isSome = true then c.cap.imageWait else c.tick) =
      if c.cap.imageWait = none then some c.now else c.cap.imageWait := by
    cases c.cap.imageWait <;> rfl
  unfold Core.notReserved
  dsimp only
  rw [stop, Option.isSome_some, Bool.true_or, if_pos rfl, if_neg fun h => wait h.1, count]
  rfl

theorem Core.reread_queues {c : Core} (hand : c.cap.inHand = none) (idle : c.cap.reservation = .none) :
    c.reread = c.setCap { c.cap with reread := none, reservation := .queued } := by
  unfold Core.reread Core.wantSlot
  dsimp only
  exact (if_pos (by simp [hand, idle])).trans rfl

/-! ## The frame of a flyby walk that waited for its slot (R84, R138) -/

section
variable {c : Core} {f : FlybyFrame} {e : Entry} (flyby : c.cap.flyby = some f) (armed : c.cap.armed = none)
  (entry : c.ix.entry f.frame = some e)
include flyby armed entry

/-- With the film past the target the frame is placed all the same, and reported LATE. -/
theorem Core.flybyTry_late (late : c.targetOf e < c.tr.p) :
    c.flybyTry = (c.focusPlace f.frame (c.targetOf e)).flybyMiss f.frame := by
  have unarmed : ¬ (c.cap.armed.map (·.frame)) = some f.frame := by rw [armed]; exact fun h => nomatch h
  obtain ⟨g, l, placed, -⟩ := c.lensOnly_place f.frame (c.targetOf e)
  have past : c.targetOf e < (c.focusPlace f.frame (c.targetOf e)).tr.p := by rw [placed]; exact late
  unfold Core.flybyTry
  rw [flyby]
  dsimp only
  rw [if_neg unarmed, entry]
  dsimp only
  rw [if_pos late, Core.flybyArm, Core.disarm_of_none armed]
  exact if_pos past

/-- With its compare ahead of the film the frame is placed and armed. -/
theorem Core.flybyTry_arms {n : Nat} (hand : c.cap.inHand = some n) (camera : c.cap.camera = .idle) (lamp : c.cap.lamp.st = .ready)
    (ahead : c.tr.p < c.compareValue (c.targetOf e)) : c.flybyTry = (c.focusPlace f.frame (c.targetOf e)).setCap {
      (c.focusPlace f.frame (c.targetOf e)).cap with armed := some {
        frame := f.frame, fullDepth := f.fullDepth, target := c.targetOf e, compare := c.compareValue (c.targetOf e) } } := by
  have unarmed : ¬ (c.cap.armed.map (·.frame)) = some f.frame := by rw [armed]; exact fun h => nomatch h
  have before : ¬ c.targetOf e < c.tr.p := by
    rw [Core.compareValue_eq] at ahead
    omega
  obtain ⟨g, l, placed, looks, map, probe⟩ := c.lensOnly_place f.frame (c.targetOf e)
  have tr : (c.focusPlace f.frame (c.targetOf e)).tr = c.tr := by rw [placed]; rfl
  have value : (c.focusPlace f.frame (c.targetOf e)).compareValue (c.targetOf e) = c.compareValue (c.targetOf e) := by rw [placed]; rfl
  unfold Core.flybyTry
  rw [flyby]
  dsimp only
  rw [if_neg unarmed, entry]
  dsimp only
  rw [if_neg before, if_pos (by rw [hand, camera]; rfl), Core.lampWait_ready lamp, if_pos lamp, Core.flybyArm, Core.disarm_of_none armed]
  generalize c.focusPlace f.frame (c.targetOf e) = d at tr value ⊢
  dsimp only
  rw [value, tr, if_neg before]
  have short : d.tr.p < c.compareValue (c.targetOf e) := by rw [tr]; exact ahead
  exact if_neg fun both => absurd (of_decide_eq_true (Bool.and_eq_true_iff.1 both).2) (not_le.2 short)
end

theorem Core.flybyTry_armed {c : Core} {a : Armed} (armed : c.cap.armed = some a) (same : ∀ f, c.cap.flyby = some f → f.frame = a.frame) :
    c.flybyTry = c := by
  unfold Core.flybyTry
  split
  · rfl
  · next f flyby => exact if_pos (by rw [armed, same f flyby]; rfl)

/-- A look at the strobe conditions is the flyby frame's alone, where no stop-mode frame waits and no probe runs. -/
theorem Core.tryStrobe_flyby {c : Core} (stop : c.cap.stop = none) (probe : c.focus.probe = none) : c.tryStrobe = c.flybyTry := by
  have still : c.stopTry = c := by unfold Core.stopTry; rw [stop]
  rw [Core.tryStrobe, still, show c.previewTry = c by unfold Core.previewTry; rw [probe]]

/-- `d` is `c` whose flyby frame `f` has got its slot and been placed: armed, or reported LATE. -/
structure Core.Placed (c : Core) (number : Nat) (target : Int) (armed : Option Armed) (flyby : Option FlybyFrame) (d : Core) : Prop where
  frame : d = (c.setFocus d.focus).setCap { c.cap with armed := armed, flyby := flyby }
  probe : d.focus.probe = c.focus.probe
  placement : ∃ pc, d.focus.placement = some pc ∧ pc.frame = number ∧ pc.band = focusBand c.prof (target - (c.prof.gateOffset : Int))

section
variable {c : Core} {f : FlybyFrame} {e : Entry} (flyby : c.cap.flyby = some f) (armed : c.cap.armed = none)
  (entry : c.ix.entry f.frame = some e) (stop : c.cap.stop = none) (probe : c.focus.probe = none) (calm : c.focus.st ≠ .probing)
include flyby armed entry stop probe calm

theorem Core.tryStrobe_late (late : c.targetOf e < c.tr.p) : ∃ d l, c.tryStrobe = d.report (l ++ [.flybyMissed f.frame]) ∧
    (l = [] ∨ l = [.tryStrobe]) ∧ c.Placed f.frame (c.targetOf e) none none d := by
  obtain ⟨g, l, pc, placed, looks, placement, number, band, gprobe⟩ := Core.focusPlace_shape calm f.frame (c.targetOf e)
  have gone : (c.cap.flyby.filter fun x => x.frame != f.frame) = none := flyby_over fun x hx => by cases flyby.symm.trans hx; rfl
  refine ⟨(c.setFocus g).setCap { c.cap with armed := none, flyby := none }, l, ?_, looks, rfl, gprobe, pc, placement, number, band⟩
  rw [Core.tryStrobe_flyby stop probe, Core.flybyTry_late flyby armed entry late, placed, Core.flybyMiss,
    show ((c.setFocus g).report l).cap = c.cap from rfl, gone, armed, Core.emit_eq_report, ← Core.report_report]
  rfl

theorem Core.tryStrobe_arms {n : Nat} (hand : c.cap.inHand = some n) (camera : c.cap.camera = .idle) (lamp : c.cap.lamp.st = .ready)
    (ahead : c.tr.p < c.compareValue (c.targetOf e)) : ∃ d l, c.tryStrobe = d.report l ∧ (l = [] ∨ l = [.tryStrobe]) ∧
      c.Placed f.frame (c.targetOf e) (some {
        frame := f.frame, fullDepth := f.fullDepth, target := c.targetOf e, compare := c.compareValue (c.targetOf e) }) (some f) d := by
  obtain ⟨g, l, pc, placed, looks, placement, number, band, gprobe⟩ := Core.focusPlace_shape calm f.frame (c.targetOf e)
  refine ⟨(c.setFocus g).setCap { c.cap with
    armed := some { frame := f.frame, fullDepth := f.fullDepth, target := c.targetOf e, compare := c.compareValue (c.targetOf e) },
    flyby := some f }, l, ?_, looks, rfl, gprobe, pc, placement, number, band⟩
  rw [Core.tryStrobe_flyby stop probe, Core.flybyTry_arms flyby armed entry hand camera lamp ahead, placed, ← flyby]
  rfl
end

/-- A ready part's flyby frame gets the slot at the cursor. -/
theorem State.flybyReserved {s : State} {bs : List Byte} (hr : s.ready = true) (flight : s.core.cap.reservation = .flight)
    (free : fieldAt bs 0 4 = 0) : ∃ b : Core, s.core.reservationDone (.data bs) = b.emit .tryStrobe ∧ b.sig = [] ∧
      b.cap = { s.core.cap with
        reservation := .none, inHand := some s.core.cap.cursor, imageWait := none, reread := none
        cursor := if s.core.port.setup.slotCount ≤ s.core.cap.cursor + 1 then 0 else s.core.cap.cursor + 1 } ∧
      b.tr = s.core.tr ∧ b.rm = s.core.rm ∧ b.ix = s.core.ix ∧ b.prof = s.core.prof ∧ b.focus = s.core.focus ∧ b.pins = s.core.pins :=
  ⟨_, Core.reservationDone_reserves flight free, s.ready_sig hr, rfl, rfl, rfl, rfl, rfl, rfl, rfl⟩

/-- Settles O58. -/
theorem reservationsFollowTheRing : Obligations.ReservationsFollowTheRing := by
  refine ⟨fun c frame fullDepth hand idle => ?_, fun s hr => ⟨fun bs flight free still => ?_, fun bs x flight taken stop wait => ?_,
      fun x flight stop wait => ?_, fun x again hand idle => ?_, fun x q wait pass films going armed hold waiting => ?_⟩,
    fun bs f e target value s hr flight free stop flyby armed probe calm camera lamp entry aim compare => ⟨fun ahead => ?_,
      fun q n k late pass going act start size number move fast unsettled => ?_⟩⟩
  · have wants : (c.waitOff.setCap { c.waitOff.cap with flyby := some { frame := frame, fullDepth := fullDepth } }).wantSlot =
        c.setCap { c.cap with
          imageWait := none, reread := none, flyby := some { frame := frame, fullDepth := fullDepth }, reservation := .queued } := by
      unfold Core.wantSlot
      dsimp only
      exact (if_pos (by simp [Core.waitOff, hand, idle])).trans rfl
    rw [show c.flybyCurrent frame fullDepth = Core.flybyTry _ from congrArg Core.flybyTry wants]
    exact Core.flybyTry_keeps (by exact hand)
  · have done := Core.reservationDone_reserves flight free
    have settles : Core.Settles 1 _ _ := .tryStrobe (d := s.core.setCap { s.core.cap with
      reservation := .none, inHand := some s.core.cap.cursor, imageWait := none, reread := none
      cursor := if s.core.port.setup.slotCount ≤ s.core.cap.cursor + 1 then 0 else s.core.cap.cursor + 1 }) (s.ready_sig hr) still
    exact congrArg Host.Outcome.next (State.runCore_settles (f := fun c => c.reservationDone (.data bs)) hr done settles (by decide)
      ((Core.endDue_of_same rfl rfl).trans (s.ready_endDue hr)))
  · have done := (Core.reservationDone_taken flight taken).trans (Core.notReserved_waits (by exact stop) (by exact wait))
    exact congrArg Host.Outcome.next (State.runCore_settles (f := fun c => c.reservationDone (.data bs)) hr done (.quiet (s.ready_sig hr))
      (by decide) ((Core.endDue_of_same rfl rfl).trans (s.ready_endDue hr)))
  · have done := Core.reservationDone_error flight
    generalize hd : (s.core.setCap { s.core.cap with reservation := .none }).fault .memoryRead .captureUnit s.core.cap.cursor s.core.auxPass = d
      at done
    have fields : d.sig = [] ∧ d.cap = { s.core.cap with reservation := .none } ∧ d.rm = s.core.rm ∧ d.now = s.core.now ∧ d.prof = s.core.prof ∧
        d.out = [.fault ⟨.memoryRead, .captureUnit, BitVec.ofNat 24 s.core.cap.cursor, s.core.auxPass⟩] := by
      rw [← hd]
      exact ⟨s.ready_sig hr, rfl, rfl, rfl, rfl, Core.fault_out_alone (c := s.core.setCap _) (s.ready_out hr) ..⟩
    obtain ⟨sig, cap, rm, now, prof, out⟩ := fields
    rw [Core.notReserved_waits (c := d) (by rw [cap]; exact stop) (by rw [prof]; exact wait), cap, now] at done
    have run := State.runCore_settles (f := fun c => c.reservationDone .error) hr done (.quiet sig) (by decide)
      ((Core.endDue_of_same (c := s.core) (by exact rm) (by rfl)).trans (s.ready_endDue hr))
    exact ⟨_, congrArg Host.Outcome.next run, rfl, rfl, rfl, rfl, State.leaves_fault _ out⟩
  · have reads := (Core.when_true (c := s.core) (b := s.core.cap.reread.isSome) (by rw [again]; rfl) Core.reread).trans
      (Core.reread_queues hand idle)
    exact congrArg Host.Outcome.next (State.runCore_settles (f := fun c => c.when c.cap.reread.isSome Core.reread) hr reads
      (.quiet (s.ready_sig hr)) (by decide) ((Core.endDue_of_same rfl rfl).trans (s.ready_endDue hr)))
  · have expires := Core.when_true (c := s.core) (b := s.core.cap.imageWait.isSome) (by rw [wait]; rfl) Core.imageWaitOver
    obtain ⟨reservation, unqueued, over'⟩ : ∃ r : Reservation, r ≠ .queued ∧ s.core.imageWaitOver =
        (s.core.setCap { s.core.cap with imageWait := none, reread := none, reservation := r }).emit .noRoom := by
      unfold Core.imageWaitOver
      dsimp only
      split
      · exact ⟨.none, nofun, rfl⟩
      · exact ⟨.none, nofun, rfl⟩
      · exact ⟨.dead, nofun, rfl⟩
    rw [over'] at expires
    generalize hd : s.core.setCap { s.core.cap with imageWait := none, reread := none, reservation := reservation } = d at expires
    have fields : d.sig = [] ∧ d.rm = s.core.rm ∧ d.tr = s.core.tr ∧
        d.cap = { s.core.cap with imageWait := none, reread := none, reservation := reservation } := by
      rw [← hd]; exact ⟨s.ready_sig hr, rfl, rfl, rfl⟩
    obtain ⟨sig, rm, tr, cap⟩ := fields
    obtain ⟨port, shape, -⟩ := d.ended_shape q .noRoom
    have pass' : d.rm.pass = some q := by rw [rm]; exact pass
    have ends : d.handle .noRoom = ((d.setPass (q.ends .noRoom)).setCap d.cap.over).setPort port := by
      rw [Core.handle, Core.passNoRoom, Core.filming_eq pass' films going]
      dsimp only
      rw [Core.passEnding_disarmed (by rw [cap]; exact armed), if_neg (by
        rw [show d.underOrder = false by simp [Core.underOrder, tr, hold, waiting]]; exact Bool.false_ne_true), shape]
    have run := State.runCore_settles_end (f := fun c => c.when c.cap.imageWait.isSome Core.imageWaitOver) hr expires
      (.emit sig (by rw [ends]; exact .quiet (by exact sig))) (by decide)
    obtain ⟨port', rm', b, decided, ended⟩ := Core.tryEnd_shape (c := ((d.setPass (q.ends .noRoom)).setCap d.cap.over).setPort port) rfl
    rw [decided] at run
    refine ⟨_, { q.ends .noRoom with decided := b }, congrArg Host.Outcome.next run, ended, rfl, rfl, ?_⟩
    change d.cap.over.imageWait = none ∧ d.cap.over.reread = none ∧ d.cap.over.stop = none ∧ d.cap.over.inHand = s.core.cap.inHand ∧
      d.cap.over.reservation ≠ .queued ∧ d.tr = s.core.tr
    rw [cap]
    refine ⟨rfl, rfl, rfl, rfl, ?_, tr⟩
    unfold Capture.over
    dsimp only
    split
    · nofun
    · assumption
  · obtain ⟨b, done, sig, cap, tr, rm, ix, prof, focus, pins⟩ := s.flybyReserved hr flight free
    have same : b.targetOf e = target := by rw [aim, Core.targetOf, prof, ix]
    have at' : b.compareValue (b.targetOf e) = value := by rw [Core.compareValue_eq, same, compare, prof, tr]; rfl
    obtain ⟨d, l, tries, looks, frame, dprobe, pc, placed, number, band⟩ := Core.tryStrobe_arms (c := b) (f := f) (e := e)
      (by rw [cap]; exact flyby) (by rw [cap]; exact armed) (by rw [ix]; exact entry) (by rw [cap]; exact stop) (by rw [focus]; exact probe)
      (by rw [focus]; exact calm) (n := s.core.cap.cursor) (by rw [cap]) (by rw [cap]; exact camera) (by rw [cap]; exact lamp)
      (by rw [tr, at']; exact ahead)
    rw [at', same] at frame
    rw [same, prof] at band
    have fields : d.cap.armed = some { frame := f.frame, fullDepth := f.fullDepth, target := target, compare := value } ∧
        d.cap.flyby = some f ∧ d.cap.inHand = some s.core.cap.cursor ∧ d.cap.stop = none ∧ d.pins = s.core.pins ∧ d.rm = s.core.rm ∧
        d.sig = [] := by
      rw [frame]
      exact ⟨rfl, rfl, (congrArg Capture.inHand cap).trans rfl, (congrArg Capture.stop cap).trans stop, pins, rm, sig⟩
    obtain ⟨dcompare, dflyby, dhand, dstop, dpins, drm, dsig⟩ := fields
    have again : d.tryStrobe = d := (Core.tryStrobe_flyby dstop (by rw [dprobe, focus]; exact probe)).trans
      (Core.flybyTry_armed dcompare fun x hx => by cases dflyby.symm.trans hx; rfl)
    have settles : ∃ n, n ≤ 1 ∧ Core.Settles n b.tryStrobe d := by
      rw [tries]
      rcases looks with rfl | rfl
      · exact ⟨0, by decide, by rw [Core.report_nil]; exact .quiet dsig⟩
      · exact ⟨1, le_refl 1, .emit dsig (by rw [Core.handle, again]; exact .quiet dsig)⟩
    obtain ⟨m, few, settles⟩ := settles
    have run := State.runCore_settles (f := fun c => c.reservationDone (.data bs)) hr done (.emit sig settles) (by omega)
      (Core.endDue_of_armed dcompare)
    exact ⟨_, pc, congrArg Host.Outcome.next run, dcompare, dflyby, dhand, placed, number, band, congrArg Pins.strobes dpins, drm⟩
  · obtain ⟨b, done, sig, cap, tr, rm, ix, prof, focus, pins⟩ := s.flybyReserved hr flight free
    have same : b.targetOf e = target := by rw [aim, Core.targetOf, prof, ix]
    obtain ⟨d, l, tries, looks, frame, dprobe, pc, placed, at', -⟩ := Core.tryStrobe_late (c := b) (f := f) (e := e)
      (by rw [cap]; exact flyby) (by rw [cap]; exact armed) (by rw [ix]; exact entry) (by rw [cap]; exact stop) (by rw [focus]; exact probe)
      (by rw [focus]; exact calm) (by rw [tr, same]; exact late)
    have fields : d.cap.armed = none ∧ d.cap.flyby = none ∧ d.cap.stop = none ∧ d.pins = s.core.pins ∧ d.rm = s.core.rm ∧
        d.sig = [] ∧ d.tr = s.core.tr := by
      rw [frame]
      exact ⟨rfl, rfl, (congrArg Capture.stop cap).trans stop, pins, rm, sig, tr⟩
    obtain ⟨unarmed, unwalked, dstop, dpins, drm, dsig, dtr⟩ := fields
    have still (l : List Signal) : ({ d with sig := l } : Core).tryStrobe = { d with sig := l } := Core.tryStrobe_strobeless
      ((Core.strobeless_iff _).2 ⟨by rw [show Core.cap _ = d.cap from rfl, dstop]; rfl, unwalked, dprobe.trans (by rw [focus]; exact probe)⟩)
    have missed := Core.passMissed_last (c := d) (q := q) (n := n) (k := k) (by rw [drm]; exact pass) going act start size
      (by rw [dtr]; exact move) (by rw [dtr]; exact unsettled) (by rw [dtr]; exact fast.ne')
    rw [← number] at missed
    generalize hc : (d.setPass { q.miss k with act := .walkStop }).setTr _ = c at missed
    have fields : c.sig = [] ∧ c.cap = d.cap ∧ c.focus = d.focus ∧ c.pins = d.pins ∧ c.rm.pass = some { q.miss k with act := .walkStop } := by
      rw [← hc]; exact ⟨dsig, rfl, rfl, rfl, rfl⟩
    obtain ⟨csig, ccap, cfocus, cpins, cpass⟩ := fields
    have settles : ∃ n, n ≤ 2 ∧ Core.Settles n b.tryStrobe c := by
      rw [tries]
      rcases looks with rfl | rfl
      · exact ⟨1, by decide, .emit dsig (by rw [Core.handle, missed]; exact .quiet csig)⟩
      · refine ⟨2, le_refl 2, .reported (x := .tryStrobe) (l := [.flybyMissed f.frame]) (by rw [Core.report, dsig]; rfl) (still _) ?_⟩
        refine .reported (x := .flybyMissed f.frame) (l := []) rfl ?_ (.quiet csig)
        rw [show ({ d with sig := [] } : Core) = d by rw [← dsig]]
        exact missed
    obtain ⟨m, few, settles⟩ := settles
    have run := State.runCore_settles (f := fun c => c.reservationDone (.data bs)) hr done (.emit sig settles) (by omega)
      (Core.endDue_of_unended cpass going)
    refine ⟨_, { q.miss k with act := .walkStop }, pc, congrArg Host.Outcome.next run, ?_⟩
    rw [State.leaves_cap, State.leaves_focus, State.leaves_pins, State.leaves_rm, ccap, cfocus, cpins]
    exact ⟨unarmed, unwalked, placed, at', congrArg Pins.strobes dpins, cpass, Pass.stateAt_of_plan (Pass.mark_plan q k .missed), rfl⟩

end Sys2Proof.Machine
end

section
/-! SUPPORT. A probe's preview with the frame of a flyby walk wanted (R84, R127). -/

namespace Sys2Proof.Machine

/-! ## A probe's score meets a flyby frame (R84, R127) -/

/-- The preview of a probe, of one column and three lines. -/
def narrowPreview : Readout :=
  { preview := true, stopMode := true, width := 1, height := 3, depth := 1, lines := 0, holdTotal := 0, holdSince := none }

/-- The score of a preview whose Focus Window is its first row. -/
def firstRowScore : Score := { sum := 0, x := 0, y := 0, width := 1, height := 1, shift := 0 }

/-- A probe of frame 1 whose first preview is read out. -/
def firstPreview : Probe :=
  { frame := 1, target := 0, band := 0, delta := 0, centre := 0, shift := 0, scores := [], phase := .reading, cancelled := false }

/-- A pass that walks from frame 1. -/
def walkingPass : Pass :=
  { Pass.begin (.request .scan) 0 0 0 0 (Request.ofRoll .scan 0) .extending (.walking 0) with start := some 1 }

/-- A probe at rest on its next point, with frame 1 of a flyby walk wanted, which is not in the index. -/
def previewInWalk : State :=
  { State.reset with core := (((State.reset.core.setModes { Modes.reset with mode := .run }).setFocus {
      State.reset.core.focus with st := .probing, counter := 0, commanded := 0, homing := 0, settle := none, probe := some firstPreview }).setCap {
      State.reset.core.cap with
        camera := .readout, readout := some narrowPreview, score := some firstRowScore, flyby := some ⟨1, false⟩ }).setPass walkingPass }

theorem previewInWalk_misses : ∃ t, exec (.cameraLine [0]) previewInWalk = .next t ∧ (t.core.rm.pass.map (·.retryList)) = some [1] := by
  exact ⟨_, rfl, rfl⟩

/-- Refutes O59: the score of a probe that is at rest on its next point has the strobe conditions looked at, and with the
frame of a flyby walk wanted that is not in the index the look reports the frame LATE, which the pass takes for missed. The
statement says that the line leaves the Request Manager as it is. -/
theorem not_cameraLinesEnterTheFifo : ¬ Obligations.CameraLinesEnterTheFifo := by
  rintro ⟨-, scores, -⟩
  obtain ⟨next, -⟩ := scores [0] narrowPreview firstRowScore firstPreview 0 previewInWalk rfl rfl rfl rfl rfl (by decide) rfl (by decide)
    (by decide) (by decide) (by decide) rfl rfl rfl
  obtain ⟨t, w, runs, -, -, -, -, -, -, -, -, -, -, rm⟩ := next rfl (by decide)
  obtain ⟨u, misses, missed⟩ := previewInWalk_misses
  cases runs.symm.trans misses
  rw [rm] at missed
  exact absurd missed (by decide)

end Sys2Proof.Machine
end

section
/-! SUPPORT. The requests that are served as they are taken: SET PROFILE, EXPORT and CANCEL (R38, R41, R45, R165). -/

namespace Sys2Proof.Machine

/-! ## A slot taken for service -/

/-- `d` is `c` whose slot `n` has been taken with `stamp`. -/
structure Core.Taken (c : Core) (n stamp : Nat) (d : Core) : Prop where
  others : ∀ m, m ≠ n → d.rm.slots[m]? = c.rm.slots[m]?
  rm : d.rm = { c.rm with slots := d.rm.slots }
  results : d.port.results = c.port.results ++ [.taken n stamp]
  queue : d.port.boardQueue = c.port.boardQueue
  store : d.store = c.store
  tr : d.tr = c.tr
  porter : d.porter = c.porter
  focus : d.focus = c.focus
  cap : d.cap = c.cap
  roll : d.roll = c.roll
  sig : d.sig = c.sig
  out : d.out = c.out
  now : d.now = c.now

theorem Core.slotTaken_taken (c : Core) (n : Nat) (b : Bool) (stamp : Nat) : c.Taken n stamp ((c.lookLanded n b).slotTaken n stamp) := by
  obtain ⟨rm, port, -, store, tr, -, porter, focus, cap, roll, -, sig, out, now⟩ := (c.lookLanded n b).slotTaken_fields n stamp
  refine ⟨fun m other => ?_, ?_, ?_, ?_, store, tr, porter, focus, cap, roll, sig, out, now⟩
  · rw [rm]
    exact (getElem?_setAt _ _ _ _).trans (if_neg fun h => other h.1)
  · rw [rm]; rfl
  · rw [port]; rfl
  · rw [port]; rfl

theorem Core.Taken.idle {c d : Core} {n stamp : Nat} (h : c.Taken n stamp d) : d.endDue = c.endDue :=
  Core.endDue_of_pass (by rw [h.rm]) h.cap

section
variable {s : State} {n k : Nat} {b : Bool} {bs : List Byte} {r : Request} (hm : s.core.modes.mode = .run)
  (alone : s.core.looksAlone n b = true) (lookable : s.core.rm.slots[n]? = some .lookable) (posted : slotClass bs = .posted)
  (passed : validate s.core bs = .passed r k)
include hm alone lookable posted passed

/-- A lone posted look with an immediate request takes the slot and serves the request. -/
theorem State.takes_immediate : ∃ d, s.core.Taken n (fieldAt bs 0 2) d ∧
    (r.kind = .setProfile → s.core.lookDone n (.data bs) = d.serveProfile n (fieldAt bs 0 2) r) ∧
    (r.kind = .exportIndex → s.core.lookDone n (.data bs) = d.serveExport n (fieldAt bs 0 2) r) ∧
    (r.kind = .cancel → s.core.lookDone n (.data bs) = d.serveCancel n (fieldAt bs 0 2) r) := by
  have takes := (Core.lookDone_takes hm alone lookable posted).trans
    (Core.takeSlot_passed ((validate_lookLanded s.core n b bs).trans passed) n)
  exact ⟨_, s.core.slotTaken_taken n b _, fun kind => by rw [takes, kind], fun kind => by rw [takes, kind],
    fun kind => by rw [takes, kind]⟩
end

/-! ## CANCEL (R45) -/

section
variable {c : Core} {r : Request}

theorem Core.serveCancel_lookable (h : c.rm.slots[r.argA % 256]? = some .lookable) (slot stamp : Nat) : c.serveCancel slot stamp r =
    c.decideReturn (Return.plain slot stamp r.notify c.now .notFound 0x23) := by
  unfold Core.serveCancel
  dsimp only
  rw [h]
  rfl

theorem Core.serveCancel_pending {q : PendReq} (h : c.rm.slots[r.argA % 256]? = some (.held (r.argA / 65536 % 65536) .pendingSet))
    (found : (c.rm.held.find? fun q => q.slot = r.argA % 256 && q.stamp = r.argA / 65536 % 65536) = some q) (slot stamp : Nat) :
    c.serveCancel slot stamp r = (c.decideReturn { Return.plain (r.argA % 256) (r.argA / 65536 % 65536) q.req.notify q.takenAt
      .cancelled 0x28 with clamps := q.clamps }).decideReturn (Return.plain slot stamp r.notify c.now .done 0x20) := by
  unfold Core.serveCancel
  dsimp only
  rw [h]
  dsimp only
  rw [if_neg (not_not.2 rfl), found]
  rfl

theorem Core.serveCancel_active (h : c.rm.slots[r.argA % 256]? = some (.held (r.argA / 65536 % 65536) .activePass)) (slot stamp : Nat) :
    c.serveCancel slot stamp r = c.passCancel.decideReturn (Return.plain slot stamp r.notify c.passCancel.now .done 0x21) := by
  unfold Core.serveCancel
  dsimp only
  rw [h]
  exact if_neg (not_not.2 rfl)

theorem Core.serveCancel_export {e : Export} (h : c.rm.slots[r.argA % 256]? = some (.held (r.argA / 65536 % 65536) .immediate))
    (found : c.rm.exportOf (r.argA % 256) (r.argA / 65536 % 65536) = some e) (slot stamp : Nat) : c.serveCancel slot stamp r =
      (c.cancelExport e).decideReturn (Return.plain slot stamp r.notify (c.cancelExport e).now .done 0x22) := by
  unfold Core.serveCancel
  dsimp only
  rw [h]
  dsimp only
  rw [if_neg (not_not.2 rfl), found]
  rfl

theorem Core.serveCancel_loading {q : Served} (h : c.rm.slots[r.argA % 256]? = some (.held (r.argA / 65536 % 65536) .immediate))
    (none : c.rm.exports = []) (loading : c.rm.loading = some q) (slot' : q.slot = r.argA % 256)
    (stamp' : q.stamp = r.argA / 65536 % 65536) (slot stamp : Nat) : c.serveCancel slot stamp r =
      c.decideReturn (Return.plain slot stamp r.notify c.now .notFound 0x24) := by
  unfold Core.serveCancel
  dsimp only
  rw [h]
  dsimp only
  rw [if_neg (not_not.2 rfl), show c.rm.exportOf _ _ = Option.none by simp [ReqMgr.exportOf, none], loading]
  exact if_pos ⟨slot', stamp'⟩
end

/-! ## The cancel order of the Active Pass (R165) -/

/-- The film of a pass is stopped: it ends when the STOP is answered. -/
theorem Core.passCancel_stops {c : Core} {q : Pass} (pass : c.rm.pass = some q) (going : q.ending = none) (uncancelled : q.cancel = none)
    (films : q.films = true) (probe : c.focus.probe = none) (armed : c.cap.armed = none) (move : c.tr.st = .move)
    (unsettled : c.tr.phase ≠ .settle) (fast : c.tr.vRef ≠ 0) : ∃ port : Port, port.results = c.port.results ∧
      c.passCancel = (((c.setPass { ({ q with cancel := some q.st.cancelDetail, waitProbe := false } : Pass).ends
        (.cancelled q.st.cancelDetail) with waitStop := true }).setCap c.cap.over).setPort port).setTr
          { c.tr with plan := none, phase := .brake .stop, stopWaits := true, settleCount := none } := by
  have ends : c.passCancel = c.passEnding { q with cancel := some q.st.cancelDetail, waitProbe := false } (.cancelled q.st.cancelDetail) := by
    unfold Core.passCancel
    rw [pass]
    dsimp only
    refine (if_neg (by rw [going, uncancelled]; decide)).trans ((if_pos films).trans ?_)
    have unprobed : (if c.focus.probe.isSome = true then c.probeCancel else c) = c := if_neg (by rw [probe]; decide)
    rw [unprobed, probe]
    rfl
  obtain ⟨port, shape, same⟩ := c.ended_shape { q with cancel := some q.st.cancelDetail, waitProbe := false }
    (.cancelled q.st.cancelDetail)
  refine ⟨port, same, ?_⟩
  rw [ends, Core.passEnding_disarmed armed, if_pos (by simp [Core.underOrder, move]), shape]
  generalize hd : ((((c.setPass _).setCap c.cap.over).setPort port).setPass _ : Core) = d
  have tr : d.tr = c.tr := by rw [← hd]; rfl
  have stops : d.orderStop = d.setTr { d.tr with plan := none, phase := .brake .stop, stopWaits := true, settleCount := none } := by
    unfold Core.orderStop
    rw [tr, move]
    exact if_neg fun h => h.elim unsettled fast
  rw [stops, tr, ← hd]
  rfl

theorem Core.passCancel_marks {c : Core} {q : Pass} {x : Seq} (pass : c.rm.pass = some q) (going : q.ending = none)
    (uncancelled : q.cancel = none) (films : q.films = false) (seq : c.roll.seq = some x) : c.passCancel =
      (c.setPass { q with cancel := some q.st.cancelDetail }).setRoll { c.roll with seq := some { x with cancel := true } } := by
  unfold Core.passCancel
  rw [pass]
  dsimp only
  refine (if_neg (by rw [going, uncancelled]; decide)).trans ((if_neg (by exact ne_true_of_eq_false films)).trans ?_)
  rw [show (c.setPass { q with cancel := some q.st.cancelDetail }).roll = c.roll from rfl, seq]
  rfl

/-! ## The CANCEL of an EXPORT (R45) -/

theorem Core.endExport_alone {c : Core} {e : Export} (h : c.rm.exports = [e]) (o : Res) (d indexed : Nat) :
    c.endExport e o d indexed = (c.setRm { c.rm with exports := [] }).decideReturn
      { Return.plain e.slot e.stamp e.notify e.takenAt o d with indexed := indexed } := by
  have gone : ([e].filter fun f => !(decide (f.slot = e.slot) && decide (f.stamp = e.stamp))) = [] := by simp
  rw [Core.endExport, h, gone]

theorem Core.cancelExport_waiting {c : Core} {e : Export} (job : c.porter.job = .idle)
    (waiting : c.porter.waiting = [.exportFor e.slot e.stamp]) (alone : c.rm.exports = [e]) : c.cancelExport e =
      ((c.setPorter { c.porter with waiting := [] }).setRm { c.rm with exports := [] }).decideReturn
        (Return.plain e.slot e.stamp e.notify e.takenAt .cancelled 0x2E) := by
  have gone : (c.porter.waiting.filter (· != .exportFor e.slot e.stamp)) = [] := by simp [waiting]
  unfold Core.cancelExport
  rw [job]
  dsimp only
  rw [gone]
  exact Core.endExport_alone (by exact alone) ..

theorem Core.cancelExport_writing {c : Core} {e : Export} {j : ExportJob} (job : c.porter.job = .writing j)
    (mine : j.transfer = .exportFor e.slot e.stamp) (alone : c.rm.exports = [e]) : c.cancelExport e =
      (((c.setPorter { c.porter with job := .idle }).setRm { c.rm with exports := [] }).decideReturn
        { Return.plain e.slot e.stamp e.notify e.takenAt .cancelled 0x2F with indexed := min (j.issued - 3) j.count }).emit .exportEnded := by
  unfold Core.cancelExport
  rw [job]
  dsimp only
  rw [if_pos mine]
  exact congrArg (·.emit .exportEnded) (Core.endExport_alone
    (c := c.setPorter { c.porter with job := .idle }) alone .cancelled Det.whileExporting j.written)

theorem Core.handle_exportEnded {c : Core} (seq : c.roll.seq = none) : c.handle .exportEnded = c := by
  unfold Core.handle Core.seqExportEnded
  dsimp only
  rw [seq]

/-- Settles O25. -/
theorem immediateRequestsAreServed : Obligations.ImmediateRequestsAreServed := by
  intro n k b bs r s hr hm alone lookable posted passed
  obtain ⟨d, taken, profile, exports, cancels⟩ := State.takes_immediate hm alone lookable posted passed
  have quiet : d.sig = [] := taken.sig.trans (s.ready_sig hr)
  have still : d.endDue = false := taken.idle.trans (s.ready_endDue hr)
  have runs {c : Core} (effect : s.core.lookDone n (.data bs) = c) (sig : c.sig = []) (due : c.endDue = false) :
      exec (.slotLook n (.data bs)) s = .next (s.leaves c) :=
    congrArg Host.Outcome.next (State.runCore_settles (f := fun c => c.lookDone n (.data bs)) hr effect (.quiet sig) (by decide) due)
  have answered {c : Core} (x : Return) (results : c.port.results = d.port.results) :
      (c.decideReturn x).port.results = s.core.port.results ++ [.taken n (fieldAt bs 0 2), .result x] := by
    rw [Core.decideReturn_results, results, taken.results, List.append_assoc]
    rfl
  refine ⟨fun kind free idle => ?_, fun kind busy => ?_, fun kind => ?_, fun q kind other slot stamp only waits unreturned held => ?_,
    fun kind other held => ?_, ?_, ?_, ?_⟩
  · have serves : d.serveProfile n (fieldAt bs 0 2) r = ((d.setStore { d.store with
        load := some { slot := n, stamp := fieldAt bs 0 2, address := r.argA } }).setRm { d.rm with
          loading := some { slot := n, stamp := fieldAt bs 0 2, notify := r.notify, takenAt := d.now } }).setPort { d.port with
            boardQueue := d.port.boardQueue ++ [.profile r.argA] } := by
      refine if_neg ?_
      rw [taken.store, free, idle]
      decide
    refine ⟨_, runs ((profile kind).trans serves) quiet ((Core.endDue_of_pass (c := d) rfl rfl).trans still), ?_⟩
    rw [State.leaves_store, State.leaves_rm, State.leaves_boardQueue, State.leaves_results]
    refine ⟨?_, ?_, ?_, taken.results⟩
    · exact congrArg (fun x : Store => { x with load := some { slot := n, stamp := fieldAt bs 0 2, address := r.argA } }) taken.store
    · exact congrArg (fun t => some ({ slot := n, stamp := fieldAt bs 0 2, notify := r.notify, takenAt := t } : Served)) taken.now
    · exact congrArg (· ++ [BoardRead.profile r.argA]) taken.queue
  · have serves : d.serveProfile n (fieldAt bs 0 2) r = d.decideReturn (Return.plain n (fieldAt bs 0 2) r.notify d.now .profileBusy 0) := by
      refine if_pos ?_
      rw [taken.store, Bool.or_eq_true]
      exact busy.imp Option.isSome_iff_ne_none.2 Option.isSome_iff_ne_none.2
    refine ⟨_, runs ((profile kind).trans serves) quiet ((d.decideReturn_endDue _).trans still), ?_⟩
    rw [State.leaves_store, State.leaves_boardQueue, State.leaves_results, answered _ rfl, taken.now]
    exact ⟨taken.store, taken.queue, rfl⟩
  · refine ⟨_, runs ((exports kind).trans rfl) quiet ((Core.endDue_of_pass (c := d) rfl rfl).trans still), ?_⟩
    rw [State.leaves_rm, State.leaves_porter]
    refine ⟨?_, congrArg (fun x : Porter => x.waiting ++ [.exportFor n (fieldAt bs 0 2)]) taken.porter,
      (congrArg Porter.job taken.porter :)⟩
    change d.rm.exports ++ [_] = _
    rw [show d.rm.exports = s.core.rm.exports by rw [taken.rm], taken.now]
  · have found : (d.rm.held.find? fun q => q.slot = r.argA % 256 && q.stamp = r.argA / 65536 % 65536) = some q := by
      rw [ReqMgr.held, show d.rm.pendingSet = s.core.rm.pendingSet by rw [taken.rm], only]
      simp [waits, unreturned, slot, stamp]
    have serves := Core.serveCancel_pending (c := d) (by rw [taken.others _ other, ← slot, ← stamp]; exact held) found n (fieldAt bs 0 2)
    refine ⟨_, runs ((cancels kind).trans serves) quiet (by rw [Core.decideReturn_endDue, Core.decideReturn_endDue]; exact still), ?_⟩
    rw [State.leaves_results, Core.decideReturn_results, answered _ rfl, List.append_assoc, taken.now, slot, stamp]
    rfl
  · have serves := Core.serveCancel_lookable (c := d) ((taken.others _ other).trans held) n (fieldAt bs 0 2)
    refine ⟨_, runs ((cancels kind).trans serves) quiet ((d.decideReturn_endDue _).trans still), ?_⟩
    rw [State.leaves_results, answered _ rfl, taken.now]
  · rintro _ _ q kind rfl rfl other held pass going uncancelled
    have serves := Core.serveCancel_active (c := d) ((taken.others _ other).trans held) n (fieldAt bs 0 2)
    have pass' : d.rm.pass = some q := by rw [taken.rm]; exact pass
    refine ⟨fun detail films probe armed move unsettled fast stage => ?_, fun x films seq => ?_⟩
    · obtain ⟨port, results, stops⟩ := Core.passCancel_stops pass' going uncancelled films (by rw [taken.focus]; exact probe)
        (by rw [taken.cap]; exact armed) (by rw [taken.tr]; exact move) (by rw [taken.tr]; exact unsettled) (by rw [taken.tr]; exact fast.ne')
      have named : q.st.cancelDetail = detail := by
        rcases stage with ⟨st, rfl⟩ | ⟨st, rfl⟩ | ⟨st, rfl⟩ | ⟨st, rfl⟩ <;> rw [st] <;> rfl
      rw [named] at stops
      generalize hc : d.passCancel = c at serves stops
      have fields : c.port.results = d.port.results ∧ c.rm.pass = some { ({ q with cancel := some detail, waitProbe := false } : Pass).ends
          (.cancelled detail) with waitStop := true } ∧ c.tr.phase = .brake .stop ∧ c.tr.stopWaits = true ∧ c.cap = d.cap.over ∧
          c.sig = [] ∧ c.now = d.now := by
        rw [stops]
        exact ⟨results, rfl, rfl, rfl, rfl, quiet, rfl⟩
      obtain ⟨cresults, cpass, phase, waits, cap, sig, now⟩ := fields
      refine ⟨_, { ({ q with cancel := some detail, waitProbe := false } : Pass).ends (.cancelled detail) with waitStop := true },
        runs ((cancels kind).trans serves) sig (by rw [Core.decideReturn_endDue]; simp [Core.endDue, cpass]), ?_⟩
      rw [State.leaves_results, State.leaves_rm, State.leaves_tr, State.leaves_cap, answered _ cresults, now, taken.now,
        Core.decideReturn_cap, cap, taken.cap]
      exact ⟨rfl, cpass, rfl, rfl, rfl, rfl, rfl, phase, waits, rfl, rfl, rfl, rfl⟩
    · have marks := Core.passCancel_marks pass' going uncancelled films (by rw [taken.roll]; exact seq)
      generalize hc : d.passCancel = c at serves marks
      have fields : c.port.results = d.port.results ∧ c.rm.pass = some { q with cancel := some q.st.cancelDetail } ∧ c.tr = d.tr ∧
          c.roll.seq = some { x with cancel := true } ∧ c.sig = [] ∧ c.now = d.now := by
        rw [marks]
        exact ⟨rfl, rfl, rfl, rfl, quiet, rfl⟩
      obtain ⟨cresults, cpass, tr, cseq, sig, now⟩ := fields
      refine ⟨_, runs ((cancels kind).trans serves) sig ((Core.decideReturn_endDue _ _).trans
        (Core.endDue_of_unended cpass going)), ?_⟩
      rw [State.leaves_results, State.leaves_roll, State.leaves_tr, answered _ cresults, now, taken.now]
      exact ⟨rfl, cseq, tr.trans taken.tr⟩
  · rintro _ _ e kind rfl rfl other held only slot stamp seq
    have only' : d.rm.exports = [e] := by rw [taken.rm]; exact only
    have serves := Core.serveCancel_export (c := d) ((taken.others _ other).trans held)
      (by rw [← slot, ← stamp]; exact ReqMgr.exportOf_only only') n (fieldAt bs 0 2)
    rw [← slot, ← stamp]
    refine ⟨fun idle waiting => ?_, fun j writing mine => ?_⟩
    · have ends := Core.cancelExport_waiting (by rw [taken.porter]; exact idle) (by rw [taken.porter]; exact waiting) only'
      rw [ends] at serves
      refine ⟨_, runs ((cancels kind).trans serves) quiet (by
        rw [Core.decideReturn_endDue, Core.decideReturn_endDue]; exact (Core.endDue_of_pass (c := d) rfl rfl).trans still), rfl, rfl, ?_⟩
      rw [State.leaves_results, Core.decideReturn_results, answered _ (by rfl), List.append_assoc, Core.decideReturn_now]
      rw [show ∀ c : Core, ∀ x y, ((c.setPorter x).setRm y).now = c.now from fun _ _ _ => rfl, taken.now]
      rfl
    · have ends := Core.cancelExport_writing (by rw [taken.porter]; exact writing) mine only'
      generalize hc : ((d.setPorter { d.porter with job := .idle }).setRm { d.rm with exports := [] }).decideReturn _ = c at ends
      have fields : c.sig = [] ∧ c.rm.exports = [] ∧ c.porter.job = .idle ∧ c.now = d.now ∧ c.roll.seq = none ∧ c.endDue = false ∧
          c.port.results = s.core.port.results ++ [.taken n (fieldAt bs 0 2), .result
            { Return.plain e.slot e.stamp e.notify e.takenAt .cancelled 0x2F with indexed := min (j.issued - 3) j.count }] := by
        rw [← hc]
        exact ⟨quiet, rfl, rfl, rfl, (congrArg RollMgr.seq taken.roll).trans seq,
          (Core.decideReturn_endDue _ _).trans ((Core.endDue_of_pass (c := d) rfl rfl).trans still), answered _ rfl⟩
      obtain ⟨sig, none, job, now, unsequenced, due, results⟩ := fields
      rw [ends] at serves
      generalize hx : Return.plain n (fieldAt bs 0 2) r.notify (c.emit .exportEnded).now .done 0x22 = x at serves
      have settles : Core.Settles 1 ((c.decideReturn x).emit .exportEnded) (c.decideReturn x) :=
        .emit (by exact sig) (by rw [Core.handle_exportEnded (by exact unsequenced)]; exact .quiet (by exact sig))
      have run := State.runCore_settles (f := fun c => c.lookDone n (.data bs)) hr ((cancels kind).trans serves) settles (by decide)
        ((c.decideReturn_endDue x).trans due)
      refine ⟨_, congrArg Host.Outcome.next run, none, job, ?_⟩
      rw [State.leaves_results, Core.decideReturn_results, results, List.append_assoc, ← hx,
        show (c.emit .exportEnded).now = s.core.now from now.trans taken.now]
      rfl
  · rintro _ _ q kind rfl rfl other held none loading slot stamp
    have loading' : d.rm.loading = some q := by rw [taken.rm]; exact loading
    have serves := Core.serveCancel_loading (c := d) ((taken.others _ other).trans held) (by rw [taken.rm]; exact none) loading'
      slot stamp n (fieldAt bs 0 2)
    refine ⟨_, runs ((cancels kind).trans serves) quiet ((d.decideReturn_endDue _).trans still), loading', taken.store, ?_⟩
    rw [State.leaves_results, answered _ rfl, taken.now]

end Sys2Proof.Machine
end

section
/-! SUPPORT. Grants of the memory port: what each requester's transaction is, and what its issue does in its block (R24, R31,
R134, R141, R142, R144). -/

namespace Sys2Proof.Machine

/-! ## Grants -/

theorem Core.endDue_of_filling {c : Core} {im : Image} {rest : List Image} (h : c.cap.filling = im :: rest) : c.endDue = false := by
  simp only [Core.endDue, Capture.idle, h, List.isEmpty_cons, Bool.false_and, Bool.and_false]
  split <;> rfl

section
variable {s : State} {r : Requester} {x : Transaction} {c : Core} (hr : s.ready = true) (hw : r ≠ .statusWriter)
  (h : s.arbitrate = some (r, x)) (issues : (s.core.granted r x).issued r = c)
include hr hw h issues

/-- A grant whose issue reports nothing, and after which no end is due. -/
theorem State.grant_leaves (sig : c.sig = s.core.sig) (due : c.endDue = false) : exec .memoryPortGrant s = .next (s.leaves c) :=
  (State.exec_grant (s.ready_mode hr) hw h).trans (congrArg Host.Outcome.next (State.runCore_ready
    (f := fun c => (c.granted r x).issued r) hr issues (sig.trans (s.ready_sig hr)) due))

theorem State.grant_settles {d : Core} {n : Nat} (settles : Core.Settles n c d) (few : n ≤ 65536) :
    exec .memoryPortGrant s = .next (s.leaves d.tryEnd) :=
  (State.exec_grant (s.ready_mode hr) hw h).trans (congrArg Host.Outcome.next (State.runCore_settles_end
    (f := fun c => (c.granted r x).issued r) hr issues settles few))
end

/-- An issue that touches neither the passes nor the Capture Unit. -/
theorem State.grant_apart {s : State} {r : Requester} {x : Transaction} {c : Core} (hr : s.ready = true) (hw : r ≠ .statusWriter)
    (h : s.arbitrate = some (r, x)) (issues : (s.core.granted r x).issued r = c) (sig : c.sig = s.core.sig) (rm : c.rm = s.core.rm)
    (idle : c.cap.idle = s.core.cap.idle) : exec .memoryPortGrant s = .next (s.leaves c) :=
  State.grant_leaves hr hw h issues sig ((Core.endDue_of_same rm idle).trans (s.ready_endDue hr))

/-- A read of the Board Reader is no look exactly when its slot is HELD. -/
theorem Core.noLook_slot (c : Core) (n : Nat) (w : Bool) :
    c.noLook (.slot n w) = if c.rm.slots[n]? = some .lookable then [] else [(n, w)] := by
  by_cases look : c.rm.slots[n]? = some .lookable
  · exact (if_pos ((c.lookable_iff n).2 look)).trans (if_pos look).symm
  · exact (if_neg fun h => look ((c.lookable_iff n).1 h)).trans (if_neg look).symm

theorem Core.boardIssued_slot {c : Core} {n : Nat} {w : Bool} {rest : List BoardRead} (queue : c.port.boardQueue = .slot n w :: rest) :
    c.boardIssued = c.setPort { c.port with
      boardQueue := rest, boardFlight := c.port.boardFlight ++ [.slot n w]
      dropped := if c.rm.slots[n]? = some .lookable then c.port.dropped else c.port.dropped ++ [(n, w)] } := by
  unfold Core.boardIssued
  rw [queue]
  dsimp only
  rw [c.noLook_slot n w]
  split
  · rw [List.append_nil]
  · rfl

theorem Core.boardIssued_other {c : Core} {b : BoardRead} {rest : List BoardRead} (queue : c.port.boardQueue = b :: rest)
    (other : ∀ n w, b ≠ .slot n w) : c.boardIssued = c.setPort { c.port with
      boardQueue := rest, boardFlight := c.port.boardFlight ++ [b] } := by
  unfold Core.boardIssued
  rw [queue]
  cases b with
  | slot n w => exact absurd rfl (other n w)
  | setup part => exact congrArg c.setPort (by rw [show c.noLook (.setup part) = [] from rfl, List.append_nil])
  | profile a => exact congrArg c.setPort (by rw [show c.noLook (.profile a) = [] from rfl, List.append_nil])
  | selectionMap a k => exact congrArg c.setPort (by rw [show c.noLook (.selectionMap a k) = [] from rfl, List.append_nil])

theorem State.boardOffer {s : State} {x : Transaction} {b : BoardRead} {rest : List BoardRead}
    (queue : s.core.port.boardQueue = b :: rest) (h : s.arbitrate = some (.boardReader, x)) :
    x = .read .boardReader (s.core.boardAddress b).1 (s.core.boardAddress b).2 := by
  have offer := State.offer_of_arbitrate h
  rw [State.offer, queue] at offer
  exact (Option.some.inj offer).symm

theorem State.reservationOffer {s : State} {x : Transaction} (h : s.arbitrate = some (.reservationReader, x)) :
    x = .read .reservationReader s.core.cursorAddress 4 := by
  have offer := State.offer_of_arbitrate h
  rw [State.offer] at offer
  split at offer
  · exact (Option.some.inj offer).symm
  · cases offer

/-! ## The Index Porter (R24) -/

theorem State.porterOffer {s : State} {x : Transaction} {j : ExportJob} (job : s.core.porter.job = .writing j)
    (h : s.arbitrate = some (.indexPorter, x)) : x = .write .indexPorter (j.write s.core.ix).1 (j.write s.core.ix).2 := by
  have offer := State.offer_of_arbitrate h
  rw [State.offer, Core.porterNext, job] at offer
  exact (Option.some.inj offer).symm

theorem ExportJob.write_tail {j : ExportJob} (last : j.issued = j.count + 3) (ix : IndexUnit) :
    j.write ix = (j.address + 0x20 + 24 * j.count, bytesOf 4 j.stamp) := by
  unfold ExportJob.write
  dsimp only
  rw [last]
  exact if_neg (lt_irrefl _)

theorem Core.porterIssued_more {c : Core} {j : ExportJob} (job : c.porter.job = .writing j) (more : j.issued < j.count + 3) :
    c.porterIssued = c.setPorter { c.porter with job := .writing { j with issued := j.issued + 1 } } := by
  unfold Core.porterIssued
  rw [job]
  exact if_neg (by omega)

theorem Core.porterIssued_exported {c : Core} {j : ExportJob} {e : Export} (job : c.porter.job = .writing j)
    (last : j.issued = j.count + 3) (mine : j.transfer = .exportFor e.slot e.stamp) (alone : c.rm.exports = [e]) : c.porterIssued =
      (((c.setPorter { c.porter with job := .idle }).setRm { c.rm with exports := [] }).decideReturn
        { Return.plain e.slot e.stamp e.notify e.takenAt .done 0 with indexed := j.count }).emit .exportEnded := by
  unfold Core.porterIssued
  rw [job]
  dsimp only
  rw [if_pos last.ge, Core.exportDone]
  dsimp only
  rw [mine]
  dsimp only
  rw [show (c.setPorter { c.porter with job := .idle }).rm.exportOf e.slot e.stamp = some e from ReqMgr.exportOf_only alone]
  exact congrArg (·.emit .exportEnded) (Core.endExport_alone
    (c := c.setPorter { c.porter with job := .idle }) alone .done Det.none j.count)

/-! ## The Result Writer (R16, R31) -/

theorem State.resultOffer {s : State} {x : Transaction} {w : Nat × List Byte} (write : s.core.resultPrepare.resultWrite = some w)
    (h : s.arbitrate = some (.resultWriter, x)) : x = .write .resultWriter w.1 w.2 := by
  have offer := State.offer_of_arbitrate h
  rw [State.offer, write] at offer
  exact (Option.some.inj offer).symm

theorem Core.resultPrepare_taken {c : Core} {slot stamp : Nat} {rest : List ResultItem} (h : c.port.results = .taken slot stamp :: rest) :
    c.resultPrepare = c := by
  unfold Core.resultPrepare
  rw [h]

theorem Core.resultPrepare_first {c : Core} {r : Return} {rest : List ResultItem} (h : c.port.results = .result r :: rest)
    (first : r.issued = 0) : c.resultPrepare = c.setPort { c.port with results := .result (c.sampleResult r) :: rest } := by
  unfold Core.resultPrepare
  rw [h]
  exact if_pos first

theorem Core.resultPrepare_sampled {c : Core} {r : Return} {rest : List ResultItem} (h : c.port.results = .result r :: rest)
    (sampled : r.issued ≠ 0) : c.resultPrepare = c := by
  unfold Core.resultPrepare
  rw [h]
  exact if_neg sampled

theorem Core.resultIssued_taken {c : Core} {slot stamp : Nat} {rest : List ResultItem} (h : c.port.results = .taken slot stamp :: rest) :
    c.resultIssued = c.setPort { c.port with results := rest } := by
  unfold Core.resultIssued
  rw [h]

theorem Core.resultIssued_run {c : Core} {r : Return} {rest : List ResultItem} (h : c.port.results = .result r :: rest)
    (run : r.issued < 2) : c.resultIssued = c.setPort { c.port with results := .result { r with issued := r.issued + 1 } :: rest } := by
  unfold Core.resultIssued
  rw [h]
  exact if_pos run

theorem Core.resultWrite_taken {c : Core} {slot stamp : Nat} {rest : List ResultItem} (h : c.port.results = .taken slot stamp :: rest) :
    c.resultWrite = some (slotAddress (c.port.workArea.getD 0) slot 0x40, bytesOf 2 stamp) := by
  unfold Core.resultWrite
  rw [h]

theorem Core.resultWrite_first {c : Core} {r : Return} {rest : List ResultItem} (h : c.port.results = .result r :: rest)
    (first : r.issued = 0) : c.resultWrite = some (slotAddress (c.port.workArea.getD 0) r.slot 0x44, resultFields r) := by
  unfold Core.resultWrite
  dsimp only
  rw [h]
  dsimp only
  rw [first]
  rfl

theorem Core.resultWrite_second {c : Core} {r : Return} {rest : List ResultItem} (h : c.port.results = .result r :: rest)
    (second : r.issued = 1) : c.resultWrite = some (slotAddress (c.port.workArea.getD 0) r.slot 0x50, resultTail r) := by
  unfold Core.resultWrite
  dsimp only
  rw [h]
  dsimp only
  rw [second]
  rfl

/-! ## The Image Writer (R141) -/

theorem State.imageOffer {s : State} {x : Transaction} {w : Nat × List Byte} (h : s.arbitrate = some (.imageWriter, x))
    (write : s.core.cap.imageWrite s.core.stampInForce = some w) : x = .write .imageWriter w.1 w.2 := by
  have offer := State.offer_of_arbitrate h
  rw [State.offer, write] at offer
  exact (Option.some.inj offer).symm

section
variable {k : Capture} {im : Image} {rest : List Image} (filling : k.filling = im :: rest)
include filling

theorem Capture.imageWrite_tailZero (head : im.headDone = 0) (stamp : Nat) :
    k.imageWrite stamp = some (im.address + im.alloc - 4, bytesOf 4 0) := by
  unfold Capture.imageWrite
  rw [filling]
  exact if_pos head

theorem Capture.imageWrite_header (head : im.headDone = 1) (stamp : Nat) :
    k.imageWrite stamp = some (im.address, { im with imageStamp := stamp }.header) := by
  unfold Capture.imageWrite
  rw [filling]
  exact (if_neg (by rw [head]; decide)).trans (if_pos head)

theorem Capture.imageWrite_row {l : List Byte} {more : List (List Byte)} (head : im.headDone = 2) (rows : im.rowsDone < im.entered)
    (fifo : k.fifo = l :: more) (stamp : Nat) : k.imageWrite stamp =
      some (im.address + 0x40 + im.rowsDone * im.width * im.depth + im.chunksDone * 256, (l.drop (im.chunksDone * 256)).take 256) := by
  unfold Capture.imageWrite
  rw [filling]
  refine (if_neg (by rw [head]; decide)).trans ((if_neg (by rw [head]; decide)).trans ((if_pos rows).trans ?_))
  rw [fifo]

theorem Capture.imageWrite_ended (head : im.headDone = 2) (rows : im.rowsDone = im.entered) (ended : im.ended = true) (stamp : Nat) :
    k.imageWrite stamp = if im.closed then some (im.address + im.alloc - 4, bytesOf 4 im.imageStamp)
      else some (im.address + 0x16, im.closing (im.flags (im.soft.getD false) im.damaged) (im.score.getD 0) im.entered) := by
  unfold Capture.imageWrite
  rw [filling]
  exact (if_neg (by rw [head]; decide)).trans ((if_neg (by rw [head]; decide)).trans ((if_neg (by omega)).trans (if_pos ended)))
end

theorem Image.header_bytes (im : Image) : im.header =
    bytesOf 4 im.imageStamp ++ bytesOf 4 im.roll ++ bytesOf 4 im.frame ++ signedBytes 4 im.lead
      ++ signedBytes 4 im.pStrobe ++ bytesOf 2 im.step
      ++ bytesOf 2 (im.unsettled.toNat + 8 * im.fullDepth.toNat + 16 * im.stopMode.toNat + 32 * im.recapture.toNat)
      ++ bytesOf 4 0 ++ bytesOf 2 im.width ++ bytesOf 2 im.height ++ bytesOf 1 im.depth ++ bytesOf 1 im.slot
      ++ bytesOf 2 im.stamp ++ bytesOf 2 0 ++ bytesOf 2 0 ++ bytesOf 24 0 := by
  simp only [Image.header, Image.closing, Image.flags, Bool.toNat_false, Nat.mul_zero, Nat.add_zero, List.append_assoc]

/-- The header's write, with the stamp the image has got. -/
theorem Core.imageWrite_header {c : Core} {im : Image} {rest : List Image} (filling : c.cap.filling = im :: rest)
    (head : im.headDone = 1) (stamped : c.stampInForce = im.imageStamp) :
    c.cap.imageWrite c.stampInForce = some (im.address, im.header) := by
  rw [stamped]
  exact Capture.imageWrite_header filling head _

section
variable {c : Core} {im : Image} {rest : List Image} (filling : c.cap.filling = im :: rest)
include filling

theorem Core.stampInForce_first (head : im.headDone = 0) : c.stampInForce = c.prof.id * 16777216 + c.cap.counter := by
  unfold Core.stampInForce
  rw [filling]
  exact if_pos head

theorem Core.stampInForce_later (head : im.headDone ≠ 0) : c.stampInForce = im.imageStamp := by
  unfold Core.stampInForce
  rw [filling]
  exact if_neg head

theorem Core.imageIssued_tailZero (head : im.headDone = 0) : c.imageIssued = c.setCap { c.cap with
    filling := { im with headDone := 1, imageStamp := c.prof.id * 16777216 + c.cap.counter } :: rest } := by
  rw [← Core.stampInForce_first filling head]
  unfold Core.imageIssued
  dsimp only
  rw [filling]
  exact if_pos head

theorem Core.imageIssued_header (head : im.headDone = 1) : c.imageIssued = c.setCap { c.cap with
    filling := { im with headDone := 2 } :: rest } := by
  unfold Core.imageIssued
  dsimp only
  rw [filling]
  exact (if_neg (by rw [head]; decide)).trans (if_pos head)

theorem Core.imageIssued_row {l : List Byte} {more : List (List Byte)} (head : im.headDone = 2) (rows : im.rowsDone < im.entered)
    (fifo : c.cap.fifo = l :: more) : c.imageIssued = if l.length ≤ (im.chunksDone + 1) * 256 then
      (c.setCap { c.cap with filling := { im with rowsDone := im.rowsDone + 1, chunksDone := 0 } :: rest, fifo := more }).holdUpdate
      else c.setCap { c.cap with filling := { im with chunksDone := im.chunksDone + 1 } :: rest } := by
  unfold Core.imageIssued
  dsimp only
  rw [filling]
  refine (if_neg (by rw [head]; decide)).trans ((if_neg (by rw [head]; decide)).trans ((if_pos rows).trans ?_))
  rw [fifo]

theorem Core.imageIssued_ended (head : im.headDone = 2) (rows : im.rowsDone = im.entered) (ended : im.ended = true) : c.imageIssued =
    if im.closed then c.imageComplete im rest else c.setCap { c.cap with filling := { im with closed := true } :: rest } := by
  unfold Core.imageIssued
  dsimp only
  rw [filling]
  exact (if_neg (by rw [head]; decide)).trans ((if_neg (by rw [head]; decide)).trans ((if_neg (by omega)).trans (if_pos ended)))
end

/-! ## An image that is complete (R142, R159) -/

/-- A pass that ends, or none, takes an image for its record alone. -/
theorem Core.passImage_ending {c : Core} (ends : ∀ p, c.rm.pass = some p → p.ending ≠ none) (frame stamp : Nat)
    (damaged soft recapture : Bool) : ∃ rm, c.passImage frame stamp damaged soft recapture = c.setRm rm := by
  unfold Core.passImage
  split
  · exact ⟨c.rm, rfl⟩
  · next q pass =>
    have ends := Option.isSome_iff_ne_none.2 (ends q pass)
    dsimp only
    split
    · exact ⟨_, rfl⟩
    · refine ⟨_, if_pos ?_⟩
      split
      · exact ends
      · exact ends

/-- A walk's pass with the record of an image of its plan frame `k`. -/
def Pass.imaged (p : Pass) (k frame stamp : Nat) (damaged : Bool) : Pass :=
  let q := { p with firstImage := if p.firstImage = 0 then stamp else p.firstImage, lastImage := stamp }
  if damaged then q.miss k else { q.mark k .delivered with retryList := q.retryList.filter (· != frame) }

theorem Pass.imaged_fields (p : Pass) (k frame stamp : Nat) (damaged : Bool) :
    (p.imaged k frame stamp damaged).ending = p.ending ∧ (p.imaged k frame stamp damaged).act = p.act ∧
    (p.imaged k frame stamp damaged).size = p.size ∧ (p.imaged k frame stamp damaged).lastImage = stamp ∧
    ∃ n, (p.imaged k frame stamp damaged).plan[k]? = some { code := n, st := if damaged then .missed else .delivered } := by
  cases damaged with
  | true => exact ⟨rfl, rfl, rfl, rfl, _, Pass.mark_plan _ k .missed⟩
  | false => exact ⟨rfl, rfl, rfl, rfl, _, Pass.mark_plan _ k .delivered⟩

theorem Pass.imaged_retries {p : Pass} {n : Nat} (start : p.start = some n) (k stamp : Nat) :
    (p.retryList.length < 256 → n + k ∈ (p.imaged k (n + k) stamp true).retryList) ∧
    n + k ∉ (p.imaged k (n + k) stamp false).retryList := by
  refine ⟨fun room => ?_, fun mem => ?_⟩
  · have listed : (p.imaged k (n + k) stamp true).retryList = insertAsc (p.frame k) p.retryList := if_pos room
    rw [listed, Pass.frame, start]
    exact mem_insertAsc.2 (.inl rfl)
  · exact absurd (List.mem_filter.1 mem).2 (by simp)

/-- The report of a walk's last frame stops the walk. -/
theorem Core.passImage_last {c : Core} {p : Pass} {n k : Nat} (pass : c.rm.pass = some p) (going : p.ending = none)
    (act : p.act = .walkTail (k + 1)) (start : p.start = some n) (size : p.size = some (k + 1)) (moves : c.tr.st = .move)
    (unsettled : c.tr.phase ≠ .settle) (fast : c.tr.vRef ≠ 0) (stamp : Nat) (damaged soft recapture : Bool) :
    c.passImage (n + k) stamp damaged soft recapture = (c.setPass { p.imaged k (n + k) stamp damaged with act := .walkStop }).setTr {
      c.tr with plan := none, phase := .brake .stop, stopWaits := true, settleCount := none } := by
  obtain ⟨ending', act', size', -, code, planned⟩ := p.imaged_fields k (n + k) stamp damaged
  have gives : c.passImage (n + k) stamp damaged soft recapture =
      (c.setPass (p.imaged k (n + k) stamp damaged)).walkGive (p.imaged k (n + k) stamp damaged) (k + 1) := by
    have place : ({ p with firstImage := if p.firstImage = 0 then stamp else p.firstImage, lastImage := stamp } : Pass).place (n + k) =
        some k := by simp [Pass.place, start]
    unfold Core.passImage
    rw [pass]
    dsimp only
    rw [place]
    dsimp only
    rw [show (if damaged = true then _ else _) = p.imaged k (n + k) stamp damaged from rfl,
      if_neg (by rw [ending', going]; decide), act', act]
  have reported : (p.imaged k (n + k) stamp damaged).lastUnreported (k + 1) = false := by
    rw [Pass.lastUnreported_succ planned (by cases damaged <;> decide)]
    cases damaged <;> rfl
  have moves' : (c.setPass (p.imaged k (n + k) stamp damaged)).tr.st = .move := moves
  rw [gives, Core.walkGive, Pass.seekFrame_end (size'.trans size) 4096]
  dsimp only
  rw [if_neg (by rw [reported]; decide), Core.walkEnd, if_pos (by simp [Core.underOrder, moves'])]
  unfold Core.orderStop
  split
  · next hold => exact nomatch moves.symm.trans hold
  · exact if_neg fun h => h.elim unsettled fast
  · next stands => exact absurd moves stands

/-! ## The Status Writer (R21) -/

theorem State.statusOffer {s : State} {x : Transaction} {w : Nat × List Byte} {left : List (Nat × List Byte)} {b : Bool}
    {u : Option (Triggers × Bool)} (mark : s.front.snapMark = .writing (w :: left) b u) (h : s.arbitrate = some (.statusWriter, x)) :
    x = .write .statusWriter (addr (s.core.port.workArea.getD 0) (0x400 + w.1)) w.2 := by
  have offer := State.offer_of_arbitrate h
  rw [State.offer, Front.snapshotWrite, mark] at offer
  exact (Option.some.inj offer).symm

/-- A grant to the Status Writer goes on with the snapshot, and changes nothing else. -/
theorem State.exec_grant_status {s : State} {x : Transaction} (hr : s.ready = true) (h : s.arbitrate = some (.statusWriter, x)) :
    exec .memoryPortGrant s = .next (State.leaves { s with front := s.front.snapshotIssued (s.core.granted .statusWriter x) }
      (s.core.granted .statusWriter x)) := by
  have hm := s.ready_mode hr
  have still : (s.core.granted .statusWriter x).endDue = false := (Core.endDue_congr rfl rfl).trans (s.ready_endDue hr)
  have ready : State.ready { s with
      front := s.front.snapshotIssued (s.core.granted .statusWriter x), core := s.core.granted .statusWriter x } = true :=
    (State.ready_iff _).2 ⟨hm, s.ready_sig hr, s.ready_out hr, still⟩
  have granted : exec .memoryPortGrant s = .next (s.grant .statusWriter x) := by
    simp only [exec, execMemoryPortGrant, hm, if_false, h]
  rw [granted, State.grant, if_pos rfl]
  exact congrArg Host.Outcome.next (State.runCore_ready (f := fun c => c.issued .statusWriter) ready rfl (s.ready_sig hr) still)

/-! ## The Image Writer's part -/

theorem Core.tryEnd_issued (c : Core) : c.tryEnd.port.issued = c.port.issued := by
  cases pass : c.rm.pass with
  | none => rw [Core.tryEnd_of_not_due (Core.endDue_of_no_pass pass)]
  | some q =>
    cases due : c.endDue with
    | false => rw [Core.tryEnd_of_not_due due]
    | true => rw [Core.tryEnd_of_due pass due]; rfl

/-- What the Focus Unit has judged of an image, for the Frame Index (R124). -/
def Image.judged (im : Image) : Option (Nat × Bool) :=
  match im.soft, im.score with
  | some s, some v => some (v, s)
  | _, _ => none

/-- `d` is `c` whose oldest image `im` is complete, with the transaction `x` issued, and its report not yet taken. -/
structure Core.Completed (c : Core) (x : Transaction) (im : Image) (rest : List Image) (d : Core) : Prop where
  sig : d.sig = c.sig
  rm : d.rm = c.rm
  tr : d.tr = c.tr
  issued : d.port.issued = some x
  cap : d.cap = { c.cap with filling := rest, counter := nextStamp 16777215 c.cap.counter }
  ix : d.ix = c.ix.captureReport im.frame im.lead im.judged

theorem Core.imageComplete_completed (c : Core) (x : Transaction) (im : Image) (rest : List Image) : ∃ d : Core,
    (c.granted .imageWriter x).imageComplete im rest =
      d.emit (.imageDone im.frame im.imageStamp im.damaged (im.soft.getD false) im.recapture) ∧ c.Completed x im rest d :=
  ⟨_, rfl, rfl, rfl, rfl, rfl, rfl, rfl⟩

/-- An issue of the Image Writer that leaves an image filling. -/
theorem State.grant_image {s : State} {x : Transaction} {k : Capture} {im : Image} {rest : List Image} (hr : s.ready = true)
    (h : s.arbitrate = some (.imageWriter, x)) (issues : (s.core.granted .imageWriter x).imageIssued =
      (s.core.granted .imageWriter x).setCap k) (fills : k.filling = im :: rest) :
    exec .memoryPortGrant s = .next (s.leaves ((s.core.granted .imageWriter x).setCap k)) :=
  State.grant_leaves hr (by decide) h issues rfl (Core.endDue_of_filling (c := (s.core.granted .imageWriter x).setCap k) fills)

section
variable {im : Image} {rest : List Image} {x : Transaction} {s : State} (hr : s.ready = true) (filling : s.core.cap.filling = im :: rest)
  (h : s.arbitrate = some (.imageWriter, x))
include hr filling h

/-- The last run of a line: the line leaves the FIFO. -/
theorem State.grant_line {l : List Byte} {more : List (List Byte)} (head : im.headDone = 2) (rows : im.rowsDone < im.entered)
    (fifo : s.core.cap.fifo = l :: more) (last : l.length ≤ (im.chunksDone + 1) * 256) :
    ∃ t, exec .memoryPortGrant s = .next t ∧ t.core.cap.fifo = more ∧ t.core.port.issued = some x ∧
      t.core.cap.filling = { im with rowsDone := im.rowsDone + 1, chunksDone := 0 } :: rest ∧
      t.core.cap.counter = s.core.cap.counter ∧ t.core.ix = s.core.ix := by
  have issues := (Core.imageIssued_row (c := s.core.granted .imageWriter x) filling head rows fifo).trans (if_pos last)
  obtain ⟨hold, r, held⟩ := ((s.core.granted .imageWriter x).setCap { s.core.cap with
    filling := { im with rowsDone := im.rowsDone + 1, chunksDone := 0 } :: rest, fifo := more }).holdUpdate_shape
  exact ⟨_, State.grant_image hr h (issues.trans held) rfl, rfl, rfl, rfl, rfl, rfl⟩

/-- The tail stamp's issue completes the image, and its report is taken. -/
theorem State.grant_complete (head : im.headDone = 2) (rows : im.rowsDone = im.entered) (ended : im.ended = true)
    (closed : im.closed = true) : ∃ c, s.core.Completed x im rest c ∧ ∀ (d : Core) (n : Nat), n < 65536 →
      Core.Settles n (c.handle (.imageDone im.frame im.imageStamp im.damaged (im.soft.getD false) im.recapture)) d →
      exec .memoryPortGrant s = .next (s.leaves d.tryEnd) := by
  have issues := (Core.imageIssued_ended (c := s.core.granted .imageWriter x) filling head rows ended).trans (if_pos closed)
  obtain ⟨c, completes, completed⟩ := s.core.imageComplete_completed x im rest
  refine ⟨c, completed, fun d n few settles => ?_⟩
  exact State.grant_settles (n := n + 1) hr (by decide) h (issues.trans completes)
    (.emit (completed.sig.trans (s.ready_sig hr)) settles) few
end

/-- Settles O31. -/
theorem grantIssuesTransaction : Obligations.GrantIssuesTransaction := by
  refine ⟨fun s awake none => ?_, fun b rest x s hr queue h => ⟨?_, ?_, ?_⟩, fun x s hr h => ⟨?_, ?_⟩,
    fun j x s hr job h => ⟨fun more => ?_, ?_⟩, fun slot stamp rest x s hr results h => ?_,
    fun r rest x s hr results h => ⟨fun first => ?_, fun p e second sampled => ?_⟩,
    fun im rest x s hr filling h => ⟨fun head => ?_, fun head => ?_, fun l more head rows fifo => ⟨?_, fun runs => ?_, ?_⟩,
      fun head rows ended => ⟨fun closed => ?_, fun closed ends => ?_, fun p n k closed pass going act start size frame move fast steady => ?_⟩⟩,
    fun w left b u x s hr mark h => ⟨State.statusOffer mark h, _, rfl, State.exec_grant_status hr h⟩⟩
  · simp only [exec, execMemoryPortGrant, awake, if_false, none]
  · cases b with
    | slot n w => exact State.grant_apart hr (by decide) h (Core.boardIssued_slot (c := s.core.granted .boardReader x) queue) rfl rfl rfl
    | _ => exact State.grant_apart hr (by decide) h (Core.boardIssued_other (c := s.core.granted .boardReader x) queue nofun) rfl rfl rfl
  · rintro n w rfl
    exact State.boardOffer queue h
  · rintro a rfl
    exact State.boardOffer queue h
  · exact State.reservationOffer h
  · exact State.grant_apart hr (by decide) h rfl rfl rfl rfl
  · exact State.grant_apart hr (by decide) h (Core.porterIssued_more (c := s.core.granted .indexPorter x) job more) rfl rfl rfl
  · rintro _ _ e last mine alone rfl rfl seq
    have issues := Core.porterIssued_exported (c := s.core.granted .indexPorter x) job last mine alone
    refine ⟨(State.porterOffer job h).trans (by rw [ExportJob.write_tail last]), ?_⟩
    generalize hc : Core.decideReturn _ _ = c at issues
    have fields : c.sig = [] ∧ c.roll.seq = none ∧ c.endDue = false ∧ c.porter.job = .idle ∧
        c.porter.waiting = s.core.porter.waiting ∧ c.rm.exports = [] ∧ c.ix = s.core.ix ∧ c.port.results = s.core.port.results ++
          [.result { Return.plain e.slot e.stamp e.notify e.takenAt .done 0 with indexed := j.count }] := by
      rw [← hc]
      exact ⟨s.ready_sig hr, seq, (Core.decideReturn_endDue _ _).trans ((Core.endDue_of_pass (c := s.core) rfl rfl).trans (s.ready_endDue hr)),
        rfl, rfl, rfl, rfl, rfl⟩
    obtain ⟨sig, unsequenced, due, idle, waiting, none, ix, results⟩ := fields
    have run := State.grant_settles hr (by decide) h issues
      (.emit sig (by rw [Core.handle_exportEnded unsequenced]; exact .quiet sig)) (by decide)
    rw [Core.tryEnd_of_not_due due] at run
    exact ⟨_, run, idle, waiting, none, results, ix⟩
  · have prepared : (s.core.granted .resultWriter x).resultPrepare = s.core.granted .resultWriter x := Core.resultPrepare_taken results
    refine ⟨State.resultOffer ((congrArg Core.resultWrite (Core.resultPrepare_taken results)).trans (Core.resultWrite_taken results)) h, ?_⟩
    exact State.grant_apart hr (by decide) h ((congrArg Core.resultIssued prepared).trans
      (Core.resultIssued_taken (c := s.core.granted .resultWriter x) results)) rfl rfl rfl
  · have write := (congrArg Core.resultWrite (Core.resultPrepare_first results first)).trans
      (Core.resultWrite_first (r := s.core.sampleResult r) rfl first)
    refine ⟨State.resultOffer write h, ?_⟩
    have issues := (congrArg Core.resultIssued (Core.resultPrepare_first (c := s.core.granted .resultWriter x) results first)).trans
      (Core.resultIssued_run (r := (s.core.granted .resultWriter x).sampleResult r) rfl (by rw [Core.sampleResult, first]; decide))
    rw [Core.sampleResult, first] at issues
    exact State.grant_apart hr (by decide) h issues rfl rfl rfl
  · have prepared (c : Core) (same : c.port.results = .result r :: rest) : c.resultPrepare = c :=
      Core.resultPrepare_sampled same (by rw [second]; decide)
    have write := (congrArg Core.resultWrite (prepared s.core results)).trans (Core.resultWrite_second results second)
    rw [resultTail, sampled] at write
    refine ⟨State.resultOffer write h, ?_⟩
    have issues := (congrArg Core.resultIssued (prepared (s.core.granted .resultWriter x) results)).trans
      (Core.resultIssued_run (c := s.core.granted .resultWriter x) results (by rw [second]; decide))
    rw [second] at issues
    exact State.grant_apart hr (by decide) h issues rfl rfl rfl
  · exact ⟨State.imageOffer h (Capture.imageWrite_tailZero filling head _), State.grant_image hr h
      (Core.imageIssued_tailZero (c := s.core.granted .imageWriter x) filling head) rfl⟩
  · have write := Core.imageWrite_header filling head (Core.stampInForce_later filling (by rw [head]; decide))
    rw [im.header_bytes] at write
    exact ⟨State.imageOffer h write, State.grant_image hr h
      (Core.imageIssued_header (c := s.core.granted .imageWriter x) filling head) rfl⟩
  · exact State.imageOffer h (Capture.imageWrite_row filling head rows fifo _)
  · exact State.grant_image hr h ((Core.imageIssued_row (c := s.core.granted .imageWriter x) filling head rows fifo).trans
      (if_neg (by omega))) rfl
  · exact State.grant_line hr filling h head rows fifo
  · have write := Capture.imageWrite_ended filling head rows ended s.core.stampInForce
    rw [if_neg (by rw [closed]; decide)] at write
    exact ⟨State.imageOffer h write, State.grant_image hr h ((Core.imageIssued_ended (c := s.core.granted .imageWriter x) filling head rows
      ended).trans (if_neg (by rw [closed]; decide))) rfl⟩
  · have write := (Capture.imageWrite_ended filling head rows ended s.core.stampInForce).trans (if_pos closed)
    refine ⟨State.imageOffer h write, ?_⟩
    obtain ⟨c, completed, run⟩ := State.grant_complete hr filling h head rows ended closed
    obtain ⟨rm, imaged⟩ := Core.passImage_ending (c := c) (by rw [completed.rm]; exact ends) im.frame im.imageStamp im.damaged
      (im.soft.getD false) im.recapture
    have run := run _ 0 (by decide) (by rw [Core.handle, imaged]; exact .quiet (completed.sig.trans (s.ready_sig hr)))
    refine ⟨_, run, ?_⟩
    rw [State.leaves_cap, State.leaves_ix, State.leaves_tr, Core.tryEnd_cap, Core.tryEnd_ix, Core.tryEnd_tr]
    refine ⟨congrArg Capture.filling completed.cap, (Core.tryEnd_issued _).trans completed.issued, congrArg Capture.counter completed.cap,
      completed.ix, completed.tr⟩
  · obtain ⟨c, completed, run⟩ := State.grant_complete hr filling h head rows ended closed
    have last := Core.passImage_last (c := c) (by rw [completed.rm]; exact pass) going act start size (by rw [completed.tr]; exact move)
      (by rw [completed.tr]; exact steady) (by rw [completed.tr]; exact fast.ne') im.imageStamp im.damaged (im.soft.getD false) im.recapture
    rw [← frame] at last
    obtain ⟨going', -, -, stamp, code, planned⟩ := p.imaged_fields k im.frame im.imageStamp im.damaged
    obtain ⟨retries, delivered⟩ := Pass.imaged_retries start k im.imageStamp
    rw [← frame] at retries delivered
    generalize hd : Core.setTr _ _ = d at last
    have fields : d.sig = [] ∧ d.rm.pass = some { p.imaged k im.frame im.imageStamp im.damaged with act := .walkStop } ∧
        d.cap.filling = rest ∧ d.tr.phase = .brake .stop := by
      rw [← hd]
      exact ⟨completed.sig.trans (s.ready_sig hr), rfl, congrArg Capture.filling completed.cap, rfl⟩
    obtain ⟨sig, dpass, fills, phase⟩ := fields
    have run := run d 0 (by decide) (by rw [Core.handle, last]; exact .quiet sig)
    rw [Core.tryEnd_of_not_due (Core.endDue_of_unended dpass (going'.trans going))] at run
    refine ⟨_, _, run, fills, dpass, Pass.stateAt_of_plan planned, stamp, fun damaged room => ?_, fun sound => ?_, rfl, phase⟩
    · rw [damaged]
      exact retries room
    · rw [sound]
      exact delivered

end Sys2Proof.Machine
end
